-- ==== Sys2Proof/Word.lean ====
section
/-! DEFINITION. The word types of the part: the 32-bit wrapping timebase reading and the 16-bit word of the service port. -/

namespace Sys2Proof

/-- A reading of the station's free-running microsecond counter, 32 bits wide, which wraps (00 section 5.2). -/
abbrev Time := BitVec 32

/-- The data word of a service frame, of a response and of a view (R205, R206). -/
abbrev DataWord := BitVec 16

end Sys2Proof
end

