-- ==== Sys2Proof/Config.lean ====
section
/-! DEFINITION. What the part fixes: the named durations of 00 Table 0-5 and the sizes of its stores; and the FREE VALUES,
constants without a body that stand for what the spec does not state. -/

namespace Sys2Proof.Config

/-! Named durations in microseconds (00 Table 0-5, 08 R146). -/

abbrev joinListen : Nat := 300000
abbrev statusSpacing : Nat := 100000
abbrev tachStall : Nat := 250000
abbrev sourceAging : Nat := 500000
abbrev holdBeacon : Nat := 200000
abbrev fastBeacon : Nat := 40000
abbrev keyDebounce : Nat := 20000
abbrev signalWatch : Nat := 100000

/-! Sizes. -/

/-- Frames the transmit queue holds (R11). -/
abbrev queueSize : Nat := 8
/-- Oldest age of a beacon that is still sent, in microseconds (R12). -/
abbrev maxBeaconAge : Nat := 4095
/-- Entries of the peer table (R20). -/
abbrev peerCount : Nat := 24
/-- Indexes of the source list (R43). -/
abbrev sourceCount : Nat := 8
/-- Entries of the cue table (R78). -/
abbrev cueCount : Nat := 32
/-- Headers the staging set holds (R82). -/
abbrev stageSize : Nat := 4
/-- Elements the due list holds (R113). -/
abbrev dueSize : Nat := 24
/-- Entries the tally set holds (R140). -/
abbrev tallySize : Nat := 8
/-- Records the mark log holds (R171). -/
abbrev logSize : Nat := 8
/-- Streamers a field list holds (R158). -/
abbrev streamerMax : Nat := 4

/-- DESIGN CHOICE (log entry 9). FREE VALUE: the response data word of a refusal or an abandonment for which the spec states
none. `n` counts the uses, so that no two of them are tied to each other. -/
opaque freeResponse (n : Nat) : DataWord

/-- DESIGN CHOICE (log entry 10). FREE VALUE: what a 24-bit frame field holds for a position whose frame lies outside
-8,388,608 to +8,388,607. -/
opaque freeFrame (position : Int) : BitVec 24

end Sys2Proof.Config
end

