-- ==== Sys2Proof/Syntax.lean ====
section
/-! DEFINITION. The commands of the part: `Instr` has one constructor per row of `opcode_table.json`. Every command carries
`t`, the timebase reading of its moment (log entry 1). The fields of line frames stand at their widths of Chapter 12. -/

namespace Sys2Proof

/-- The two tach channels; as a lock and as a punch line, A is PA and B is PB. -/
inductive Chan where
  | a | b
  deriving DecidableEq, Repr

/-- The tach lines of a channel that TACH_EDGE speaks of (R23). -/
inductive TachLine where
  | p1 | p2
  deriving DecidableEq, Repr

/-- The straps as they stand at a sampling (R187). -/
structure Straps where
  station : BitVec 5
  rank : BitVec 3
  autostart : Bool
  deriving DecidableEq, Repr

/-- The levels of the input pins that the part samples or follows (00 Table 0-6). -/
structure Levels where
  ap1 : Bool
  ap2 : Bool
  aix : Bool
  bp1 : Bool
  bp2 : Bool
  bix : Bool
  markn : Bool
  deriving DecidableEq, Repr

/-- The view, index and word fields of a command frame (12 Table 12-10). -/
structure CmdFields where
  view : BitVec 4
  index : BitVec 6
  word : BitVec 10
  deriving DecidableEq, Repr

/-- A command frame but for its code: its fields, and its bits 15 to 10, which Table 12-10 marks not used and the port samples all
the same (R176, R205). -/
structure CmdFrame where
  fields : CmdFields
  unused : BitVec 6
  deriving DecidableEq, Repr

/-- The word field of a SEND's command frame, with the seven bits that Table 12-10 marks not used: bit 25, then bits 15 to 10. -/
structure SendWord where
  word : BitVec 10
  unused : BitVec 7
  deriving DecidableEq, Repr

/-- A data frame: its data, and the fifteen bits below them, which Table 12-10 marks not used. -/
structure DataFrame where
  data : DataWord
  unused : BitVec 15
  deriving DecidableEq, Repr

/-! Payloads of the line frames, field by field (12 Tables 12-2 to 12-8). -/

/-- BEACON payload (Table 12-2). -/
structure Beacon where
  rank : BitVec 3
  motion : BitVec 2
  kind : BitVec 1
  wrap : BitVec 1
  frame : BitVec 24
  phase : BitVec 8
  interval : BitVec 20
  age : BitVec 12
  deriving DecidableEq, Repr

/-- PUNCH payload but for its edge (Table 12-3). -/
structure PunchArgs where
  group : BitVec 4
  reel : BitVec 6
  id : BitVec 12
  reason : BitVec 2
  frame : BitVec 24
  phase : BitVec 8
  deriving DecidableEq, Repr

/-- CONTROL payload but for its op (Table 12-4). -/
structure ControlArgs where
  target : BitVec 5
  reel : BitVec 6
  id : BitVec 12
  arg1 : BitVec 24
  arg2 : BitVec 24
  deriving DecidableEq, Repr

/-- CUEHEAD payload (Table 12-5). -/
structure CueHead where
  id : BitVec 12
  reel : BitVec 6
  global : BitVec 1
  mask : BitVec 16
  group : BitVec 5
  frame : BitVec 24
  phase : BitVec 8
  deriving DecidableEq, Repr

/-- CUEBODY payload (Table 12-6). -/
structure CueBody where
  id : BitVec 12
  reel : BitVec 6
  streamer : BitVec 8
  colour : BitVec 2
  beeps : BitVec 3
  spacing : BitVec 7
  light : BitVec 1
  lightLead : BitVec 8
  lightHold : BitVec 8
  punchLead : BitVec 8
  outOffset : BitVec 12
  deriving DecidableEq, Repr

/-- MARK payload (Table 12-7). -/
structure Mark where
  serial : BitVec 8
  absent : BitVec 1
  frame : BitVec 24
  phase : BitVec 8
  refState : BitVec 2
  motion : BitVec 2
  mode : BitVec 2
  reel : BitVec 6
  id : BitVec 12
  deriving DecidableEq, Repr

/-- STATUS payload (Table 12-8). -/
structure Status where
  refState : BitVec 2
  motion : BitVec 2
  mode : BitVec 1
  lockA : BitVec 2
  lockB : BitVec 2
  fault : BitVec 1
  deriving DecidableEq, Repr

/-- A line frame without its sender: class and payload (R1, R203). -/
inductive LineFrame where
  | beacon (p : Beacon)
  | punch (edge : BitVec 1) (p : PunchArgs)
  | control (op : BitVec 4) (p : ControlArgs)
  | cueHead (p : CueHead)
  | cueBody (p : CueBody)
  | mark (p : Mark)
  | status (p : Status)
  deriving DecidableEq, Repr

/-- What a receiver knows of a frame whose check fails (R4): its sender field, and how many recessive bits stand at its end, after
its last dominant bit. -/
structure FailedFrame where
  sender : BitVec 5
  tail : Nat
  deriving DecidableEq, Repr

/-- The commands: one constructor per row of `opcode_table.json`. `t` is the moment; `stamp` the arrival stamp of a received
frame (its start bit, R3); `sender` its sender field; `f` a service command frame but for its code, or a frame whose check fails; `d` a
service data frame. -/
inductive Instr where
  /-- FULL_RESET (R191): power-up, or RESETN returning inactive, with the straps and pin levels found then. -/
  | fullReset (t : Time) (straps : Straps) (levels : Levels)
  /-- IDLE_FRAME (R177). -/
  | idleFrame (t : Time)
  /-- RESYNCHRONISE (R176). -/
  | resynchronise (t : Time)
  /-- READ (R179). -/
  | read (t : Time) (f : CmdFrame)
  /-- MARK_RECORD_TAKE (R172): a READ of the last word of MARK index 0, its not-used bits 0 (READ carries any). -/
  | markRecordTake (t : Time)
  /-- WRITE (R180): the command frame. -/
  | write (t : Time) (f : CmdFrame)
  /-- WRITE_CONFIG (R185): the data frame of a WRITE to CONFIG. -/
  | writeConfig (t : Time) (d : DataFrame)
  /-- WRITE_ALERT_ENABLE (R198): the data frame of a WRITE to ALERT word 0. -/
  | writeAlertEnable (t : Time) (d : DataFrame)
  /-- WRITE_ALERT_PENDING (R199): the data frame of a WRITE to ALERT word 1. -/
  | writeAlertPending (t : Time) (d : DataFrame)
  /-- WRITE_FAULT (R195): the data frame of a WRITE to the FAULT view. -/
  | writeFault (t : Time) (d : DataFrame)
  /-- WRITE_DATA_OTHER (R180): the data frame of a WRITE to what may not be written. -/
  | writeDataOther (t : Time) (d : DataFrame)
  /-- WATCH (R181). -/
  | watch (t : Time) (f : CmdFrame)
  /-- NOP (R183). -/
  | nop (t : Time) (f : CmdFrame)
  /-- SEND (R182): the command frame, with its class and the index and word fields it does not use. -/
  | send (t : Time) (cls : BitVec 3) (index : BitVec 6) (word : SendWord)
  /-- SEND_PAYLOAD_WORD (R182). -/
  | sendPayloadWord (t : Time) (d : DataFrame)
  /-- START (R188). -/
  | start (t : Time) (f : CmdFrame)
  /-- RESTART (R190), with the straps found at its sampling. -/
  | restart (t : Time) (f : CmdFrame) (straps : Straps)
  /-- UNKNOWN_COMMAND (R183): a command frame with a code of 7 to 31. -/
  | unknownCommand (t : Time) (code : BitVec 5) (f : CmdFrame)
  /-- STRAY_DATA_FRAME (R177). -/
  | strayDataFrame (t : Time) (d : DataFrame)
  /-- BEACON_FRAME (R42). -/
  | beaconFrame (t stamp : Time) (sender : BitVec 5) (p : Beacon)
  /-- CUEHEAD_FRAME (R82). -/
  | cueheadFrame (t stamp : Time) (sender : BitVec 5) (p : CueHead)
  /-- CUEBODY_FRAME (R84). -/
  | cuebodyFrame (t stamp : Time) (sender : BitVec 5) (p : CueBody)
  /-- ARM (R106): CONTROL op 0. -/
  | arm (t stamp : Time) (sender : BitVec 5) (p : ControlArgs)
  /-- ARMREEL (R107): CONTROL op 1. -/
  | armreel (t stamp : Time) (sender : BitVec 5) (p : ControlArgs)
  /-- DISARM (R108): CONTROL op 2. -/
  | disarm (t stamp : Time) (sender : BitVec 5) (p : ControlArgs)
  /-- DISARMALL (R108): CONTROL op 3. -/
  | disarmall (t stamp : Time) (sender : BitVec 5) (p : ControlArgs)
  /-- DROP (R93): CONTROL op 4. -/
  | drop (t stamp : Time) (sender : BitVec 5) (p : ControlArgs)
  /-- DROPREEL (R94): CONTROL op 5. -/
  | dropreel (t stamp : Time) (sender : BitVec 5) (p : ControlArgs)
  /-- DROPALL (R95): CONTROL op 6. -/
  | dropall (t stamp : Time) (sender : BitVec 5) (p : ControlArgs)
  /-- MODE (R109): CONTROL op 7. -/
  | mode (t stamp : Time) (sender : BitVec 5) (p : ControlArgs)
  /-- WRAP (R29): CONTROL op 8. -/
  | wrap (t stamp : Time) (sender : BitVec 5) (p : ControlArgs)
  /-- ATTENTION (R200): CONTROL op 9. -/
  | attention (t stamp : Time) (sender : BitVec 5) (p : ControlArgs)
  /-- CONTROL_UNKNOWN (R196): CONTROL op 10 to 15. -/
  | controlUnknown (t stamp : Time) (sender : BitVec 5) (op : BitVec 4) (p : ControlArgs)
  /-- PUNCH_IN_FRAME (R140): PUNCH with edge IN. -/
  | punchInFrame (t stamp : Time) (sender : BitVec 5) (p : PunchArgs)
  /-- PUNCH_OUT_FRAME (R141): PUNCH with edge OUT. -/
  | punchOutFrame (t stamp : Time) (sender : BitVec 5) (p : PunchArgs)
  /-- MARK_FRAME (R173). -/
  | markFrame (t stamp : Time) (sender : BitVec 5) (p : Mark)
  /-- STATUS_FRAME (R20). -/
  | statusFrame (t stamp : Time) (sender : BitVec 5) (p : Status)
  /-- OWN_NUMBER_FRAME (R16): a passing frame with the own number that this station did not send. -/
  | ownNumberFrame (t : Time)
  /-- LINE_CHECK (R4): a frame completes whose check fails. -/
  | lineCheck (t : Time) (f : FailedFrame)
  /-- FRAMING_VIOLATION (R3): a dominant bit on the line. In READY after fewer than 11 recessive bits it is the violation; R3 says
  what it is elsewhere (log entry 6). -/
  | framingViolation (t : Time)
  /-- BAD_CLASS_OR_SENDER (R4): the header's bits as read: `none` for class 7, the class and the sender field for a sender of 24
to 31. -/
  | badClassOrSender (t : Time) (header : Option (BitVec 3 × BitVec 5))
  /-- TRANSMIT_START (R13). -/
  | transmitStart (t : Time)
  /-- LOST_ARBITRATION (R8). -/
  | lostArbitration (t : Time)
  /-- OWN_BIT_ERROR (R9). -/
  | ownBitError (t : Time)
  /-- TRANSMIT_COMPLETE (R10). -/
  | transmitComplete (t : Time)
  /-- JOIN_LISTEN_EXPIRY (R15). -/
  | joinListenExpiry (t : Time)
  /-- STATUS_SPACING_EXPIRY (R19). -/
  | statusSpacingExpiry (t : Time)
  /-- TACH_EDGE (R23): the line takes the level. -/
  | tachEdge (t : Time) (ch : Chan) (line : TachLine) (level : Bool)
  /-- INDEX_PULSE (R35): an edge of IX to the level; a rising one is the pulse, a falling one only readies the next. -/
  | indexPulse (t : Time) (ch : Chan) (level : Bool)
  /-- TACH_STALL_EXPIRY (R27). -/
  | tachStallExpiry (t : Time) (ch : Chan)
  /-- SOURCE_AGING_EXPIRY (R44), of the REMOTE entry of `sender`. -/
  | sourceAgingExpiry (t : Time) (sender : BitVec 5)
  /-- HOLD_BEACON_TIMER_EXPIRY (R49). -/
  | holdBeaconTimerExpiry (t : Time)
  /-- ELEMENT_TIMER_EXPIRY (R114). -/
  | elementTimerExpiry (t : Time)
  /-- TONE_GATE_END (R139). -/
  | toneGateEnd (t : Time)
  /-- VSYNC_EDGE (R154): `lines` counts the HSYNC leading edges of the ended field, `pixels` the PIXCLK edges of each of its
  complete lines (R145). -/
  | vsyncEdge (t : Time) (lines : Nat) (pixels : List Nat)
  /-- FRONT_LIST_SWAP (R155). -/
  | frontListSwap (t : Time)
  /-- SIGNAL_WATCH_EXPIRY (R146). -/
  | signalWatchExpiry (t : Time)
  /-- MARKN_FALLING_EDGE (R165). -/
  | marknFallingEdge (t : Time)
  /-- MARKN_RISING_EDGE (R166). -/
  | marknRisingEdge (t : Time)
  /-- KEY_DEBOUNCE_EXPIRY (R165). -/
  | keyDebounceExpiry (t : Time)
  /-- RECEIVER_READY (R3). -/
  | receiverReady (t : Time)
  /-- RESETN_DRIVEN_ACTIVE (R191). -/
  | resetnDrivenActive (t : Time)
  deriving DecidableEq, Repr

end Sys2Proof
end

