-- ==== Sys2Proof/WellFormed.lean ====
section
/-! DEFINITION. Which commands the part's surroundings can send: the operand ranges that a field's width does not already give.
Log entry 33 says what the machine does with a command outside them. -/

namespace Sys2Proof

/-- The sender field of a command that reports a frame of a numbered station. -/
def Instr.sender? : Instr → Option (BitVec 5)
  | .beaconFrame _ _ n _ | .cueheadFrame _ _ n _ | .cuebodyFrame _ _ n _ | .arm _ _ n _ | .armreel _ _ n _
  | .disarm _ _ n _ | .disarmall _ _ n _ | .drop _ _ n _ | .dropreel _ _ n _ | .dropall _ _ n _ | .mode _ _ n _
  | .wrap _ _ n _ | .attention _ _ n _ | .controlUnknown _ _ n _ _ | .punchInFrame _ _ n _ | .punchOutFrame _ _ n _
  | .markFrame _ _ n _ | .statusFrame _ _ n _ | .lineCheck _ ⟨n, _⟩ | .sourceAgingExpiry _ n => some n
  | _ => none

/-- A frame of a numbered station has a sender of 0 to 23 (R4: 24 to 31 end the frame); an unknown CONTROL op is 10 to 15
(R196); an unknown command code is 7 to 31 (12 Table 12-10), and its frame is not the idle frame of 32 ones (R205); the sender of
BAD_CLASS_OR_SENDER is 24 to 31, read after a class other than 7 (R4); a field of `lines` HSYNC edges has one complete line fewer
(R145). -/
def Instr.wf (i : Instr) : Bool :=
  (i.sender?.all fun n => decide (n.toNat < 24)) &&
  match i with
  | .controlUnknown _ _ _ op _ => decide (10 ≤ op.toNat)
  | .unknownCommand _ code f =>
    decide (7 ≤ code.toNat) && !decide (code = 31 ∧ f = { fields := { view := 15, index := 63, word := 1023 }, unused := 63 })
  | .badClassOrSender _ (some (cls, n)) => decide (cls ≠ 7) && decide (24 ≤ n.toNat)
  | .vsyncEdge _ lines pixels => decide (pixels.length = lines - 1)
  | _ => true

end Sys2Proof
end

