-- ==== Sys2Proof/Decode.lean ====
section
/-! DEFINITION. The command a word of `opcode_table.json` spells. No row of the table gives bits (`n_rows_with_fixed` and
`n_rows_with_fields` are 0), so no word spells a command; the bit layouts of the line and service frames are in
`Machine/LineFormat.lean` and `Machine/ServiceFormat.lean`. -/

namespace Sys2Proof

/-- No row of the table gives bits: every word is answered with none (log entry 34). -/
def decodeTableWord (_nbits _w : Nat) : Option Instr := none

end Sys2Proof
end

