-- ==== Sys2Proof/Machine/State.lean ====
section
/-! DEFINITION. The state of the part, block by block, as plain data, with the values each block has after a full reset, and
`State.reset`. INVENTORY.md names the rule of each field. -/

namespace Sys2Proof.Machine
open Sys2Proof

/-- DESIGN CHOICE (log entry 31), safe. The ways a step can stop the machine: none is ever taken, since the spec stops the
part at no event. -/
inductive Fault where
  /-- Raised by no command. Safe: a fault that is never raised hides no behaviour. -/
  | never
  deriving DecidableEq, Repr

/-- The ways a step can refuse a command. -/
inductive Refusal where
  /-- Raised by an arm of `exec` whose command has no meaning yet; every command has one, so no arm raises it. Safe. -/
  | notModelled (mnemonic : String)
  deriving DecidableEq, Repr

/-! ## Values shared by the blocks -/

/-- Line states (01 Table 1-5). -/
inductive LineState where
  | config | joining | active | duplicate
  deriving DecidableEq, Repr

/-- Reference states (03 Table 3-3). -/
inductive RefState where
  | none | tracking | hold
  deriving DecidableEq, Repr

/-- Motions of a channel, of a source and of the reference; a channel is never FAST (02 Table 2-4, 03 Table 3-1). -/
inductive Motion where
  | stopped | forward | reverse | fast
  deriving DecidableEq, Repr

/-- Modes (06 Table 6-2). -/
inductive Mode where
  | rehearse | record
  deriving DecidableEq, Repr

/-- Lock states (04 Table 4-2). -/
inductive LockState where
  | unlocked | chasing | sync
  deriving DecidableEq, Repr

/-- Directions of a boundary record (12 Table 12-15); a channel's record is never `none`. -/
inductive Dir where
  | forward | reverse | none
  deriving DecidableEq, Repr

/-- A boundary record (02 Table 2-5, 03 Table 3-1): the frame whose start was crossed, the boundary time, direction, wrap
flag. -/
structure BRec where
  b : Int
  stamp : Time
  dir : Dir
  wrap : Bool
  deriving DecidableEq, Repr

/-! ## SVC: the configuration -/

/-- Channel roles (02 Table 2-2). -/
inductive Role where
  | none | picture | record
  deriving DecidableEq, Repr

/-- Wrap-follow settings (02 Table 2-2). -/
inductive WrapFollow where
  | byRole | on | off
  deriving DecidableEq, Repr

/-- Settings of a tach channel (02 Table 2-2, 10 Table 10-4 words 3 to 11 or 12 to 20). `pulse` is decode mode PULSE. -/
structure ChanSettings where
  role : Role
  group : Nat
  pulse : Bool
  units : Nat
  glitch : Nat
  index : Bool
  offset : Int
  trim : Int
  follow : WrapFollow
  deriving DecidableEq, Repr

/-- Geometry values (08 Table 8-2): as settings, and as the frozen geometry. -/
structure Geometry where
  total : Nat
  start : Nat
  width : Nat
  lines : Nat
  first : Nat
  active : Nat
  deriving DecidableEq, Repr

/-- The configuration, words 3 to 36 of the CONFIG view (R185). `lt0` to `lt3` are the served positions, 16 for none. -/
structure Settings where
  a : ChanSettings
  b : ChanSettings
  tolerance : Nat
  lt0 : Nat
  lt1 : Nat
  lt2 : Nat
  lt3 : Nat
  beepMs : Nat
  pitch : Nat
  collect : Bool
  programmed : Bool
  geometry : Geometry
  streamerWidth : Nat
  deriving DecidableEq, Repr

/-- The defaults of a channel but for its record group (02 Table 2-2). -/
def ChanSettings.default (group : Nat) : ChanSettings :=
  { role := .none, group := group, pulse := false, units := 4, glitch := 0, index := false, offset := 0, trim := 0,
    follow := .byRole }

/-- The defaults at a full reset (10 Table 10-4); LT0's position is the station number strap mod 16 (R185). -/
def Settings.default (station : BitVec 5) : Settings :=
  { a := .default 0, b := .default 1, tolerance := 64, lt0 := station.toNat % 16, lt1 := 16, lt2 := 16, lt3 := 16,
    beepMs := 40, pitch := 1000, collect := false, programmed := false,
    geometry := { total := 858, start := 122, width := 720, lines := 262, first := 20, active := 240 },
    streamerWidth := 4 }

/-! ## CLP: the Cue Line Port -/

/-- Receiver states (01 Table 1-2). -/
inductive RxState where
  | hunt | ready | receiving
  deriving DecidableEq, Repr

/-- A frame of the transmit queue. A STATUS frame has no contents until the transmitter chooses it (R13, R18). -/
inductive QFrame where
  | status
  | frame (f : LineFrame)
  deriving DecidableEq, Repr

/-- The beacon slot: the beacon, its age not yet written, and the boundary stamp its age is taken from (R12). -/
structure Slot where
  beacon : Beacon
  stamp : Time
  deriving DecidableEq, Repr

/-- The store a frame in flight came from. `slot replaced`: a newer beacon has taken the slot meanwhile (R12). -/
inductive TxSource where
  | queue
  | slot (replaced : Bool)
  deriving DecidableEq, Repr

/-- The in-flight copy (R7). -/
structure InFlight where
  frame : LineFrame
  source : TxSource
  deriving DecidableEq, Repr

/-- A peer table entry (01 Table 1-8). -/
structure Peer where
  heard : Bool
  refState : RefState
  motion : Motion
  mode : Mode
  lockA : LockState
  lockB : LockState
  fault : Bool
  last : Time
  deriving DecidableEq, Repr

/-- An entry not heard (01 Table 1-8). -/
def Peer.reset : Peer :=
  { heard := false, refState := .none, motion := .stopped, mode := .rehearse, lockA := .unlocked, lockB := .unlocked, fault := false, last := 0 }

/-- State of the Cue Line Port (01 Table 1-6). A timer is `none` when stopped and else its deadline. -/
structure Clp where
  line : LineState
  rx : RxState
  rxCount : Nat
  rxStamp : Time
  inFlight : Option InFlight
  queue : List QFrame
  slot : Option Slot
  joinTimer : Option Time
  spacingTimer : Option Time
  statusDue : Bool
  peers : List Peer
  deriving DecidableEq, Repr

def Clp.reset : Clp :=
  { line := .config, rx := .hunt, rxCount := 0, rxStamp := 0, inFlight := none, queue := [], slot := none, joinTimer := none,
    spacingTimer := none, statusDue := false, peers := List.replicate Config.peerCount Peer.reset }

/-! ## TCH: a tach channel -/

/-- One line of a counting channel: its recorded level (`none`: not sampled) and its last accepted edge (R23). -/
structure LineRec where
  level : Option Bool
  edge : Option Time
  deriving DecidableEq, Repr

/-- The wrap pair (R29). -/
structure WrapPair where
  enabled : Bool
  s : Int
  e : Int
  deriving DecidableEq, Repr

/-- State of a channel (02 Table 2-6). `lastDir`: true is forward. -/
structure Channel where
  p1 : LineRec
  p2 : LineRec
  ix : LineRec
  unit : Nat
  frame : Int
  lastDir : Option Bool
  motion : Motion
  stall : Option Time
  wrap : WrapPair
  fwd : Nat
  rev : Nat
  glitches : Nat
  slips : Nat
  recNew : Option BRec
  recOld : Option BRec
  deriving DecidableEq, Repr

/-- DESIGN CHOICE (log entry 25): S and E of the disabled pair are 0. -/
def Channel.reset : Channel :=
  { p1 := ⟨none, none⟩, p2 := ⟨none, none⟩, ix := ⟨none, none⟩, unit := 0, frame := 0, lastDir := none, motion := .stopped,
    stall := none, wrap := ⟨false, 0, 0⟩, fwd := 0, rev := 0, glitches := 0, slips := 0, recNew := none, recOld := none }

/-! ## PTR: the Position Tracker -/

/-- A source list entry (03 Table 3-1). `isLocal` is origin LOCAL; `aging` is the deadline of its aging timer. -/
structure Source where
  sender : Nat
  isLocal : Bool
  rank : Nat
  motion : Motion
  record : Option BRec
  interval : Option Nat
  hold : Option Int
  lastBeacon : Time
  aging : Option Time
  deriving DecidableEq, Repr

/-- State of the tracker (03 Tables 3-4 and 3-7). -/
structure Ptr where
  sources : List (Option Source)
  state : RefState
  motion : Motion
  chosen : Option Nat
  recNew : Option BRec
  recOld : Option BRec
  interval : Option Nat
  fastDiff : Bool
  hold : Option Int
  frozen : Option Int
  playable : Bool
  chanInterval : Option Nat
  lastBeacon : Option Time
  holdTimer : Option Time
  deriving DecidableEq, Repr

def Ptr.reset : Ptr :=
  { sources := List.replicate Config.sourceCount none, state := .none, motion := .stopped, chosen := none, recNew := none,
    recOld := none, interval := none, fastDiff := false, hold := none, frozen := none, playable := false,
    chanInterval := none, lastBeacon := none, holdTimer := none }

/-! ## RLK: a lock -/

/-- State of a lock (04 Table 4-1). -/
structure Lock where
  state : LockState
  err : Int
  good : Nat
  bad : Nat
  deriving DecidableEq, Repr

def Lock.reset : Lock := { state := .unlocked, err := 0, good := 0, bad := 0 }

/-! ## CTB and the run parts of CSH -/

/-- The definition part of a cue entry (05 Table 5-1), as stored after the corrections of R89. -/
structure CueDef where
  id : BitVec 12
  reel : BitVec 6
  global : Bool
  mask : BitVec 16
  group : Option Nat
  frame : Int
  phase : Nat
  streamer : Nat
  colour : BitVec 2
  beeps : Nat
  spacing : Nat
  light : Bool
  lightLead : Nat
  lightHold : Nat
  punchLead : Nat
  outOffset : Nat
  deriving DecidableEq, Repr

/-- Run states (06 Table 6-4). -/
inductive RunState where
  | idle | armed | running | passed
  deriving DecidableEq, Repr

/-- Last outcomes (06 Table 6-1). -/
inductive RunOutcome where
  | none | complete | interrupted | missed
  deriving DecidableEq, Repr

/-- Punch results (06 Table 6-1). -/
inductive PunchResult where
  | none | rehearsed | recorded | noSync | dropped | aborted
  deriving DecidableEq, Repr

/-- The run part of a cue entry (06 Table 6-1). The fired set has the bits of word 11 of the CUE view (R207). -/
structure RunPart where
  state : RunState
  fired : BitVec 10
  punched : Bool
  punchOpen : Bool
  lightOpen : Bool
  outcome : RunOutcome
  punch : PunchResult
  takes : Nat
  passes : Nat
  deriving DecidableEq, Repr

/-- The starting values of a placed cue (R91, R101). -/
def RunPart.start : RunPart :=
  { state := .idle, fired := 0, punched := false, punchOpen := false, lightOpen := false, outcome := .none, punch := .none,
    takes := 0, passes := 0 }

/-- A VALID entry. -/
structure CueEntry where
  cue : CueDef
  run : RunPart
  deriving DecidableEq, Repr

/-- A staged header with its sender (05 Table 5-2). -/
structure Staged where
  sender : Nat
  head : CueHead
  deriving DecidableEq, Repr

/-- The cue table: entries (`none` is EMPTY), staging set oldest first, replacement pointer (05 Table 5-4). -/
structure Ctb where
  entries : List (Option CueEntry)
  staging : List Staged
  pointer : Nat
  deriving DecidableEq, Repr

def Ctb.reset : Ctb := { entries := List.replicate Config.cueCount none, staging := [], pointer := 0 }

/-! ## CSH -/

/-- The elements of a cue (06 Table 6-3). -/
inductive Element where
  | spanStart | lightOn | punchIn | beep1 | beep2 | beep3 | beep4 | punchOut | lightOff | spanEnd
  deriving DecidableEq, Repr

/-- A listed element; `fire` is the fire time T, the deadline of its element timer (R113). -/
structure Due where
  entry : Nat
  element : Element
  pos : Int
  fire : Time
  deriving DecidableEq, Repr

/-- Scheduler state (06 Table 6-2). -/
structure Csh where
  mode : Mode
  due : List Due
  late : Nat
  halted : Bool
  deriving DecidableEq, Repr

def Csh.reset : Csh := { mode := .rehearse, due := [], late := 0, halted := false }

/-! ## COU -/

/-- The open tone gate: its gate end, and the stamp at which it opened from closed, where the wave starts (R138, R139). -/
structure Gate where
  finish : Time
  opened : Time
  deriving DecidableEq, Repr

/-- A tally entry (07 Table 7-4). -/
structure Tally where
  station : Nat
  group : BitVec 4
  reel : BitVec 6
  id : BitVec 12
  pos : Int
  deriving DecidableEq, Repr

/-- Cue Outputs state (07 Table 7-1). `holds` are the hold counts of LT0 to LT3. -/
structure Cou where
  punchA : Nat
  punchB : Nat
  holds : List Nat
  gate : Option Gate
  tally : List Tally
  released : Bool
  deriving DecidableEq, Repr

def Cou.reset : Cou := { punchA := 0, punchB := 0, holds := [0, 0, 0, 0], gate := none, tally := [], released := false }

/-! ## OVL -/

/-- Raster states (08 Table 8-1). -/
inductive Raster where
  | noSignal | acquiring | stable | mismatch
  deriving DecidableEq, Repr

/-- A field's measurement; `total` is `none` for an unmeasurable field (R145). -/
structure FieldMeas where
  total : Option Nat
  lines : Nat
  deriving DecidableEq, Repr

/-- The match run (R147). -/
structure MatchRun where
  count : Nat
  total : Nat
  least : Nat
  greatest : Nat
  deriving DecidableEq, Repr

/-- The settled measurement (R148). -/
structure Settled where
  total : Nat
  least : Nat
  greatest : Nat
  deriving DecidableEq, Repr

/-- A streamer of a field list (08 Table 8-3). -/
structure Streamer where
  entry : Nat
  r : Int
  x : Nat
  colour : BitVec 2
  deriving DecidableEq, Repr

/-- A field list (08 Table 8-3). -/
structure FieldList where
  streamers : List Streamer
  flash : Option Nat
  border : Bool
  deriving DecidableEq, Repr

def FieldList.empty : FieldList := { streamers := [], flash := none, border := false }

/-- Overlay state (08 Table 8-4). `frozen` is the frozen geometry; its flag is set when it is present. -/
structure Ovl where
  raster : Raster
  watch : Option Time
  last : Option FieldMeas
  run : MatchRun
  settled : Option Settled
  frozen : Option Geometry
  back : FieldList
  front : FieldList
  deriving DecidableEq, Repr

def Ovl.reset : Ovl :=
  { raster := .noSignal, watch := none, last := none, run := ⟨0, 0, 0, 0⟩, settled := none, frozen := none, back := .empty,
    front := .empty }

/-! ## MKL -/

/-- Key states (09 Table 9-1). -/
inductive KeyState where
  | off | armed | pressing | held | releasing
  deriving DecidableEq, Repr

/-- The latch (R168). -/
structure Latch where
  pos : Option Int
  refState : RefState
  motion : Motion
  mode : Mode
  cue : Option (BitVec 6 × BitVec 12)
  deriving DecidableEq, Repr

/-- A mark record (09 Table 9-2). -/
structure MarkRec where
  serial : BitVec 8
  station : Nat
  latch : Latch
  deriving DecidableEq, Repr

/-- Mark Latch state (09 Table 9-4). -/
structure Mkl where
  key : KeyState
  timer : Option Time
  latch : Option Latch
  serial : BitVec 8
  log : List MarkRec
  overrun : Bool
  deriving DecidableEq, Repr

def Mkl.reset : Mkl := { key := .off, timer := none, latch := none, serial := 0, log := [], overrun := false }

/-! ## SVC: the port -/

/-- Pending commands of the port (10 Table 10-1). -/
inductive PendingCmd where
  | none
  | write (f : CmdFields)
  | send (cls : BitVec 3) (received : List DataWord) (expected : Nat)
  deriving DecidableEq, Repr

/-- The capture buffer (R179). -/
structure Capture where
  view : BitVec 4
  index : BitVec 6
  words : List DataWord
  deriving DecidableEq, Repr

/-- The response register (R178): the data word, and the status part sampled at its loading. -/
structure Response where
  data : DataWord
  line : LineState
  alert : Bool
  refusal : Bool
  deriving DecidableEq, Repr

/-- Service Port state (10 Table 10-1). `sampled` are the bits of the present frame sampled so far, in their order; the framing
position is their number (R175). `sack` is the SACK pulse of the last frame, in SCK periods. -/
structure Svc where
  sampled : List Bool
  ones : Nat
  pending : PendingCmd
  watch : Option CmdFields
  capture : Option Capture
  response : Response
  sack : Nat
  deriving DecidableEq, Repr

/-- The framing position (R175). -/
def Svc.framing (v : Svc) : Nat := v.sampled.length

def Svc.reset : Svc :=
  { sampled := [], ones := 0, pending := .none, watch := none, capture := none,
    response := { data := 0, line := .config, alert := false, refusal := false }, sack := 0 }

/-! ## FLT -/

/-- Fault kinds in code order (11 Table 11-1). -/
inductive FaultKind where
  | lineCheck | lineFraming | lineBit | txOverflow | dupStation | badStrap | configClamp | tachSlip | countRange | sourceLost
  | cueField | cueBusy | tableFull | orphanBody | stageEvict | controlUnknown | lateFire | punchNosync | punchDropout
  | rasterMismatch | markOverrun
  deriving DecidableEq, Repr

/-- The first-fault record (11 Table 11-2). -/
structure FaultRec where
  kind : FaultKind
  stamp : Time
  pos : Option Int
  chan : Option Chan
  cue : Option (BitVec 6 × BitVec 12)
  sender : Option (BitVec 5)
  deriving DecidableEq, Repr

/-- Fault and Alert state (11 Table 11-4). The sets have the places of Table 11-3. -/
structure Flt where
  counts : List Nat
  first : Option FaultRec
  more : Bool
  causes : BitVec 6
  enable : BitVec 6
  deriving DecidableEq, Repr

def Flt.reset : Flt := { counts := List.replicate 21 0, first := none, more := false, causes := 0, enable := 0 }

/-! ## The whole part -/

/-- The state of the part. `freeCount` and `pending` are the model's own (log entries 9 and 34). -/
structure State where
  timebase : Time
  pins : Levels
  resetActive : Bool
  straps : Straps
  settings : Settings
  clp : Clp
  chA : Channel
  chB : Channel
  ptr : Ptr
  lockA : Lock
  lockB : Lock
  ctb : Ctb
  csh : Csh
  cou : Cou
  ovl : Ovl
  mkl : Mkl
  svc : Svc
  flt : Flt
  freeCount : Nat
  pending : List Instr
  deriving DecidableEq, Repr

/-- DESIGN CHOICE (log entry 7), unsafe: pin levels of `State.reset`, tach and index lines low, MARKN released. -/
def idleLevels : Levels :=
  { ap1 := false, ap2 := false, aix := false, bp1 := false, bp2 := false, bix := false, markn := true }

/-- DESIGN CHOICE (log entry 7), unsafe: straps of `State.reset`. -/
def zeroStraps : Straps := { station := 0, rank := 0, autostart := false }

/-- The machine right after a full reset (R14, R40, R63, R77, R98, R128, R144, R163, R174, R191, R201), with the timebase,
straps and pin levels of log entry 7. -/
def State.reset : State :=
  { timebase := 0, pins := idleLevels, resetActive := false, straps := zeroStraps, settings := .default 0, clp := .reset,
    chA := .reset, chB := .reset, ptr := .reset, lockA := .reset, lockB := .reset, ctb := .reset, csh := .reset,
    cou := .reset, ovl := .reset, mkl := .reset, svc := .reset, flt := .reset, freeCount := 0, pending := [] }

/-! ## Updates of one block. `Laws/State.lean` has one lemma per field per update. -/

def State.modClp (s : State) (f : Clp → Clp) : State := { s with clp := f s.clp }
def State.modPtr (s : State) (f : Ptr → Ptr) : State := { s with ptr := f s.ptr }
def State.modCtb (s : State) (f : Ctb → Ctb) : State := { s with ctb := f s.ctb }
def State.modCsh (s : State) (f : Csh → Csh) : State := { s with csh := f s.csh }
def State.modCou (s : State) (f : Cou → Cou) : State := { s with cou := f s.cou }
def State.modOvl (s : State) (f : Ovl → Ovl) : State := { s with ovl := f s.ovl }
def State.modMkl (s : State) (f : Mkl → Mkl) : State := { s with mkl := f s.mkl }
def State.modSvc (s : State) (f : Svc → Svc) : State := { s with svc := f s.svc }
def State.modFlt (s : State) (f : Flt → Flt) : State := { s with flt := f s.flt }
def State.modSettings (s : State) (f : Settings → Settings) : State := { s with settings := f s.settings }
def State.modPins (s : State) (f : Levels → Levels) : State := { s with pins := f s.pins }

/-- The channel named. -/
def State.chan (s : State) : Chan → Channel
  | .a => s.chA
  | .b => s.chB

def State.modChan (s : State) (c : Chan) (f : Channel → Channel) : State :=
  match c with
  | .a => { s with chA := f s.chA }
  | .b => { s with chB := f s.chB }

/-- The lock named. -/
def State.lock (s : State) : Chan → Lock
  | .a => s.lockA
  | .b => s.lockB

def State.modLock (s : State) (c : Chan) (f : Lock → Lock) : State :=
  match c with
  | .a => { s with lockA := f s.lockA }
  | .b => { s with lockB := f s.lockB }

/-- The settings of the channel named. -/
def Settings.chan (g : Settings) : Chan → ChanSettings
  | .a => g.a
  | .b => g.b

end Sys2Proof.Machine
end

