-- ==== Sys2Proof/Machine/LineFormat.lean ====
section
/-! DEFINITION. The bits of a line frame: fields most significant bit first, the 16-bit check, and the payload layouts of
12 Tables 12-2 to 12-9. -/

namespace Sys2Proof.Machine
open Sys2Proof

/-- The bits of a field, most significant first (R1). -/
def fieldBits {w : Nat} (v : BitVec w) : List Bool := (List.range w).map v.getMsbD

/-- The number that bits sent most significant first spell. -/
def bitsNat (l : List Bool) : Nat := l.foldl (fun n b => 2 * n + b.toNat) 0

/-- The field of width `w` at the front of a bit sequence. -/
def headField (w : Nat) (l : List Bool) : BitVec w := BitVec.ofNat w (bitsNat (l.take w))

/-- One covered bit taken into the check register (R2): its top bit is combined with the covered bit, the register moves one
place up, and 1021h is combined in when the combined bit was 1. -/
def checkStep (reg : BitVec 16) (bit : Bool) : BitVec 16 :=
  if reg.getMsbD 0 != bit then (reg <<< 1) ^^^ 0x1021#16 else reg <<< 1

/-- The check of the covered bits: class, sender and payload (R2). -/
def checkOf (covered : List Bool) : BitVec 16 := covered.foldl checkStep 0xFFFF#16

/-- Class codes (R1). -/
def frameClass : LineFrame → BitVec 3
  | .beacon _ => 0
  | .punch _ _ => 1
  | .control _ _ => 2
  | .cueHead _ => 3
  | .cueBody _ => 4
  | .mark _ => 5
  | .status _ => 6

/-- Payload length of a class in bits (12 Table 12-9); class 7 names no frame. -/
def payloadLength (cls : BitVec 3) : Nat :=
  match cls.toNat with
  | 0 => 71
  | 1 => 57
  | 2 => 75
  | 3 => 72
  | 4 => 75
  | 5 => 65
  | 6 => 10
  | _ => 0

/-- The payload of a frame in the order it is sent (12 Tables 12-2 to 12-8). -/
def framePayload : LineFrame → List Bool
  | .beacon p => fieldBits p.rank ++ (fieldBits p.motion ++ (fieldBits p.kind ++ (fieldBits p.wrap ++
      (fieldBits p.frame ++ (fieldBits p.phase ++ (fieldBits p.interval ++ fieldBits p.age))))))
  | .punch edge p => fieldBits p.group ++ (fieldBits p.reel ++ (fieldBits p.id ++ (fieldBits edge ++
      (fieldBits p.reason ++ (fieldBits p.frame ++ fieldBits p.phase)))))
  | .control op p => fieldBits op ++ (fieldBits p.target ++ (fieldBits p.reel ++ (fieldBits p.id ++
      (fieldBits p.arg1 ++ fieldBits p.arg2))))
  | .cueHead p => fieldBits p.id ++ (fieldBits p.reel ++ (fieldBits p.global ++ (fieldBits p.mask ++
      (fieldBits p.group ++ (fieldBits p.frame ++ fieldBits p.phase)))))
  | .cueBody p => fieldBits p.id ++ (fieldBits p.reel ++ (fieldBits p.streamer ++ (fieldBits p.colour ++
      (fieldBits p.beeps ++ (fieldBits p.spacing ++ (fieldBits p.light ++ (fieldBits p.lightLead ++
      (fieldBits p.lightHold ++ (fieldBits p.punchLead ++ fieldBits p.outOffset)))))))))
  | .mark p => fieldBits p.serial ++ (fieldBits p.absent ++ (fieldBits p.frame ++ (fieldBits p.phase ++
      (fieldBits p.refState ++ (fieldBits p.motion ++ (fieldBits p.mode ++ (fieldBits p.reel ++ fieldBits p.id)))))))
  | .status p => fieldBits p.refState ++ (fieldBits p.motion ++ (fieldBits p.mode ++ (fieldBits p.lockA ++
      (fieldBits p.lockB ++ fieldBits p.fault))))

/-- The frame a receiver reads from a class and the payload bits after it (R203); class 7 names none. -/
def decodePayload (cls : BitVec 3) (l : List Bool) : Option LineFrame :=
  match cls.toNat with
  | 0 => some (.beacon
      { rank := headField 3 l, motion := headField 2 (l.drop 3), kind := headField 1 (l.drop 5), wrap := headField 1 (l.drop 6),
        frame := headField 24 (l.drop 7), phase := headField 8 (l.drop 31), interval := headField 20 (l.drop 39),
        age := headField 12 (l.drop 59) })
  | 1 => some (.punch (headField 1 (l.drop 22))
      { group := headField 4 l, reel := headField 6 (l.drop 4), id := headField 12 (l.drop 10), reason := headField 2 (l.drop 23),
        frame := headField 24 (l.drop 25), phase := headField 8 (l.drop 49) })
  | 2 => some (.control (headField 4 l)
      { target := headField 5 (l.drop 4), reel := headField 6 (l.drop 9), id := headField 12 (l.drop 15),
        arg1 := headField 24 (l.drop 27), arg2 := headField 24 (l.drop 51) })
  | 3 => some (.cueHead
      { id := headField 12 l, reel := headField 6 (l.drop 12), global := headField 1 (l.drop 18), mask := headField 16 (l.drop 19),
        group := headField 5 (l.drop 35), frame := headField 24 (l.drop 40), phase := headField 8 (l.drop 64) })
  | 4 => some (.cueBody
      { id := headField 12 l, reel := headField 6 (l.drop 12), streamer := headField 8 (l.drop 18),
        colour := headField 2 (l.drop 26), beeps := headField 3 (l.drop 28), spacing := headField 7 (l.drop 31),
        light := headField 1 (l.drop 38), lightLead := headField 8 (l.drop 39), lightHold := headField 8 (l.drop 47),
        punchLead := headField 8 (l.drop 55), outOffset := headField 12 (l.drop 63) })
  | 5 => some (.mark
      { serial := headField 8 l, absent := headField 1 (l.drop 8), frame := headField 24 (l.drop 9), phase := headField 8 (l.drop 33),
        refState := headField 2 (l.drop 41), motion := headField 2 (l.drop 43), mode := headField 2 (l.drop 45),
        reel := headField 6 (l.drop 47), id := headField 12 (l.drop 53) })
  | 6 => some (.status
      { refState := headField 2 l, motion := headField 2 (l.drop 2), mode := headField 1 (l.drop 4), lockA := headField 2 (l.drop 5),
        lockB := headField 2 (l.drop 7), fault := headField 1 (l.drop 9) })
  | _ => none

/-- The bits that the check covers: class, sender, payload (R2). -/
def frameCovered (sender : BitVec 5) (f : LineFrame) : List Bool :=
  fieldBits (frameClass f) ++ (fieldBits sender ++ framePayload f)

/-- The whole frame on the line: the dominant start bit (0), the covered bits, the check (R1, R203). -/
def frameBits (sender : BitVec 5) (f : LineFrame) : List Bool :=
  false :: (frameCovered sender f ++ fieldBits (checkOf (frameCovered sender f)))

/-- What a receiver makes of the bits after a start bit (R4, R203): class and sender tell the length; a class of 7, a sender
of 24 to 31 or a check that differs give no frame. -/
def receiveBits (l : List Bool) : Option (BitVec 5 × LineFrame) :=
  let cls : BitVec 3 := headField 3 l
  let sender : BitVec 5 := headField 5 (l.drop 3)
  let n := 8 + payloadLength cls
  if sender.toNat < 24 ∧ checkOf (l.take n) = headField 16 (l.drop n) then
    (decodePayload cls (l.drop 8)).map fun f => (sender, f)
  else none

/-- Payload words that a SEND of the class expects: ceil(payload bits / 16) (R205). -/
def payloadWords (cls : BitVec 3) : Nat := (payloadLength cls + 15) / 16

/-- The line frame that the payload words of a SEND spell (R182, R205): bits 15 downward of each word in turn; bits beyond the
payload length are not used. -/
def frameOfWords (cls : BitVec 3) (words : List DataWord) : Option LineFrame :=
  decodePayload cls ((words.flatMap fieldBits).take (payloadLength cls))

end Sys2Proof.Machine
end

