-- ==== Sys2Proof/Machine/ServiceFormat.lean ====
section
/-! DEFINITION. The 32-bit service frames and the response (12 Table 12-10, R205, R206). -/

namespace Sys2Proof.Machine
open Sys2Proof

/-- A completed service frame by kind, with the bits of it that are not used (12 Table 12-10). -/
inductive ServiceFrame where
  | idle
  | command (code : BitVec 5) (f : CmdFields) (unused : BitVec 6)
  | data (d : DataWord) (unused : BitVec 15)
  deriving DecidableEq, Repr

/-- The 32 bits of a frame, in the order they are sent (R175, R205). -/
def ServiceFrame.bits : ServiceFrame → List Bool
  | .idle => List.replicate 32 true
  | .command code f unused =>
    true :: (fieldBits code ++ (fieldBits f.view ++ (fieldBits f.index ++ (fieldBits unused ++ fieldBits f.word))))
  | .data d unused => false :: (fieldBits unused ++ fieldBits d)

/-- The frame that 32 sampled bits are (R205): idle when all are one, data when the first is zero, else a command. -/
def ServiceFrame.decode (l : List Bool) : ServiceFrame :=
  if l.all id then .idle
  else if l.headD false then
    .command (headField 5 (l.drop 1))
      { view := headField 4 (l.drop 6), index := headField 6 (l.drop 10), word := headField 10 (l.drop 22) } (headField 6 (l.drop 16))
  else .data (headField 16 (l.drop 16)) (headField 15 (l.drop 1))

/-- Codes of the line state (12 Table 12-1). -/
def LineState.code : LineState → Nat
  | .config => 0
  | .joining => 1
  | .active => 2
  | .duplicate => 3

/-- The response as it is shifted out, bit 31 first (R206). -/
def Response.bits (r : Response) : BitVec 32 :=
  (BitVec.ofNat 32 r.line.code <<< 30) ||| (if r.alert then 0x20000000#32 else 0#32) |||
    (if r.refusal then 0x10000000#32 else 0#32) ||| r.data.setWidth 32

end Sys2Proof.Machine
end

