-- ==== Sys2Proof/Machine/Ops.lean ====
section
/-! DEFINITION. The operations every block shares: readings and timers of the timebase, saturating and wrapping counts,
positions, and how a command's moment is taken. -/

namespace Sys2Proof.Machine
open Sys2Proof

/-! ## Time (00 section 5.2) -/

/-- The difference of two readings modulo 2³², in microseconds. -/
def since (t start : Time) : Nat := (t - start).toNat

/-- The reading `n` microseconds after `t`. -/
def later (t : Time) (n : Nat) : Time := t + BitVec.ofNat 32 n

/-- The timebase at `t` has reached `d`: the reading minus `d`, modulo 2³², is below 2³¹ (R113, R139). -/
def reached (t d : Time) : Bool := decide (since t d < 2147483648)

/-- A running timer has reached its deadline; a stopped one never has. -/
def expired (t : Time) (timer : Option Time) : Bool := timer.any (reached t)

/-- Microseconds left to a deadline, 0 once it is reached (R64). -/
def remaining (t : Time) (timer : Option Time) : Nat :=
  match timer with
  | none => 0
  | some d => if reached t d then 0 else since d t

/-! ## Counts (00 section 5.3) -/

/-- A saturating count goes up by one. -/
def satInc (limit n : Nat) : Nat := if n < limit then n + 1 else n

/-- A wrapping 16-bit count goes up by one. -/
def wrapInc16 (n : Nat) : Nat := (n + 1) % 65536

/-- A value brought between two limits (00 section 5.3). -/
def clamp (lo hi n : Nat) : Nat := if n < lo then lo else if hi < n then hi else n

/-! ## Positions (00 section 5.1): frame × 256 + phase, the phase 0 to 255 -/

/-- The position of a frame and phase. -/
def position (frame : Int) (phase : Nat) : Int := frame * 256 + phase

/-- The frame part of a position, floor. -/
def posFrame (p : Int) : Int := p / 256

/-- The phase part of a position, 0 to 255. -/
def posPhase (p : Int) : BitVec 8 := BitVec.ofInt 8 p

/-- A frame number fits 24 signed bits (00 section 5.1). -/
def frameInRange (f : Int) : Bool := decide (-8388608 ≤ f) && decide (f ≤ 8388607)

/-- The 24-bit frame field of a position (12.1); free where the frame does not fit, which the spec does not state
(DESIGN CHOICE, log entry 10). -/
def frameField (p : Int) : BitVec 24 :=
  if frameInRange (posFrame p) then BitVec.ofInt 24 (posFrame p) else Config.freeFrame p

/-! ## Lists -/

/-- Insertion by a non-strict order: after every element that does not come later. -/
def insertBy {α : Type} (le : α → α → Bool) (x : α) : List α → List α
  | [] => [x]
  | y :: ys => if le x y then x :: y :: ys else y :: insertBy le x ys

/-- Sorting by insertion; elements that compare equal keep their order. -/
def sortBy {α : Type} (le : α → α → Bool) : List α → List α
  | [] => []
  | x :: xs => insertBy le x (sortBy le xs)

/-- The least element by a key pair; the first of equals. -/
def leastBy {α : Type} (le : α → α → Bool) : List α → Option α
  | [] => none
  | x :: xs =>
    match leastBy le xs with
    | none => some x
    | some y => if le x y then some x else some y

/-- One operation for each index below `n`, in increasing order, each complete before the next. -/
def forIndexes (n : Nat) (f : Nat → State → State) (s : State) : State := (List.range n).foldl (fun s i => f i s) s

/-! ## A command's moment -/

/-- The bit times up to `t` pass: the timebase reads `t`, and a receiver in HUNT or READY has counted the recessive bit times
since (R3; log entries 1 and 5), but for one that RESETN holds at its full reset values (R14, R191). DESIGN CHOICE, unsafe (log entry
38): R3 does not say whether a completion carries the reading of its last check bit or that of the end of that bit time. The reading
is taken as the end, so a start bit 11 µs after a completion is legal; with the bit's own reading the first legal one is at 12 µs. -/
def State.advance (t : Time) (s : State) : State :=
  { s with
    timebase := t
    clp := if s.resetActive ∨ s.clp.rx = .receiving then s.clp
      else { s.clp with rxCount := min 11 (s.clp.rxCount + since t s.timebase) } }

/-- An event at `t`. While RESETN is active every block is held (R191), so nothing but time passes (log entry 24). -/
def State.event (t : Time) (f : State → State) (s : State) : Host.Outcome State Fault Refusal :=
  .next (if s.resetActive then s.advance t else f (s.advance t))

/-- An event that has its effect only when `p` holds of the state it meets (log entries 3 and 4). -/
def guarded (p : Bool) (f : State → State) (s : State) : State := if p then f s else s

end Sys2Proof.Machine
end

