-- ==== Sys2Proof/Machine/Operands.lean ====
section
/-! DEFINITION. Operand forms: the value codes of 12 Tables 12-1 and 12-15, and how the fields of a line frame are read. -/

namespace Sys2Proof.Machine
open Sys2Proof

/-! ## Codes to values -/

/-- Motion code; all four name a value. -/
def motionOf (c : BitVec 2) : Motion :=
  match c.toNat with
  | 0 => .stopped
  | 1 => .forward
  | 2 => .reverse
  | _ => .fast

/-- Reference state code; 3 names no value (R204). -/
def refStateOf (c : BitVec 2) : Option RefState :=
  match c.toNat with
  | 0 => some .none
  | 1 => some .tracking
  | 2 => some .hold
  | _ => none

/-- Lock state code; 3 names no value (R204). -/
def lockStateOf (c : BitVec 2) : Option LockState :=
  match c.toNat with
  | 0 => some .unlocked
  | 1 => some .chasing
  | 2 => some .sync
  | _ => none

/-- Mode of a number: 0 REHEARSE, 1 RECORD, any other names none (R109, R173). -/
def modeOf (n : Nat) : Option Mode :=
  match n with
  | 0 => some .rehearse
  | 1 => some .record
  | _ => none

/-! ## Values to codes -/

def Motion.code : Motion → Nat
  | .stopped => 0
  | .forward => 1
  | .reverse => 2
  | .fast => 3

def RefState.code : RefState → Nat
  | .none => 0
  | .tracking => 1
  | .hold => 2

def LockState.code : LockState → Nat
  | .unlocked => 0
  | .chasing => 1
  | .sync => 2

def Mode.code : Mode → Nat
  | .rehearse => 0
  | .record => 1

def RunState.code : RunState → Nat
  | .idle => 0
  | .armed => 1
  | .running => 2
  | .passed => 3

def RunOutcome.code : RunOutcome → Nat
  | .none => 0
  | .complete => 1
  | .interrupted => 2
  | .missed => 3

def PunchResult.code : PunchResult → Nat
  | .none => 0
  | .rehearsed => 1
  | .recorded => 2
  | .noSync => 3
  | .dropped => 4
  | .aborted => 5

def RxState.code : RxState → Nat
  | .hunt => 0
  | .ready => 1
  | .receiving => 2

def Dir.code : Dir → Nat
  | .forward => 0
  | .reverse => 1
  | .none => 2

def Raster.code : Raster → Nat
  | .noSignal => 0
  | .acquiring => 1
  | .stable => 2
  | .mismatch => 3

def KeyState.code : KeyState → Nat
  | .off => 0
  | .armed => 1
  | .pressing => 2
  | .held => 3
  | .releasing => 4

/-- Code of the element, and its bit in the fired set (12 Table 12-15). -/
def Element.code : Element → Nat
  | .spanStart => 0
  | .lightOn => 1
  | .punchIn => 2
  | .beep1 => 3
  | .beep2 => 4
  | .beep3 => 5
  | .beep4 => 6
  | .punchOut => 7
  | .lightOff => 8
  | .spanEnd => 9

/-- The element's place in the element order of R104, in which the beeps stand as one place. -/
def Element.place : Element → Nat
  | .spanStart => 0
  | .lightOn => 1
  | .punchIn => 2
  | .beep1 => 3
  | .beep2 => 3
  | .beep3 => 3
  | .beep4 => 3
  | .punchOut => 4
  | .lightOff => 5
  | .spanEnd => 6

/-- Fault kind codes (11 Table 11-1). -/
def FaultKind.code : FaultKind → Nat
  | .lineCheck => 1
  | .lineFraming => 2
  | .lineBit => 3
  | .txOverflow => 4
  | .dupStation => 5
  | .badStrap => 6
  | .configClamp => 7
  | .tachSlip => 8
  | .countRange => 9
  | .sourceLost => 10
  | .cueField => 11
  | .cueBusy => 12
  | .tableFull => 13
  | .orphanBody => 14
  | .stageEvict => 15
  | .controlUnknown => 16
  | .lateFire => 17
  | .punchNosync => 18
  | .punchDropout => 19
  | .rasterMismatch => 20
  | .markOverrun => 21

/-! ## Identity of the station -/

/-- The own station number: the strap (R14, R187). DESIGN CHOICE, unsafe (log entry 41): R187 makes a sampled strap the station number
"from the next START on" and R20 keeps the own peer entry "at all times"; which entry is the own one in CONFIG, before START, is left
open. The newly sampled strap's entry is it at once, also after a RESTART that found another strap. -/
def State.own (s : State) : BitVec 5 := s.straps.station

/-- A good station number is 0 to 23 (R187). -/
def goodStraps (st : Straps) : Bool := decide (st.station.toNat < 24)

/-- The CONTROL target test: the own number, or 31 for all (R5). -/
def State.targeted (s : State) (target : BitVec 5) : Bool := decide (target = s.own) || decide (target = 31#5)

/-- The blocks have started: the station has passed START since the last reset (R22, R188). -/
def State.started (s : State) : Bool := decide (s.clp.line ≠ .config)

/-- Frames take effect in JOINING and ACTIVE (R4, R5). -/
def State.listening (s : State) : Bool := decide (s.clp.line = .joining) || decide (s.clp.line = .active)

/-- A channel counts from START on when its role is not NONE (R21, R22). -/
def State.counting (s : State) (c : Chan) : Bool := s.started && decide ((s.settings.chan c).role ≠ .none)

/-! ## Settings as the blocks use them -/

/-- U as used: 0 is taken as 1 (R21). -/
def ChanSettings.u (g : ChanSettings) : Nat := if g.units = 0 then 1 else g.units

/-- Wrap-follow is effective ON when it is ON, or BY ROLE with role PICTURE (R21). -/
def ChanSettings.follows (g : ChanSettings) : Bool :=
  match g.follow with
  | .on => true
  | .off => false
  | .byRole => decide (g.role = .picture)

/-- The position ids of LT0 to LT3, 16 for none (07 Table 7-2). -/
def Settings.served (g : Settings) : List Nat := [g.lt0, g.lt1, g.lt2, g.lt3]

/-- A positions mask contains a served position (R81). -/
def Settings.serves (g : Settings) (mask : BitVec 16) : Bool := g.served.any fun p => mask.getLsbD p

/-- The channel of role RECORD whose record group is the group; at most one is, after the clamps of R22 (R103). -/
def Settings.recorder (g : Settings) (group : Option Nat) : Option Chan :=
  if g.a.role = .record ∧ group = some g.a.group then some .a
  else if g.b.role = .record ∧ group = some g.b.group then some .b
  else none

/-- The channel of role PICTURE; at most one is, after the clamps of R22 (R41). -/
def Settings.picture (g : Settings) : Option Chan :=
  if g.a.role = .picture then some .a else if g.b.role = .picture then some .b else none

end Sys2Proof.Machine
end

