-- ==== Sys2Proof/Machine/Predict.lean ====
section
/-! DEFINITION. The position the tracker gives for a time (03 sections 3.5, R56, R57). -/

namespace Sys2Proof.Machine
open Sys2Proof

/-- Step 1 of R56: the elapsed time, 0 for a time before the record, at most 1,000,000 µs. -/
def elapsed (t tNew : Time) : Nat := if since t tNew < 2147483648 then min (since t tNew) 1000000 else 0

/-- Step 2 of R56: the predicted phase, at most 255. -/
def predictedPhase (e interval : Nat) : Nat := min 255 (e * 256 / interval)

/-- The position for the time `t`: R56 with a moving valid prediction, else Table 3-5 (R57). `none`: no position exists. -/
def Ptr.position (p : Ptr) (t : Time) : Option Int :=
  match p.state with
  | .none => none
  | .hold => p.frozen
  | .tracking =>
    match p.motion with
    | .stopped => p.hold
    | .fast =>
      match p.recNew with
      | some r => some (r.b * 256)
      | none => p.hold
    | .forward =>
      match p.recNew, p.interval with
      | some r, some i => some (r.b * 256 + predictedPhase (elapsed t r.stamp) i)
      | some r, none => some (r.b * 256)
      | none, _ => p.hold
    | .reverse =>
      match p.recNew, p.interval with
      | some r, some i => some (r.b * 256 - predictedPhase (elapsed t r.stamp) i)
      | some r, none => some (r.b * 256)
      | none, _ => p.hold

/-- The position at the present moment. -/
def State.here (s : State) : Option Int := s.ptr.position s.timebase

end Sys2Proof.Machine
end

