-- ==== Sys2Proof/Machine/Alert.lean ====
section
/-! DEFINITION. Fault and Alert, and the status exchange of the Cue Line Port it feeds: recording a fault (R192 to R194), alert
causes (R197), status changes (R18). -/

namespace Sys2Proof.Machine
open Sys2Proof

/-- What a recording rule supplies (R193); a field it leaves unnamed is `none`. -/
structure FaultInfo where
  kind : FaultKind
  pos : Option Int := none
  chan : Option Chan := none
  cue : Option (BitVec 6 × BitVec 12) := none
  sender : Option (BitVec 5) := none
  deriving DecidableEq, Repr

/-! Places of the alert causes (11 Table 11-3). -/

abbrev causeFault : BitVec 6 := 1#6
abbrev causeMark : BitVec 6 := 2#6
abbrev causeCueDone : BitVec 6 := 4#6
abbrev causeLock : BitVec 6 := 8#6
abbrev causeAttn : BitVec 6 := 16#6
abbrev causePunch : BitVec 6 := 32#6

/-- A cause joins the pending set (R197). -/
def setCause (c : BitVec 6) (s : State) : State := s.modFlt fun f => { f with causes := f.causes ||| c }

/-- The record a fault fills an empty first-fault record with: a position the rule does not name is the tracker's at the
stamp (R193). -/
def faultRecord (i : FaultInfo) (s : State) : FaultRec :=
  { kind := i.kind, stamp := s.timebase, pos := i.pos.or s.here, chan := i.chan, cue := i.cue, sender := i.sender }

/-- The three steps of R192, without the status change of R194: the count, the record or its more flag, the FAULT cause. -/
def bumpFault (i : FaultInfo) (s : State) : State :=
  setCause causeFault (s.modFlt fun f =>
    { f with
      counts := f.counts.set (i.kind.code - 1) (satInc 255 (f.counts.getD (i.kind.code - 1) 0))
      first := some (f.first.getD (faultRecord i s))
      more := f.more || f.first.isSome })

/-- A STATUS frame of the station is in flight. -/
def Clp.statusInFlight (c : Clp) : Bool :=
  match c.inFlight with
  | some ⟨.status _, _⟩ => true
  | _ => false

/-- A STATUS frame joins the queue at its tail, or is dropped with TX_OVERFLOW when 8 frames stand there (R18, R19). -/
def placeStatus (overflow : State → State) (s : State) : State :=
  if s.clp.queue.length < Config.queueSize then s.modClp fun c => { c with queue := c.queue ++ [.status] } else overflow s

/-- The three effects of a status change in ACTIVE (R18); none in the other line states. -/
def statusEffect (overflow : State → State) (s : State) : State :=
  if s.clp.line ≠ .active then s
  else if s.clp.queue.contains .status && !s.clp.statusInFlight then s
  else if s.clp.statusInFlight || s.clp.spacingTimer.isSome then s.modClp fun c => { c with statusDue := true }
  else placeStatus overflow s

/-- A fault is recorded (R192); filling an empty record is a status change (R194). A STATUS frame that this change finds no
room for is a further fault, on a record that is no longer empty (log entry 20). -/
def recordFault (i : FaultInfo) (s : State) : State :=
  if s.flt.first.isNone then statusEffect (bumpFault { kind := .txOverflow }) (bumpFault i s) else bumpFault i s

/-- TX_OVERFLOW of a STATUS placement (R18, R19). -/
def statusOverflow : State → State := recordFault { kind := .txOverflow }

/-- A status change delivered to the Cue Line Port (R18). -/
def statusChange : State → State := statusEffect statusOverflow

/-- A write of the FAULT view clears the record and its more flag, and delivers a status change for the flag (R194, R195). -/
def clearRecord (s : State) : State :=
  guarded s.flt.first.isSome statusChange (s.modFlt fun f => { f with first := none, more := false })

/-- A PUNCH or MARK frame is placed in the transmit queue (R11): taken in JOINING and ACTIVE while fewer than 8 frames stand
there, dropped with TX_OVERFLOW when 8 do, dropped without a fault in CONFIG and DUPLICATE. -/
def placeFrame (f : LineFrame) (cue : Option (BitVec 6 × BitVec 12)) (s : State) : State :=
  if !s.listening then s
  else if s.clp.queue.length < Config.queueSize then s.modClp fun c => { c with queue := c.queue ++ [.frame f] }
  else recordFault { kind := .txOverflow, cue := cue } s

end Sys2Proof.Machine
end

