-- ==== Sys2Proof/Machine/Cues.lean ====
section
/-! DEFINITION. What a cue definition gives: its span and elements (06 sections 6.2 and 6.3), and the access to the entries of
the cue table. -/

namespace Sys2Proof.Machine
open Sys2Proof

/-! ## Entries -/

/-- The entry of an index; `none` is EMPTY. -/
def State.entry (s : State) (i : Nat) : Option CueEntry := s.ctb.entries.getD i none

/-- Every field of an entry's place is set. -/
def setEntry (i : Nat) (e : Option CueEntry) (s : State) : State :=
  s.modCtb fun c => { c with entries := c.entries.set i e }

/-- The run part of a VALID entry is changed; an EMPTY one has none. -/
def modRun (i : Nat) (f : RunPart → RunPart) (s : State) : State :=
  setEntry i ((s.entry i).map fun e => { e with run := f e.run }) s

/-- The entry is VALID and in the run state. -/
def State.inState (s : State) (i : Nat) (st : RunState) : Bool := (s.entry i).any fun e => decide (e.run.state = st)

/-- A VALID entry with the reel tag and cue id (R78: there is at most one). -/
def State.findCue (s : State) (reel : BitVec 6) (id : BitVec 12) : Option Nat :=
  (List.range Config.cueCount).find? fun i => (s.entry i).any fun e => decide (e.cue.reel = reel) && decide (e.cue.id = id)

/-- Reel tag and cue id. -/
def CueDef.name (d : CueDef) : BitVec 6 × BitVec 12 := (d.reel, d.id)

/-! ## The span (R102) -/

/-- The cue point C × 256 + Cφ. -/
def CueDef.point (d : CueDef) : Int := position d.frame d.phase

/-- The largest lead of the parts that are present (R79, R102). -/
def CueDef.leadMax (d : CueDef) : Nat :=
  max d.streamer (max (d.beeps * d.spacing) (max (if d.light then d.lightLead else 0) (if d.outOffset = 0 then 0 else d.punchLead)))

/-- Frames from the cue point to the light going off: the out offset when there is a punch, else the light hold. -/
def CueDef.lightOffset (d : CueDef) : Nat := if d.outOffset = 0 then d.lightHold else d.outOffset

/-- The largest tail of the parts that are present, at least 1 (R102). -/
def CueDef.tailMax (d : CueDef) : Nat :=
  max (if d.streamer = 0 then 1 else 2) (max d.outOffset (if d.light then d.lightOffset else 1))

/-- The span start Ps. -/
def CueDef.ps (d : CueDef) : Int := position (d.frame - d.leadMax) d.phase

/-- The span end Pe. -/
def CueDef.pe (d : CueDef) : Int := position (d.frame + d.tailMax) d.phase

/-! ## Elements (R103) -/

/-- The elements in the order of Table 6-3. -/
def allElements : List Element :=
  [.spanStart, .lightOn, .punchIn, .beep1, .beep2, .beep3, .beep4, .punchOut, .lightOff, .spanEnd]

/-- A position kept within Ps to Pe (R103). -/
def CueDef.within (d : CueDef) (p : Int) : Int := max d.ps (min d.pe p)

/-- The punch trim of the RECORD channel that serves the cue's group (R103). -/
def Settings.trimFor (g : Settings) (d : CueDef) : Int :=
  match g.recorder d.group with
  | some c => (g.chan c).trim
  | none => 0

/-- The position of an element (06 Table 6-3). -/
def elementPos (g : Settings) (d : CueDef) : Element → Int
  | .spanStart => d.ps
  | .lightOn => d.point - d.lightLead * 256
  | .punchIn => d.within (d.point - d.punchLead * 256 + g.trimFor d)
  | .beep1 => d.point - d.spacing * 256
  | .beep2 => d.point - 2 * d.spacing * 256
  | .beep3 => d.point - 3 * d.spacing * 256
  | .beep4 => d.point - 4 * d.spacing * 256
  | .punchOut => d.within (d.point + d.outOffset * 256 + g.trimFor d)
  | .lightOff => d.point + d.lightOffset * 256
  | .spanEnd => d.pe

/-- An element is relevant at this station (06 Table 6-3, last column). -/
def relevant (g : Settings) (d : CueDef) : Element → Bool
  | .spanStart => true
  | .spanEnd => true
  | .lightOn => d.light && g.serves d.mask
  | .lightOff => d.light && g.serves d.mask
  | .punchIn => decide (d.outOffset ≠ 0) && (g.recorder d.group).isSome
  | .punchOut => decide (d.outOffset ≠ 0) && (g.recorder d.group).isSome
  | .beep1 => decide (1 ≤ d.beeps) && g.serves d.mask
  | .beep2 => decide (2 ≤ d.beeps) && g.serves d.mask
  | .beep3 => decide (3 ≤ d.beeps) && g.serves d.mask
  | .beep4 => decide (4 ≤ d.beeps) && g.serves d.mask

/-- An element of an ARMED or RUNNING cue is pending while it is relevant and not in the fired set (R104). -/
def pendingElement (g : Settings) (e : CueEntry) (el : Element) : Bool :=
  (decide (e.run.state = .armed) || decide (e.run.state = .running)) && relevant g e.cue el && !e.run.fired.getLsbD el.code

/-- The order of R104 on listed elements: position, then element order, in which the beeps are one place, then entry index. The beeps
of one cue never share a position, since a stored spacing with beeps is at least 1 (R89); the code only makes the order total. -/
def dueLe (x y : Due) : Bool :=
  decide (x.pos < y.pos) || (decide (x.pos = y.pos) &&
    (decide (x.element.place < y.element.place) || (decide (x.element.place = y.element.place) &&
      (decide (x.entry < y.entry) || (decide (x.entry = y.entry) && decide (x.element.code ≤ y.element.code))))))

/-- The pending elements of every entry whose positions satisfy `p`, in the order of R104, with the fire time `fire` gives. -/
def State.pendingWhere (s : State) (p : Int → Bool) (fire : Int → Time) : List Due :=
  sortBy dueLe ((List.range Config.cueCount).flatMap fun i =>
    match s.entry i with
    | none => []
    | some e =>
      (allElements.filter fun el => pendingElement s.settings e el && p (elementPos s.settings e.cue el)).map fun el =>
        { entry := i, element := el, pos := elementPos s.settings e.cue el, fire := fire (elementPos s.settings e.cue el) })

end Sys2Proof.Machine
end

