-- ==== Sys2Proof/Machine/Outputs.lean ====
section
/-! DEFINITION. Cue Outputs: punch lines, cue lights, tone and tally (07). `q` is the reference position of the moment (R134,
log entry 15). -/

namespace Sys2Proof.Machine
open Sys2Proof

/-! ## Punch lines -/

/-- The punch count of a channel (R131). -/
def Cou.punch (c : Cou) : Chan → Nat
  | .a => c.punchA
  | .b => c.punchB

def Cou.setPunch (c : Cou) (ch : Chan) (n : Nat) : Cou :=
  match ch with
  | .a => { c with punchA := n }
  | .b => { c with punchB := n }

/-- Punch edges and reasons (12 Table 12-1). -/
abbrev edgeIn : BitVec 1 := 0#1
abbrev edgeOut : BitVec 1 := 1#1
abbrev reasonEnd : BitVec 2 := 0#2
abbrev reasonDropout : BitVec 2 := 1#2
abbrev reasonAbort : BitVec 2 := 2#2

/-- The fields of a PUNCH frame of a cue (07 Table 7-3); with no position it carries 0:0. -/
def punchArgs (d : CueDef) (reason : BitVec 2) (q : Option Int) : PunchArgs :=
  { group := BitVec.ofNat 4 (d.group.getD 0), reel := d.reel, id := d.id, reason := reason, frame := frameField (q.getD 0),
    phase := posPhase (q.getD 0) }

/-- A PUNCH frame is placed in the transmit queue (R134). -/
def placePunch (edge : BitVec 1) (d : CueDef) (reason : BitVec 2) (q : Option Int) : State → State :=
  placeFrame (.punch edge (punchArgs d reason q)) (some d.name)

/-- A punch is opened on the channel (R132); while the outputs are released an open does nothing (R143). -/
def openPunch (ch : Chan) (d : CueDef) (q : Option Int) (s : State) : State :=
  if s.cou.released then s
  else setCause causePunch (placePunch edgeIn d reasonEnd q (s.modCou fun c => c.setPunch ch (c.punch ch + 1)))

/-- A punch is closed on the channel (R133); with the count already 0 nothing changes. -/
def closePunch (ch : Chan) (d : CueDef) (reason : BitVec 2) (q : Option Int) (s : State) : State :=
  if s.cou.punch ch = 0 then s
  else setCause causePunch (placePunch edgeOut d reason q (s.modCou fun c => c.setPunch ch (c.punch ch - 1)))

/-- The close on the channel that serves the cue's group. -/
def closeCuePunch (d : CueDef) (reason : BitVec 2) (q : Option Int) (s : State) : State :=
  match s.settings.recorder d.group with
  | some ch => closePunch ch d reason q s
  | none => s

/-! ## Lights -/

/-- The hold counts of the outputs whose position lies in the mask are changed, each once (R136). -/
def modHolds (mask : BitVec 16) (f : Nat → Nat) (s : State) : State :=
  s.modCou fun c => { c with holds := List.zipWith (fun p n => if mask.getLsbD p then f n else n) s.settings.served c.holds }

/-- A cue's light is opened (R118); while the outputs are released nothing is done (R143). -/
def openLight (mask : BitVec 16) (s : State) : State := if s.cou.released then s else modHolds mask (· + 1) s

/-- A cue's light is released; a count already 0 stays 0 (R137). -/
def releaseLight (mask : BitVec 16) : State → State := modHolds mask (· - 1)

/-! ## Tone -/

/-- A beep opens the gate, or moves its end to the later of the two ends, compared modulo 2³² (R139). -/
def beep (s : State) : State :=
  if s.cou.released then s
  else
    let candidate := later s.timebase (s.settings.beepMs * 1000)
    s.modCou fun c =>
      { c with
        gate := match c.gate with
          | none => some { finish := candidate, opened := s.timebase }
          | some g => some { g with finish := if reached candidate g.finish then candidate else g.finish } }

/-! ## Tally -/

/-- The cue's tally contribution, from any record station, is removed (R125, R142). -/
def dropTally (name : BitVec 6 × BitVec 12) (s : State) : State :=
  s.modCou fun c => { c with tally := c.tally.filter fun x => !(decide ((x.reel, x.id) = name)) }

/-- A report empties the tally set (R142). -/
def clearTally (s : State) : State := s.modCou fun c => { c with tally := [] }

/-- The entry is equal to a frame's record station, reel tag and cue id (07 section 7.5). -/
def Tally.same (x : Tally) (sender : BitVec 5) (p : PunchArgs) : Bool :=
  decide (x.station = sender.toNat) && decide (x.reel = p.reel) && decide (x.id = p.id)

/-- The position a frame field and phase field carry. -/
def fieldsPosition (frame : BitVec 24) (phase : BitVec 8) : Int := position frame.toInt phase.toNat

/-- A PUNCH frame with edge IN: when the reference runs forward, the cue concerns a served position and no equal entry stands,
a tally entry joins at the newest place, pushing out the oldest of 8; a RUNNING cue gets the tally notice (R123, R140). -/
def tallyIn (sender : BitVec 5) (p : PunchArgs) (s : State) : State :=
  match s.findCue p.reel p.id with
  | none => s
  | some i =>
    if s.ptr.motion = .forward ∧ ((s.entry i).any fun e => s.settings.serves e.cue.mask) = true ∧
        (s.cou.tally.any fun x => x.same sender p) = false then
      let old := if s.cou.tally.length < Config.tallySize then s.cou.tally else s.cou.tally.drop 1
      let new : Tally := { station := sender.toNat, group := p.group, reel := p.reel, id := p.id, pos := fieldsPosition p.frame p.phase }
      let s := s.modCou fun c => { c with tally := old ++ [new] }
      if s.inState i .running then modRun i (fun r => { r with punched := true }) s else s
    else s

/-- A PUNCH frame with edge OUT removes the equal tally entry (R141). -/
def tallyOut (sender : BitVec 5) (p : PunchArgs) (s : State) : State :=
  s.modCou fun c => { c with tally := c.tally.filter fun x => !x.same sender p }

/-- A PUNCH frame that takes effect, by its edge; the reason is not used (R141, R204). -/
def applyPunch (sender : BitVec 5) (edge : BitVec 1) (p : PunchArgs) (s : State) : State :=
  if edge = edgeIn then tallyIn sender p s else tallyOut sender p s

/-! ## Notices -/

/-- One entry at the sync-lost notice: its open punch on the channel closes with DROPOUT, PUNCH_DROPOUT is recorded, and the
dropout notice clears PUNCH OPEN with result DROPPED (R123, R135). -/
def dropPunch (ch : Chan) (i : Nat) (s : State) : State :=
  match s.entry i with
  | some e =>
    if e.run.state = .running ∧ e.run.punchOpen = true ∧ s.settings.recorder e.cue.group = some ch then
      modRun i (fun r => { r with punchOpen := false, punch := .dropped })
        (recordFault { kind := .punchDropout, pos := s.here, chan := some ch, cue := some e.cue.name }
          (closePunch ch e.cue reasonDropout s.here s))
    else s
  | none => s

/-- The sync-lost notice of a channel (R135): every open punch of it closes, in increasing index order. -/
def syncLost (ch : Chan) : State → State := forIndexes Config.cueCount (dropPunch ch)

/-- The duplicate notice at Cue Outputs (R143): every output is released at once. -/
def releaseOutputs (s : State) : State :=
  guarded (decide (0 < s.cou.punchA ∨ 0 < s.cou.punchB)) (setCause causePunch)
    (s.modCou fun _ => { Cou.reset with released := true })

end Sys2Proof.Machine
end

