-- ==== Sys2Proof/Machine/Scheduler.lean ====
section
/-! DEFINITION. The Cue Scheduler (06): re-derivation, firing, the due list, forward and other boundaries, run endings, arming
orders and mode. -/

namespace Sys2Proof.Machine
open Sys2Proof

/-- The discontinuity reports of the tracker (03 Table 3-6). -/
inductive Report where
  | jump | wrap | reversal | stop | fast | loss | playable (value : Bool)
  deriving DecidableEq, Repr

/-! ## The due list -/

/-- Every listed element of an entry is removed, its timer stopped (R114). -/
def unlistEntry (i : Nat) (s : State) : State := s.modCsh fun c => { c with due := c.due.filter fun d => decide (d.entry ≠ i) }

/-- One element is removed from the due list, its timer stopped, if it stands there. -/
def unlist (i : Nat) (el : Element) (s : State) : State :=
  s.modCsh fun c => { c with due := c.due.filter fun d => !(decide (d.entry = i) && decide (d.element = el)) }

/-- The due list is emptied and every element timer stopped. -/
def emptyDue (s : State) : State := s.modCsh fun c => { c with due := [] }

/-! ## Re-derivation and arming (R105 to R107) -/

/-- The span start lies ahead: there is no position, or it lies below Ps (R105). DESIGN CHOICE, unsafe (log entry 40): R105's
parenthesis names NONE and a TRACKING reference for "no reference position"; a reference in HOLD with an absent frozen position (R51),
which by Table 3-5 gives no position, counts as none here too, so that its entries become ARMED and not PASSED. -/
def ahead (q : Option Int) (d : CueDef) : Bool := q.all fun p => decide (p < d.ps)

/-- Re-derivation of an entry against `q` (R105): only ARMED and PASSED entries are re-derived. -/
def rederive (q : Option Int) (i : Nat) (s : State) : State :=
  match s.entry i with
  | some e =>
    if e.run.state = .passed ∧ ahead q e.cue = true then modRun i (fun r => { r with state := .armed, fired := 0 }) s
    else if e.run.state = .armed ∧ ahead q e.cue = false then unlistEntry i (modRun i (fun r => { r with state := .passed }) s)
    else s
  | none => s

/-- Every entry is re-derived against the same position. -/
def rederiveAll (q : Option Int) : State → State := forIndexes Config.cueCount (rederive q)

/-- An arming order on an entry: an IDLE entry becomes ARMED or PASSED, its fired set emptied; others are left (R106). -/
def armEntry (q : Option Int) (i : Nat) (s : State) : State :=
  match s.entry i with
  | some e =>
    if e.run.state = .idle then
      modRun i (fun r => { r with state := if ahead q e.cue then .armed else .passed, fired := 0 }) s
    else s
  | none => s

/-! ## Run endings (R125, R108) -/

/-- A RUNNING entry's run is ended as an interruption, and the entry takes the run state `target` (R125). -/
def endRun (target : RunState) (i : Nat) (s : State) : State :=
  match s.entry i with
  | some e =>
    if e.run.state = .running then
      let s₁ := if e.run.punchOpen then closeCuePunch e.cue reasonAbort s.here s else s
      let s₂ := if e.run.lightOpen then releaseLight e.cue.mask s₁ else s₁
      let s₃ := unlistEntry i (dropTally e.cue.name s₂)
      modRun i (fun r =>
        { r with
          state := target
          outcome := .interrupted
          punch := if r.punchOpen then .aborted else r.punch
          punchOpen := false
          lightOpen := false }) (setCause causeCueDone s₃)
    else s
  | none => s

/-- Every RUNNING entry is ended as an interruption, in increasing index order (R126, R127). -/
def interruptAll : State → State := forIndexes Config.cueCount (endRun .passed)

/-- A disarm of an entry (R108): a RUNNING one is interrupted first; an ARMED or PASSED one loses its listed elements. -/
def disarmEntry (i : Nat) (s : State) : State :=
  match s.entry i with
  | some e =>
    if e.run.state = .running then endRun .idle i s
    else unlistEntry i (modRun i (fun r => { r with state := .idle }) s)
  | none => s

/-! ## Firing (R116 to R122) -/

/-- The element joins its entry's fired set (R104, R116). -/
def RunPart.markFired (r : RunPart) (el : Element) : RunPart := { r with fired := r.fired ||| (1#10 <<< el.code) }

/-- The state of the entry in which an element acts (R116). -/
def Element.actsIn : Element → RunState
  | .spanStart => .armed
  | _ => .running

/-- The run part at a SPAN_START, either case (R117), and at the unplayable crossing (R115): flags cleared, punch result
NONE, pass count up by one. -/
def RunPart.passStart (r : RunPart) : RunPart :=
  { r with punched := false, punchOpen := false, lightOpen := false, punch := .none, passes := satInc 255 r.passes }

/-- SPAN_START (R117). -/
def fireSpanStart (i : Nat) (s : State) : State :=
  if s.ptr.playable then modRun i (fun r => { r.passStart with state := .running }) s
  else unlistEntry i (modRun i (fun r => { r.passStart with state := .passed, outcome := .missed }) s)

/-- LIGHT_ON (R118). -/
def fireLightOn (i : Nat) (d : CueDef) (s : State) : State :=
  openLight d.mask (modRun i (fun r => { r with lightOpen := true }) s)

/-- LIGHT_OFF (R118). -/
def fireLightOff (i : Nat) (e : CueEntry) (s : State) : State :=
  if e.run.lightOpen then releaseLight e.cue.mask (modRun i (fun r => { r with lightOpen := false }) s) else s

/-- PUNCH_IN (R120), at the reference position `q`. -/
def firePunchIn (q : Option Int) (i : Nat) (d : CueDef) (s : State) : State :=
  match s.csh.mode, s.settings.recorder d.group with
  | .rehearse, _ => modRun i (fun r => { r with punch := .rehearsed }) s
  | .record, none => s
  | .record, some ch =>
    if (s.lock ch).state = .sync then
      modRun i (fun r => { r with punch := .recorded, punched := true, punchOpen := true }) (openPunch ch d q s)
    else
      recordFault { kind := .punchNosync, pos := q, chan := some ch, cue := some d.name }
        (modRun i (fun r => { r with punch := .noSync }) s)

/-- PUNCH_OUT (R121). -/
def firePunchOut (q : Option Int) (i : Nat) (e : CueEntry) (s : State) : State :=
  if e.run.punchOpen then modRun i (fun r => { r with punchOpen := false }) (closeCuePunch e.cue reasonEnd q s) else s

/-- SPAN_END (R122): what the run still holds is released, and the run ends as complete. -/
def fireSpanEnd (q : Option Int) (i : Nat) (e : CueEntry) (s : State) : State :=
  let s₁ := if e.run.punchOpen then closeCuePunch e.cue reasonEnd q s else s
  let s₂ := if e.run.lightOpen then releaseLight e.cue.mask s₁ else s₁
  setCause causeCueDone (unlistEntry i (modRun i (fun r =>
    { r with
      state := .passed
      outcome := .complete
      takes := if r.punched then satInc 255 r.takes else r.takes
      punchOpen := false
      lightOpen := false }) s₂))

/-- What a firing element does on its entry (R117 to R122). -/
def elementAction (q : Option Int) (i : Nat) (e : CueEntry) : Element → State → State
  | .spanStart => fireSpanStart i
  | .lightOn => fireLightOn i e.cue
  | .lightOff => fireLightOff i e
  | .punchIn => firePunchIn q i e.cue
  | .punchOut => firePunchOut q i e
  | .spanEnd => fireSpanEnd q i e
  | .beep1 | .beep2 | .beep3 | .beep4 => beep

/-- An element fires on its entry: it joins the fired set and acts; on an entry in another state it is discarded without effect
(R112, R116, log entry 28). -/
def fireElement (q : Option Int) (i : Nat) (el : Element) (s : State) : State :=
  match s.entry i with
  | some e =>
    if e.run.state = el.actsIn then elementAction q i e el (modRun i (fun r => r.markFired el) s) else s
  | none => s

/-! ## Boundaries (R110 to R115) -/

/-- One element's turn in late firing (R112): off the due list, fired if its entry is in the state it requires, and then counted
and recorded as LATE_FIRE (log entry 14). -/
def lateTurn (q : Option Int) (d : Due) (s : State) : State :=
  let s := unlist d.entry d.element s
  match s.entry d.entry with
  | some e =>
    if e.run.state = d.element.actsIn then
      recordFault { kind := .lateFire, pos := q, cue := some e.cue.name }
        ((fireElement q d.entry d.element s).modCsh fun c => { c with late := satInc 65535 c.late })
    else s
  | none => s

/-- Late firing of a forward boundary with frame `b` (R112). -/
def lateFiring (b : Int) (s : State) : State :=
  (s.pendingWhere (fun p => decide (p < b * 256)) fun _ => 0).foldl (fun s d => lateTurn (some (b * 256)) d s) s

/-- The fire time of an element at `p` in frame `b` (R113). -/
def fireTime (b : Int) (tNew : Time) (interval : Nat) (p : Int) : Time :=
  later tNew (((p - b * 256).toNat * interval + 255) / 256)

/-- The position lies in frame `b`. -/
def inFrame (b p : Int) : Bool := decide (b * 256 ≤ p) && decide (p ≤ b * 256 + 255)

/-- An element listed with a fire time that is already reached fires at the listing, on time (R113). -/
def fireReached (d : Due) (s : State) : State :=
  if s.csh.due.contains d && reached s.timebase d.fire then fireElement s.here d.entry d.element (unlist d.entry d.element s)
  else s

/-- The listing of frame `b` (R113): up to 24 elements on the due list; those already reached fire in list order. -/
def listing (b : Int) (tNew : Time) (interval : Nat) (s : State) : State :=
  let found := s.pendingWhere (inFrame b) (fireTime b tNew interval)
  let s := s.modCsh fun c => { c with due := c.due ++ found.take (Config.dueSize - c.due.length) }
  s.csh.due.foldl (fun s d => fireReached d s) s

/-- One entry at the unplayable crossing (R115). -/
def crossEntry (b : Int) (i : Nat) (s : State) : State :=
  match s.entry i with
  | some e =>
    if e.run.state = .armed ∧ e.cue.ps ≤ b * 256 + 255 then
      unlistEntry i (modRun i (fun r => { r.passStart with state := .passed, outcome := .missed }) s)
    else s
  | none => s

/-- One entry at the going-back step (R110). -/
def goBack (b : Int) (i : Nat) (s : State) : State :=
  match s.entry i with
  | some e =>
    if e.run.state = .passed ∧ b * 256 + 255 < e.cue.ps then modRun i (fun r => { r with state := .armed, fired := 0 }) s
    else s
  | none => s

/-- The second step of a forward boundary: the listing when playable, else the unplayable crossing (R110). -/
def boundaryList (r : BRec) (s : State) : State :=
  match s.ptr.playable, s.ptr.interval with
  | true, some i => listing r.b r.stamp i s
  | _, _ => forIndexes Config.cueCount (crossEntry r.b) s

/-- A reference boundary at the scheduler (R110, R111); a halted scheduler ignores it. -/
def takeBoundary (r : BRec) (s : State) : State :=
  if s.csh.halted then s
  else if r.dir = .forward ∧ s.ptr.motion = .forward then
    forIndexes Config.cueCount (goBack r.b) (boundaryList r (lateFiring r.b s))
  else rederiveAll (some (r.b * 256)) s

/-- A hold update at the scheduler (R111); a halted scheduler ignores it. -/
def takeHold (s : State) : State := if s.csh.halted then s else rederiveAll s.here s

/-- A discontinuity report at the scheduler (R126): runs are interrupted, the due list is emptied, entries are re-derived. A
PLAYABLE-CHANGE with the value true changes nothing, and a halted scheduler ignores reports. -/
def schedulerReport (r : Report) (s : State) : State :=
  if s.csh.halted ∨ r = .playable true then s else rederiveAll s.here (emptyDue (interruptAll s))

/-- The duplicate notice at the scheduler (R127). -/
def haltScheduler (s : State) : State := (emptyDue (interruptAll s)).modCsh fun c => { c with halted := true }

/-- The first listed element whose timer has expired (R114). -/
def headExpired (s : State) : Option Due :=
  match s.csh.due with
  | [] => none
  | d :: _ => if reached s.timebase d.fire then some d else none

/-! ## Orders (R106 to R109) -/

/-- CONTROL ARM (R106). -/
def armCue (reel : BitVec 6) (id : BitVec 12) (s : State) : State :=
  match s.findCue reel id with
  | some i => armEntry s.here i s
  | none => s

/-- CONTROL ARMREEL (R107): every IDLE entry of the reel, against the same position. -/
def armReel (reel : BitVec 6) (s : State) : State :=
  forIndexes Config.cueCount
    (fun i t => if (t.entry i).any (fun e => decide (e.cue.reel = reel)) then armEntry s.here i t else t) s

/-- CONTROL DISARM (R108). -/
def disarmCue (reel : BitVec 6) (id : BitVec 12) (s : State) : State :=
  match s.findCue reel id with
  | some i => disarmEntry i s
  | none => s

/-- CONTROL DISARMALL (R108). -/
def disarmAll : State → State := forIndexes Config.cueCount disarmEntry

/-- One entry at a change from RECORD to REHEARSE (R109). -/
def abortPunch (i : Nat) (s : State) : State :=
  match s.entry i with
  | some e =>
    if e.run.state = .running ∧ e.run.punchOpen = true then
      modRun i (fun r => { r with punchOpen := false, punch := .aborted }) (closeCuePunch e.cue reasonAbort s.here s)
    else s
  | none => s

/-- The mode is set (R109): a change is a status change, and a change to REHEARSE closes every open punch with ABORT. -/
def setMode (m : Mode) (s : State) : State :=
  if s.csh.mode = m then s
  else
    let s := statusChange (s.modCsh fun c => { c with mode := m })
    if m = .rehearse then forIndexes Config.cueCount abortPunch s else s

end Sys2Proof.Machine
end

