-- ==== Sys2Proof/Machine/Locks.lean ====
section
/-! DEFINITION. The Record Lock (04): a lock's record boundaries, motion changes and reports. -/

namespace Sys2Proof.Machine
open Sys2Proof

/-- A lock acts only while its channel counts with role RECORD (R65). -/
def State.lockActs (s : State) (c : Chan) : Bool := s.started && decide ((s.settings.chan c).role = .record)

/-- A change of lock state (R75): the lock takes its state with both runs 0, the LOCK cause is set, a status change is
delivered, and on leaving SYNC Cue Outputs gets the sync-lost notice. -/
def setLock (c : Chan) (st : LockState) (s : State) : State :=
  guarded (decide ((s.lock c).state = .sync)) (syncLost c)
    (statusChange (setCause causeLock (s.modLock c fun l => { l with state := st, good := 0, bad := 0 })))

/-- A lock in CHASING or SYNC becomes UNLOCKED; one in UNLOCKED is not changed. -/
def unlock (c : Chan) (s : State) : State := if (s.lock c).state = .unlocked then s else setLock c .unlocked s

/-- The sync error of a measured boundary, kept within its limits (R66). -/
def syncError (b p : Int) : Int := max (-32767) (min 32767 (b * 256 - p))

/-- A measured boundary that finds the lock CHASING (R69). -/
def countChasing (c : Chan) (good : Bool) (s : State) : State :=
  if good then
    if 3 ≤ (s.lock c).good + 1 then setLock c .sync s
    else s.modLock c fun l => { l with good := l.good + 1, bad := 0 }
  else s.modLock c fun l => { l with good := 0, bad := satInc 255 l.bad }

/-- A measured boundary that finds the lock SYNC (R70). -/
def countSync (c : Chan) (good : Bool) (s : State) : State :=
  if good then s.modLock c fun l => { l with good := satInc 255 l.good, bad := 0 }
  else if 2 ≤ (s.lock c).bad + 1 then setLock c .chasing s
  else s.modLock c fun l => { l with good := 0, bad := l.bad + 1 }

/-- A measured boundary with the predicted position `p` (R66 to R70). -/
def measure (c : Chan) (b p : Int) (s : State) : State :=
  let good := decide ((syncError b p).natAbs ≤ s.settings.tolerance)
  let s := s.modLock c fun l => { l with err := syncError b p }
  match (s.lock c).state with
  | .unlocked => countChasing c good (setLock c .chasing s)
  | .chasing => countChasing c good s
  | .sync => countSync c good s

/-- The reference moves with a direction: FORWARD or REVERSE while TRACKING. -/
def Ptr.moving (p : Ptr) : Bool := decide (p.state = .tracking) && (decide (p.motion = .forward) || decide (p.motion = .reverse))

/-- A record boundary at the lock, by the first case of R67 that applies. -/
def lockBoundary (c : Chan) (r : BRec) (s : State) : State :=
  if (s.chan c).motion = .stopped then s
  else if s.ptr.moving = false then unlock c s
  else if ¬(s.ptr.motion = .forward ∧ r.dir = .forward ∨ s.ptr.motion = .reverse ∧ r.dir = .reverse) then unlock c s
  else
    match s.ptr.interval, s.ptr.position r.stamp with
    | some _, some p => measure c r.b p s
    | _, _ => s

/-- A motion change of the lock's channel, already in the channel (R71). -/
def lockMotion (c : Chan) (s : State) : State :=
  if (s.chan c).motion = .stopped then unlock c s
  else if s.ptr.moving = true ∧ (s.chan c).motion ≠ s.ptr.motion then unlock c s
  else s

/-- A report at a lock (R72 to R74). -/
def lockReport (r : Report) (c : Chan) (s : State) : State :=
  if s.lockActs c then
    match r with
    | .jump | .wrap =>
      match (s.lock c).state with
      | .unlocked => s
      | .chasing => s.modLock c fun l => { l with good := 0, bad := 0 }
      | .sync => setLock c .chasing s
    | .stop | .fast | .loss => unlock c s
    | .reversal | .playable _ => s
  else s

end Sys2Proof.Machine
end

