-- ==== Sys2Proof/Machine/Tracker.lean ====
section
/-! DEFINITION. The Position Tracker (03): the source list, the choice, the reference, its reports, and the beacons of a picture
station. -/

namespace Sys2Proof.Machine
open Sys2Proof

/-! ## Records and intervals -/

/-- The records are consecutive (R46, R54): same direction, forward or reverse, and a wrap or the next frame in it. -/
def consecutive (new : BRec) (old : Option BRec) : Bool :=
  match old with
  | none => false
  | some o =>
    match new.dir, o.dir with
    | .forward, .forward => new.wrap || decide (new.b = o.b + 1)
    | .reverse, .reverse => new.wrap || decide (new.b = o.b - 1)
    | _, _ => false

/-- Both records run forward, or both in reverse (R58). -/
def sameRun (new : BRec) (old : Option BRec) : Bool :=
  old.any fun o => decide (new.dir = o.dir) && decide (new.dir ≠ .none)

/-- t_new − t_old modulo 2³², 0 when there is no old record. -/
def recordGap (new : BRec) (old : Option BRec) : Nat :=
  match old with
  | none => 0
  | some o => since new.stamp o.stamp

/-- The channel interval from the channel's two records (R46). -/
def channelInterval (new old : Option BRec) : Option Nat :=
  match new with
  | none => none
  | some r => if consecutive r old ∧ recordGap r old ≤ 1000000 then some (recordGap r old) else none

/-- The hold position of a channel (R39). -/
def holdPosition (g : ChanSettings) (c : Channel) : Int :=
  position (c.frame + g.offset) (min c.unit (g.u - 1) * 256 / g.u)

/-! ## The source list and the choice (R43, R45) -/

/-- A source is preferred: lower rank, then lower sender number. -/
def Source.before (x y : Source) : Bool := decide (x.rank < y.rank) || (decide (x.rank = y.rank) && decide (x.sender ≤ y.sender))

/-- The entry of a REMOTE sender. -/
def Ptr.remote (p : Ptr) (n : Nat) : Option Source :=
  (p.sources.filterMap id).find? fun e => decide (e.sender = n) && !e.isLocal

/-- The entry of the chosen source. -/
def Ptr.chosenSource (p : Ptr) : Option Source :=
  p.chosen.bind fun n => (p.sources.filterMap id).find? fun e => decide (e.sender = n)

/-- The entries of a REMOTE sender are changed, or removed by `none`. -/
def Ptr.setRemote (p : Ptr) (n : Nat) (e : Option Source) : Ptr :=
  { p with sources := p.sources.map fun o => if o.any fun x => decide (x.sender = n) && !x.isLocal then e else o }

/-- The LOCAL entry is changed. -/
def Ptr.modLocal (p : Ptr) (f : Source → Source) : Ptr :=
  { p with sources := p.sources.map fun o => o.map fun e => if e.isLocal then f e else e }

/-- The replacement candidate: the REMOTE entry of numerically highest rank, of equal ones the higher sender (R43). -/
def Ptr.candidate (p : Ptr) : Option Source :=
  leastBy (fun x y => Source.before y x) ((p.sources.filterMap id).filter fun e => !e.isLocal)

/-- The lowest unoccupied index takes an entry; a full list is left (R43). -/
def addSource (e : Source) : List (Option Source) → List (Option Source)
  | [] => []
  | none :: rest => some e :: rest
  | some x :: rest => some x :: addSource e rest

/-! ## One event at the tracker (R62) -/

/-- The reference values an event leaves, but for motion and playable, and the reports, boundary and hold update it carries. -/
structure TrackerEvent where
  ptr : Ptr
  jump : Bool
  wrap : Bool
  lost : Option Nat
  boundary : Option BRec
  hold : Bool

/-- An event that has changed nothing of the reference yet. -/
def TrackerEvent.of (p : Ptr) : TrackerEvent :=
  { ptr := p, jump := false, wrap := false, lost := none, boundary := none, hold := false }

/-- Entry into TRACKING or source change (R50). -/
def TrackerEvent.enter (ev : TrackerEvent) (e : Source) : TrackerEvent :=
  { ev with
    ptr := { ev.ptr with
      state := .tracking, chosen := some e.sender, recNew := e.record, recOld := none, interval := none, fastDiff := false,
      hold := e.hold, frozen := none }
    jump := true
    hold := e.hold.isSome }

/-- Loss of source at the reading `t` (R51): the position predicted just before is frozen. -/
def TrackerEvent.lose (ev : TrackerEvent) (t : Time) : TrackerEvent :=
  { ev with
    ptr := { ev.ptr with
      state := .hold, chosen := none, interval := none, fastDiff := false, hold := ev.ptr.position t,
      frozen := ev.ptr.position t }
    lost := ev.ptr.chosen }

/-- The choice of R45 at the reading `t`. -/
def TrackerEvent.choose (ev : TrackerEvent) (t : Time) : TrackerEvent :=
  match leastBy Source.before (ev.ptr.sources.filterMap id) with
  | some e => if ev.ptr.state = .tracking ∧ ev.ptr.chosen = some e.sender then ev else ev.enter e
  | none => if ev.ptr.state = .tracking then ev.lose t else ev

/-- The reference takes a record of the chosen entry (R53, R54), with the JUMP of R58's first case and the WRAP of R59. -/
def TrackerEvent.takeRecord (ev : TrackerEvent) (r : BRec) : TrackerEvent :=
  let old := ev.ptr.recNew
  let cons := consecutive r old
  let d := recordGap r old
  { ev with
    ptr := { ev.ptr with
      recNew := some r
      recOld := old
      interval := if cons ∧ 8000 ≤ d ∧ d ≤ 1000000 then some d else none
      fastDiff := cons && decide (d < 8000) }
    jump := ev.jump || (sameRun r old && !cons)
    wrap := ev.wrap || r.wrap
    boundary := some r }

/-- The hold position moves by more than a frame while the reference stood STOPPED before the event (R55). -/
def holdJump (before : Motion) (old : Option Int) (h : Int) : Bool :=
  decide (before = .stopped) && old.any fun o => decide (256 < (h - o).natAbs)

/-- A hold update with the new hold position `h`; `before` is the reference motion before the event (R55). -/
def TrackerEvent.takeHold (ev : TrackerEvent) (before : Motion) (h : Int) : TrackerEvent :=
  { ev with
    ptr := { ev.ptr with
      hold := some h
      interval := if holdJump before ev.ptr.hold h then none else ev.ptr.interval }
    jump := ev.jump || holdJump before ev.ptr.hold h
    hold := true }

/-- The reference motion (R52). -/
def Ptr.derivedMotion (p : Ptr) : Motion :=
  match p.state, p.chosenSource with
  | .tracking, some e => if e.motion = .fast ∨ p.fastDiff then .fast else e.motion
  | .tracking, none => p.motion
  | _, _ => .stopped

/-- The reference is playable (R61). -/
def Ptr.isPlayable (p : Ptr) : Bool :=
  decide (p.state = .tracking) && decide (p.motion = .forward) &&
    p.interval.any fun i => decide (16000 ≤ i) && decide (i ≤ 125000)

/-- REVERSAL: the reference motion turns between FORWARD and REVERSE (R59). -/
def turned (before after : Motion) : Bool :=
  decide (before = .forward ∧ after = .reverse) || decide (before = .reverse ∧ after = .forward)

/-- Every reference value in its new state (R62): motion, the interval that a REVERSAL or FAST leaves invalid (03 Table 3-6),
playable. -/
def TrackerEvent.settle (ev : TrackerEvent) (before : Ptr) : Ptr :=
  let p := { ev.ptr with motion := ev.ptr.derivedMotion }
  let lose := turned before.motion p.motion || (decide (p.motion = .fast) && decide (before.motion ≠ .fast))
  let p := if lose then { p with interval := none } else p
  { p with playable := p.isPlayable }

/-- The reports of an event, in the order of R62. DESIGN CHOICE (log entry 37): STOP comes whenever the motion becomes STOPPED in
TRACKING, by a source change to a standing entry as well. -/
def TrackerEvent.reports (ev : TrackerEvent) (before after : Ptr) : List Report :=
  (if ev.jump then [.jump] else []) ++ (if ev.wrap then [.wrap] else []) ++
  (if turned before.motion after.motion then [.reversal] else []) ++
  (if after.state = .tracking ∧ after.motion = .stopped ∧ before.motion ≠ .stopped then [.stop] else []) ++
  (if after.motion = .fast ∧ before.motion ≠ .fast then [.fast] else []) ++
  (if ev.lost.isSome then [.loss] else []) ++
  (if after.playable ≠ before.playable then [.playable after.playable] else [])

/-- A report goes to the Cue Scheduler and Cue Outputs and then to the Record Lock (R62, log entry 13). -/
def deliverReport (r : Report) (s : State) : State :=
  lockReport r .b (lockReport r .a (clearTally (schedulerReport r s)))

/-- One event at the tracker (R62): new values, status changes of reference state and motion, SOURCE_LOST at a loss, reports,
then the boundary and the hold update (log entries 11 and 17). -/
def trackerEvent (ev : TrackerEvent) (s : State) : State :=
  let before := s.ptr
  let after := ev.settle before
  let s := s.modPtr fun _ => after
  let s := guarded (decide (after.state ≠ before.state)) statusChange s
  let s := guarded (decide (after.motion ≠ before.motion)) statusChange s
  let s :=
    match ev.lost with
    | some n => recordFault { kind := .sourceLost, pos := after.frozen, sender := some (BitVec.ofNat 5 n) } s
    | none => s
  let s := (ev.reports before after).foldl (fun s r => deliverReport r s) s
  let s :=
    match ev.boundary with
    | some r => takeBoundary r s
    | none => s
  guarded ev.hold takeHold s

/-! ## Beacons of a picture station (R46 to R49) -/

/-- A beacon is placed in the beacon slot in ACTIVE, and discarded in any other line state (R12). -/
def placeBeacon (b : Beacon) (stamp : Time) (s : State) : State :=
  if s.clp.line = .active then
    s.modClp fun c =>
      { c with
        slot := some { beacon := b, stamp := stamp }
        inFlight := c.inFlight.map fun f =>
          match f.source with
          | .slot _ => { f with source := .slot true }
          | .queue => f }
  else s

/-- A BOUNDARY beacon of a channel record (03 Table 3-2). -/
def boundaryBeacon (rank : BitVec 3) (motion : Motion) (interval : Option Nat) (r : BRec) : Beacon :=
  { rank := rank, motion := BitVec.ofNat 2 motion.code, kind := 0, wrap := BitVec.ofBool r.wrap, frame := BitVec.ofInt 24 r.b,
    phase := 0, interval := BitVec.ofNat 20 (interval.getD 0), age := 0 }

/-- A HOLD beacon of a hold position (03 Table 3-2). -/
def holdBeacon (rank : BitVec 3) (h : Int) : Beacon :=
  { rank := rank, motion := 0, kind := 1, wrap := 0, frame := frameField h, phase := posPhase h, interval := 0, age := 0 }

/-- A HOLD beacon is placed now and the hold beacon timer starts again (R49). -/
def sendHold (h : Int) (s : State) : State :=
  (placeBeacon (holdBeacon s.straps.rank h) s.timebase s).modPtr fun p =>
    { p with lastBeacon := some s.timebase, holdTimer := some (later s.timebase Config.holdBeacon) }

/-- The motion of the LOCAL entry (R46). -/
def localMotion (channel : Motion) (interval : Option Nat) : Motion :=
  match channel with
  | .stopped => .stopped
  | m => if interval.any fun d => decide (d < 8000) then .fast else m

/-- The LOCAL entry is the chosen source of a TRACKING reference. -/
def Ptr.followsLocal (p : Ptr) : Bool := decide (p.state = .tracking) && p.chosenSource.any fun e => e.isLocal

/-- The hold position of a channel in the LOCAL entry, and in the reference when it follows that entry (R49, R55). -/
def TrackerEvent.holdLocal (ev : TrackerEvent) (before : Motion) (h : Int) : TrackerEvent :=
  let ev := { ev with ptr := ev.ptr.modLocal fun e => { e with hold := some h } }
  if ev.ptr.followsLocal then ev.takeHold before h else ev

/-- A motion change of the local PICTURE channel, already in the channel (R46, R49). -/
def pictureMotion (c : Chan) (s : State) : State :=
  let m := (s.chan c).motion
  let h := holdPosition (s.settings.chan c) (s.chan c)
  let s := if m = .stopped then sendHold h s else s.modPtr fun p => { p with holdTimer := none }
  let ev := TrackerEvent.of (({ s.ptr with chanInterval := none }).modLocal fun e => { e with motion := localMotion m none, interval := none })
  trackerEvent (if m = .stopped then ev.holdLocal s.ptr.motion h else ev) s

/-- The BOUNDARY beacon of a channel record, as due by R47 and R48; none while the channel is STOPPED (log entry 18). -/
def recordBeacon (c : Chan) (interval : Option Nat) (r : BRec) (s : State) : State :=
  let place := fun (m : Motion) =>
    (placeBeacon (boundaryBeacon s.straps.rank m interval r) r.stamp s).modPtr fun p => { p with lastBeacon := some r.stamp }
  if (s.chan c).motion = .stopped then s
  else if interval.any fun d => decide (d < 8000) then
    if s.ptr.lastBeacon.all fun last => decide (Config.fastBeacon ≤ since r.stamp last) then place .fast else s
  else place (if r.dir = .reverse then .reverse else .forward)

/-- A boundary record of the local PICTURE channel, already in the channel (R46 to R49, R53). -/
def pictureRecord (c : Chan) (r : BRec) (s : State) : State :=
  let ch := s.chan c
  let interval := channelInterval ch.recNew ch.recOld
  let s := recordBeacon c interval r s
  let ev := TrackerEvent.of (({ s.ptr with chanInterval := interval }).modLocal fun e =>
    { e with record := some r, interval := interval, motion := localMotion ch.motion interval })
  let ev := if ev.ptr.followsLocal then ev.takeRecord r else ev
  trackerEvent (if ch.motion = .stopped then ev.holdLocal s.ptr.motion (holdPosition (s.settings.chan c) ch) else ev) s

/-- The hold beacon timer expires while the channel is STOPPED (R49). -/
def holdTimerExpiry (c : Chan) (s : State) : State :=
  let h := holdPosition (s.settings.chan c) (s.chan c)
  let s := sendHold h s
  trackerEvent ((TrackerEvent.of s.ptr).holdLocal s.ptr.motion h) s

/-- The hold position of the LOCAL entry. -/
def Ptr.localHold (p : Ptr) : Option Int := ((p.sources.filterMap id).find? fun e => e.isLocal).bind fun e => e.hold

/-- The Cue Line Port enters ACTIVE (R49): a STOPPED local channel beacons the LOCAL entry's hold position (log entry 27). -/
def trackerActive (s : State) : State :=
  match s.settings.picture, s.ptr.localHold with
  | some c, some h => if (s.chan c).motion = .stopped then sendHold h s else s
  | _, _ => s

/-- START at the tracker (R41, R45, R49, R63). -/
def startTracker (s : State) : State :=
  match s.settings.picture with
  | none => s
  | some c =>
    let e : Source :=
      { sender := s.own.toNat, isLocal := true, rank := s.straps.rank.toNat, motion := .stopped, record := none, interval := none,
        hold := some (holdPosition (s.settings.chan c) (s.chan c)), lastBeacon := 0, aging := none }
    let p := { s.ptr with sources := addSource e s.ptr.sources, holdTimer := some (later s.timebase Config.holdBeacon) }
    trackerEvent ((TrackerEvent.of p).choose s.timebase) s

/-! ## Beacons of peers (R42 to R44) -/

/-- The record a BOUNDARY beacon gives its entry, and the motion (R42); STOPPED gives neither. -/
def beaconRecord (p : Beacon) (stamp : Time) : Option (BRec × Motion) :=
  let r := fun (d : Dir) => { b := p.frame.toInt, stamp := stamp - p.age.setWidth 32, dir := d, wrap := p.wrap.getLsbD 0 : BRec }
  if p.kind = 1 then none
  else
    match motionOf p.motion with
    | .stopped => none
    | .forward => some (r .forward, .forward)
    | .reverse => some (r .reverse, .reverse)
    | .fast => some (r .none, .fast)

/-- The hold position a HOLD beacon gives its entry (R42). -/
def beaconHold (p : Beacon) : Option Int := if p.kind = 1 then some (position p.frame.toInt p.phase.toNat) else none

/-- What a beacon makes of its sender's entry (R42). -/
def Source.beacon (e : Source) (p : Beacon) (stamp : Time) : Source :=
  { e with
    rank := p.rank.toNat
    lastBeacon := stamp
    aging := some (later stamp Config.sourceAging)
    interval := if p.interval = 0 then none else some p.interval.toNat
    motion := match beaconRecord p stamp, beaconHold p with
      | some (_, m), _ => m
      | none, some _ => .stopped
      | none, none => e.motion
    record := match beaconRecord p stamp with
      | some (r, _) => some r
      | none => e.record
    hold := (beaconHold p).or e.hold }

/-- A REMOTE entry as it is added (R43). -/
def Source.fresh (n : Nat) : Source :=
  { sender := n, isLocal := false, rank := 0, motion := .stopped, record := none, interval := none, hold := none, lastBeacon := 0,
    aging := none }

/-- What a beacon of the chosen source passes on to the reference (R42, R53, R55). -/
def TrackerEvent.passBeacon (ev : TrackerEvent) (n : Nat) (p : Beacon) (stamp : Time) : TrackerEvent :=
  if ev.ptr.state = .tracking ∧ ev.ptr.chosen = some n then
    match beaconRecord p stamp, beaconHold p with
    | some (r, _), _ => ev.takeRecord r
    | none, some h => ev.takeHold ev.ptr.motion h
    | none, none => ev
  else ev

/-- A beacon from a sender with a REMOTE entry (R42). With a change of rank the choice comes first, and what the beacon carries
passes on when it leaves the chosen source as it was (log entry 12). -/
def beaconKnown (n : Nat) (e : Source) (p : Beacon) (stamp : Time) (s : State) : State :=
  let ev := TrackerEvent.of (s.ptr.setRemote n (some (e.beacon p stamp)))
  let ev := if e.rank = p.rank.toNat then ev else ev.choose s.timebase
  trackerEvent (if ev.jump then ev else ev.passBeacon n p stamp) s

/-- A beacon from a sender without an entry (R43). -/
def beaconNew (n : Nat) (p : Beacon) (stamp : Time) (s : State) : State :=
  let e := (Source.fresh n).beacon p stamp
  if (s.ptr.sources.filterMap id).length < Config.sourceCount then
    trackerEvent ((TrackerEvent.of { s.ptr with sources := addSource e s.ptr.sources }).choose s.timebase) s
  else
    match s.ptr.candidate with
    | some c =>
      if p.rank.toNat < c.rank then
        trackerEvent ((TrackerEvent.of (s.ptr.setRemote c.sender (some e))).choose s.timebase) s
      else s
    | none => s

/-- A BEACON frame that takes effect (R42, R43). -/
def applyBeacon (sender : BitVec 5) (p : Beacon) (stamp : Time) (s : State) : State :=
  match s.ptr.remote sender.toNat with
  | some e => beaconKnown sender.toNat e p stamp s
  | none => beaconNew sender.toNat p stamp s

/-- The aging timer of a REMOTE entry expires: it is removed and the choice is made again (R44). -/
def ageSource (n : Nat) (s : State) : State :=
  trackerEvent ((TrackerEvent.of (s.ptr.setRemote n none)).choose s.timebase) s

end Sys2Proof.Machine
end

