-- ==== Sys2Proof/Machine/Tach.lean ====
section
/-! DEFINITION. The tach channels (02): edges, units, motion, the boundary step, index pulses, the wrap pair. The stamp of an
edge is the command's moment. -/

namespace Sys2Proof.Machine
open Sys2Proof

/-! ## Pins and recorded lines -/

/-- The pin of a tach line (02 Table 2-1). -/
def pinOf (p : Levels) : Chan → TachLine → Bool
  | .a, .p1 => p.ap1
  | .a, .p2 => p.ap2
  | .b, .p1 => p.bp1
  | .b, .p2 => p.bp2

def setPin (p : Levels) (c : Chan) (line : TachLine) (level : Bool) : Levels :=
  match c, line with
  | .a, .p1 => { p with ap1 := level }
  | .a, .p2 => { p with ap2 := level }
  | .b, .p1 => { p with bp1 := level }
  | .b, .p2 => { p with bp2 := level }

/-- The pin of an index line (02 Table 2-1). -/
def indexPinOf (p : Levels) : Chan → Bool
  | .a => p.aix
  | .b => p.bix

def setIndexPin (p : Levels) (c : Chan) (level : Bool) : Levels :=
  match c with
  | .a => { p with aix := level }
  | .b => { p with bix := level }

def Channel.line (c : Channel) : TachLine → LineRec
  | .p1 => c.p1
  | .p2 => c.p2

def Channel.setLine (c : Channel) (line : TachLine) (r : LineRec) : Channel :=
  match line with
  | .p1 => { c with p1 := r }
  | .p2 => { c with p2 := r }

/-- G lets an edge through (R23): the filter is off, or no edge was accepted yet, or G µs have passed since. DESIGN
CHOICE (log entry 36): the passed time is the difference of the readings modulo 2³², after 2³¹ µs as well. -/
def LineRec.free (l : LineRec) (g : Nat) (t : Time) : Bool :=
  decide (g = 0) || l.edge.all fun e => decide (g ≤ since t e)

/-! ## Delivery by role (R21) -/

def deliverMotion (c : Chan) (s : State) : State :=
  match (s.settings.chan c).role with
  | .none => s
  | .picture => pictureMotion c s
  | .record => lockMotion c s

def deliverRecord (c : Chan) (r : BRec) (s : State) : State :=
  match (s.settings.chan c).role with
  | .none => s
  | .picture => pictureRecord c r s
  | .record => lockBoundary c r s

/-! ## The boundary step (R28 to R32) -/

/-- What a boundary step would leave and report. -/
structure Step where
  frame : Int
  b : Int
  dir : Dir
  wrap : Bool
  deriving DecidableEq, Repr

/-- The reported frame (R28). -/
def Channel.reported (c : Channel) (g : ChanSettings) : Int := c.frame + g.offset

/-- A forward boundary step (R31). -/
def forwardStep (g : ChanSettings) (c : Channel) : Step :=
  if c.wrap.enabled ∧ c.reported g = c.wrap.e then
    { frame := c.frame + (c.wrap.s - c.reported g), b := c.wrap.s, dir := .forward, wrap := true }
  else { frame := c.frame + 1, b := c.reported g + 1, dir := .forward, wrap := false }

/-- A reverse boundary step (R32). -/
def reverseStep (g : ChanSettings) (c : Channel) : Step :=
  if c.wrap.enabled ∧ c.reported g = c.wrap.s then
    { frame := c.frame + (c.wrap.e - c.reported g), b := c.wrap.e + 1, dir := .reverse, wrap := true }
  else { frame := c.frame - 1, b := c.reported g, dir := .reverse, wrap := false }

/-- The range test of R30. -/
def Step.inRange (st : Step) (g : ChanSettings) : Bool :=
  frameInRange st.frame && frameInRange (st.frame + g.offset) && frameInRange st.b

/-- A boundary step with what its cause makes of the unit counter when it is taken, and when it is refused (R30, R38). The
channel is settled before the record is delivered (log entry 16). -/
def takeStep (c : Chan) (st : Step) (taken refused : Nat) (s : State) : State :=
  let r : BRec := { b := st.b, stamp := s.timebase, dir := st.dir, wrap := st.wrap }
  if st.inRange (s.settings.chan c) then
    deliverRecord c r (s.modChan c fun ch => { ch with frame := st.frame, unit := taken, recNew := some r, recOld := ch.recNew })
  else recordFault { kind := .countRange, chan := some c } (s.modChan c fun ch => { ch with unit := refused })

/-! ## Units (R26, R27, R33 to R35) -/

/-- A forward unit counted with index use OFF (R33). -/
def countForward (c : Chan) (s : State) : State :=
  let u := (s.settings.chan c).u
  if (s.chan c).unit + 1 = u then takeStep c (forwardStep (s.settings.chan c) (s.chan c)) 0 (u - 1) s
  else s.modChan c fun ch => { ch with unit := ch.unit + 1 }

/-- A reverse unit counted with index use OFF (R34). -/
def countReverse (c : Chan) (s : State) : State :=
  if (s.chan c).unit = 0 then takeStep c (reverseStep (s.settings.chan c) (s.chan c)) ((s.settings.chan c).u - 1) 0 s
  else s.modChan c fun ch => { ch with unit := ch.unit - 1 }

/-- A unit counted, by the index use (R26, R33 to R35). -/
def countUnit (c : Chan) (forward : Bool) (s : State) : State :=
  if (s.settings.chan c).index then
    s.modChan c fun ch => { ch with unit := if forward then satInc 255 ch.unit else ch.unit - 1 }
  else if forward then countForward c s
  else countReverse c s

/-- The motion of a unit's direction. -/
def unitMotion (forward : Bool) : Motion := if forward then .forward else .reverse

/-- What a unit does to its channel before it is counted: the unit counts, the last direction, motion and stall timer. -/
def Channel.markUnit (ch : Channel) (forward : Bool) (t : Time) : Channel :=
  { ch with
    fwd := if forward then wrapInc16 ch.fwd else ch.fwd
    rev := if forward then ch.rev else wrapInc16 ch.rev
    lastDir := some forward
    motion := unitMotion forward
    stall := some (later t Config.tachStall) }

/-- A unit, in the order of R26; a change of motion is delivered before the unit is counted (R27). -/
def takeUnit (c : Chan) (forward : Bool) (s : State) : State :=
  let s₁ := s.modChan c fun ch => ch.markUnit forward s.timebase
  countUnit c forward (if (s.chan c).motion = unitMotion forward then s₁ else deliverMotion c s₁)

/-- The unit that an accepted edge of P1 or P2 is, by the recorded levels just after it (R24, R25); `some true` is forward. -/
def edgeUnit (pulse : Bool) (line : TachLine) (p1 p2 : Bool) : Option Bool :=
  match pulse, line with
  | false, .p1 => some (p1 != p2)
  | false, .p2 => some (p1 == p2)
  | true, .p1 => if p1 then some p2 else none
  | true, .p2 => none

/-- An accepted edge of a tach line: recorded and decoded (R23 to R25). -/
def acceptEdge (c : Chan) (line : TachLine) (level : Bool) (s : State) : State :=
  let s := s.modChan c fun ch => ch.setLine line { level := some level, edge := some s.timebase }
  match edgeUnit (s.settings.chan c).pulse line ((s.chan c).p1.level.getD false) ((s.chan c).p2.level.getD false) with
  | some forward => takeUnit c forward s
  | none => s

/-- A glitch (R23). -/
def countGlitch (c : Chan) (s : State) : State := s.modChan c fun ch => { ch with glitches := wrapInc16 ch.glitches }

/-- An edge of a tach line of a channel (R23): a change of the pin, examined while the channel counts. -/
def tachChange (c : Chan) (line : TachLine) (level : Bool) (s : State) : State :=
  if pinOf s.pins c line = level then s
  else
    let s := s.modPins fun p => setPin p c line level
    let l := (s.chan c).line line
    if s.counting c = false ∨ l.level = some level then s
    else if l.free (s.settings.chan c).glitch s.timebase then acceptEdge c line level s
    else countGlitch c s

/-! ## Index pulses (R35 to R37) -/

/-- A slip: counted and recorded (R36, R37). -/
def slip (c : Chan) (s : State) : State :=
  recordFault { kind := .tachSlip, chan := some c } (s.modChan c fun ch => { ch with slips := satInc 255 ch.slips })

/-- A forward index pulse (R36). -/
def indexForward (c : Chan) (s : State) : State :=
  let s := if (s.chan c).unit = (s.settings.chan c).u then s else slip c s
  takeStep c (forwardStep (s.settings.chan c) (s.chan c)) 0 (s.chan c).unit s

/-- A reverse index pulse (R37). -/
def indexReverse (c : Chan) (s : State) : State :=
  let s := if (s.chan c).unit = 0 then s else slip c s
  takeStep c (reverseStep (s.settings.chan c) (s.chan c)) ((s.settings.chan c).u - 1) (s.chan c).unit s

/-- An accepted edge of IX (R35): a rising one is an index pulse, which takes the last unit direction. -/
def acceptIndex (c : Chan) (level : Bool) (s : State) : State :=
  let s := s.modChan c fun ch => { ch with ix := { level := some level, edge := some s.timebase } }
  if level then
    match (s.chan c).lastDir with
    | none => s
    | some true => indexForward c s
    | some false => indexReverse c s
  else s

/-- An edge of IX (R23): not examined while index use is OFF. -/
def indexChange (c : Chan) (level : Bool) (s : State) : State :=
  if indexPinOf s.pins c = level then s
  else
    let s := s.modPins fun p => setIndexPin p c level
    if s.counting c = false ∨ (s.settings.chan c).index = false ∨ (s.chan c).ix.level = some level then s
    else if (s.chan c).ix.free (s.settings.chan c).glitch s.timebase then acceptIndex c level s
    else countGlitch c s

/-! ## Stall, wrap order, START -/

/-- The stall timer expires (R27): the motion becomes STOPPED, and the change is delivered. -/
def stallChannel (c : Chan) (s : State) : State :=
  deliverMotion c (s.modChan c fun ch => { ch with motion := .stopped, stall := none })

/-- A CONTROL WRAP order at one channel (R29). -/
def wrapChannel (start finish : Int) (c : Chan) (s : State) : State :=
  if s.counting c && (s.settings.chan c).follows then
    s.modChan c fun ch => { ch with wrap := { enabled := decide (start ≤ finish), s := start, e := finish } }
  else s

/-- A CONTROL WRAP order at both channels (R29). -/
def wrapOrder (start finish : Int) (s : State) : State := wrapChannel start finish .b (wrapChannel start finish .a s)

/-- START at a channel whose role is not NONE: the present pin levels become the recorded levels, with no accepted edge
(R22). -/
def sampleChannel (c : Chan) (s : State) : State :=
  if (s.settings.chan c).role = .none then s
  else
    s.modChan c fun ch =>
      { ch with
        p1 := { level := some (pinOf s.pins c .p1), edge := none }
        p2 := { level := some (pinOf s.pins c .p2), edge := none }
        ix := { level := some (indexPinOf s.pins c), edge := none } }

end Sys2Proof.Machine
end

