-- ==== Sys2Proof/Machine/CueTable.lean ====
section
/-! DEFINITION. The cue table (05): staging, commit and drops. -/

namespace Sys2Proof.Machine
open Sys2Proof

/-! ## Staging (R82 to R86) -/

def setStaging (l : List Staged) (s : State) : State := s.modCtb fun c => { c with staging := l }

/-- The staged header of a sender. -/
def State.stagedOf (s : State) (n : Nat) : Option Staged := s.ctb.staging.find? fun x => decide (x.sender = n)

/-- The staging set without a sender's header. -/
def State.stagingWithout (s : State) (n : Nat) : List Staged := s.ctb.staging.filter fun x => decide (x.sender ≠ n)

/-- A CUEHEAD frame that takes effect (R82, R83). -/
def stageHead (sender : BitVec 5) (h : CueHead) (s : State) : State :=
  let new : Staged := { sender := sender.toNat, head := h }
  if h.id = 0 then recordFault { kind := .cueField, cue := some (h.reel, 0), sender := some sender } s
  else if (s.stagedOf sender.toNat).isSome then setStaging (s.stagingWithout sender.toNat ++ [new]) s
  else if s.ctb.staging.length < Config.stageSize then setStaging (s.ctb.staging ++ [new]) s
  else
    match s.ctb.staging with
    | [] => setStaging [new] s
    | old :: rest =>
      recordFault { kind := .stageEvict, cue := some (old.head.reel, old.head.id), sender := some (BitVec.ofNat 5 old.sender) }
        (setStaging (rest ++ [new]) s)

/-! ## The definition (R81, R89) -/

/-- A cue is for this station: its mask holds a served position, or its group field of 0 to 15 is that of a RECORD channel
(R81). -/
def Settings.wants (g : Settings) (mask : BitVec 16) (group : BitVec 5) : Bool :=
  g.serves mask || (decide (group.toNat ≤ 15) && (g.recorder (some group.toNat)).isSome)

/-- The record group as stored: a field of 16 to 31 is none (R89). -/
def storedGroup (field : BitVec 5) : Option Nat := if field.toNat ≤ 15 then some field.toNat else none

/-- The beep spacing as stored (05 Table 5-3). -/
def storedSpacing (b : CueBody) : Nat := if b.beeps = 0 then b.spacing.toNat else clamp 1 96 b.spacing.toNat

/-- The light hold as stored (05 Table 5-3). -/
def storedHold (b : CueBody) : Nat :=
  if b.lightHold = 0 ∧ b.light = 1 ∧ b.outOffset = 0 then 1 else b.lightHold.toNat

/-- The definition as stored, after the corrections of R89. -/
def committed (h : CueHead) (b : CueBody) : CueDef :=
  { id := h.id, reel := h.reel, global := decide (h.global = 1), mask := h.mask, group := storedGroup h.group,
    frame := h.frame.toInt, phase := h.phase.toNat, streamer := b.streamer.toNat, colour := b.colour,
    beeps := min 4 b.beeps.toNat, spacing := storedSpacing b, light := decide (b.light = 1), lightLead := b.lightLead.toNat,
    lightHold := storedHold b, punchLead := b.punchLead.toNat, outOffset := b.outOffset.toNat }

/-- How many corrections of 05 Table 5-3 apply. -/
def corrections (h : CueHead) (b : CueBody) : Nat :=
  (decide (4 < b.beeps.toNat)).toNat + (decide (storedSpacing b ≠ b.spacing.toNat)).toNat +
    (decide (16 ≤ h.group.toNat ∧ h.group.toNat ≤ 30)).toNat + (decide (storedHold b ≠ b.lightHold.toNat)).toNat

/-- A fault is recorded `n` times. -/
def recordTimes (i : FaultInfo) : Nat → State → State
  | 0, s => s
  | n + 1, s => recordTimes i n (recordFault i s)

/-! ## Commit (R87 to R92) -/

/-- An update in place (R90). -/
def updateEntry (i : Nat) (d : CueDef) (s : State) : State :=
  let s := setEntry i ((s.entry i).map fun e => { e with cue := d }) s
  let s := unlistEntry i s
  if s.inState i .armed || s.inState i .passed then
    if ahead s.here d then modRun i (fun r => { r with state := .armed, fired := 0 }) s
    else modRun i (fun r => { r with state := .passed }) s
  else s

/-- The lowest EMPTY entry. -/
def State.firstEmpty (s : State) : Option Nat := (List.range Config.cueCount).find? fun i => (s.entry i).isNone

/-- The first IDLE entry from the replacement pointer on (R92). -/
def State.firstIdle (s : State) : Option Nat :=
  ((List.range Config.cueCount).map fun k => (s.ctb.pointer + k) % Config.cueCount).find? fun i => s.inState i .idle

/-- A cue enters an entry with its run part at its starting values (R91). -/
def enterCue (i : Nat) (d : CueDef) : State → State := setEntry i (some { cue := d, run := .start })

/-- A new cue is placed, or refused with TABLE_FULL (R91, R92). -/
def placeCue (d : CueDef) (sender : BitVec 5) (s : State) : State :=
  match s.firstEmpty with
  | some i => enterCue i d s
  | none =>
    match s.firstIdle with
    | some i => (enterCue i d s).modCtb fun c => { c with pointer := (i + 1) % Config.cueCount }
    | none => recordFault { kind := .tableFull, cue := some d.name, sender := some sender } s

/-- An entry is withdrawn, or dropped when it is not RUNNING (R87, R96). -/
def emptyEntry (i : Nat) (s : State) : State := setEntry i none (unlistEntry i s)

/-- A commit: the four steps of 05 section 5.4. -/
def commit (h : CueHead) (b : CueBody) (sender : BitVec 5) (s : State) : State :=
  let found := s.findCue h.reel h.id
  let busy := found.any fun i => s.inState i .running
  let refuse := recordFault { kind := .cueBusy, cue := some (h.reel, h.id), sender := some sender }
  if s.settings.wants h.mask h.group then
    if busy then refuse s
    else
      let s := recordTimes { kind := .cueField, cue := some (h.reel, h.id), sender := some sender } (corrections h b) s
      match found with
      | some i => updateEntry i (committed h b) s
      | none => placeCue (committed h b) sender s
  else if busy then refuse s
  else
    match found with
    | some i => emptyEntry i s
    | none => s

/-- A CUEBODY frame that takes effect (R84, R85). -/
def takeBody (sender : BitVec 5) (b : CueBody) (s : State) : State :=
  match s.stagedOf sender.toNat with
  | some x =>
    if x.head.reel = b.reel ∧ x.head.id = b.id then commit x.head b sender (setStaging (s.stagingWithout sender.toNat) s)
    else recordFault { kind := .orphanBody, cue := some (b.reel, b.id), sender := some sender } s
  | none => recordFault { kind := .orphanBody, cue := some (b.reel, b.id), sender := some sender } s

/-! ## Drops (R93 to R97) -/

/-- An entry is dropped (R96). -/
def dropEntry (i : Nat) (s : State) : State := emptyEntry i (endRun .passed i s)

/-- Every VALID entry whose definition satisfies `p` is dropped, in increasing index order (R96). -/
def dropWhere (p : CueDef → Bool) : State → State :=
  forIndexes Config.cueCount fun i t => if (t.entry i).any (fun e => p e.cue) then dropEntry i t else t

/-- Staged headers that satisfy `p` are removed (R97). -/
def unstageWhere (p : CueHead → Bool) (s : State) : State := setStaging (s.ctb.staging.filter fun x => !p x.head) s

/-- CONTROL DROP (R93). -/
def dropCue (reel : BitVec 6) (id : BitVec 12) (s : State) : State :=
  unstageWhere (fun h => decide (h.reel = reel) && decide (h.id = id))
    (dropWhere (fun d => decide (d.reel = reel) && decide (d.id = id)) s)

/-- CONTROL DROPREEL (R94). -/
def dropReel (reel : BitVec 6) (s : State) : State :=
  unstageWhere (fun h => decide (h.reel = reel) && decide (h.global = 0))
    (dropWhere (fun d => decide (d.reel = reel) && !d.global) s)

/-- CONTROL DROPALL (R95). -/
def dropAll (s : State) : State := unstageWhere (fun _ => true) (dropWhere (fun _ => true) s)

end Sys2Proof.Machine
end

