-- ==== Sys2Proof/Machine/Overlay.lean ====
section
/-! DEFINITION. The overlay generator (08): measurement, raster states, geometry, field lists. -/

namespace Sys2Proof.Machine
open Sys2Proof

/-! ## Measurement (R145) -/

/-- The line total of a field: the pixel count, 64 to 4095, that all its complete lines share, when its lines per field is
16 to 2047. Counts saturate at 4095. -/
def lineTotal (lines : Nat) (pixels : List Nat) : Option Nat :=
  match pixels with
  | [] => none
  | p :: rest =>
    if 16 ≤ lines ∧ lines ≤ 2047 ∧ 64 ≤ min 4095 p ∧ (rest.all fun q => decide (min 4095 q = min 4095 p)) = true then
      some (min 4095 p)
    else none

/-- The measurement of an ended field (R145). -/
def measureField (lines : Nat) (pixels : List Nat) : FieldMeas :=
  { total := lineTotal (min 4095 lines) pixels, lines := min 4095 lines }

/-! ## Raster states (R146 to R149) -/

/-- A field extends the match run (R147). -/
def MatchRun.extends (r : MatchRun) (total lines : Nat) : Bool :=
  decide (1 ≤ r.count) && decide (total = r.total) && decide (max r.greatest lines ≤ min r.least lines + 1)

/-- The match run after a field (R147). -/
def MatchRun.after (r : MatchRun) (m : FieldMeas) : MatchRun :=
  match m.total with
  | none => ⟨0, 0, 0, 0⟩
  | some total =>
    if r.extends total m.lines then ⟨r.count + 1, total, min r.least m.lines, max r.greatest m.lines⟩
    else ⟨1, total, m.lines, m.lines⟩

/-- Lines per field equal the frozen value or one more (R148, R149). -/
def linesFit (g : Geometry) (lines : Nat) : Bool := decide (lines = g.lines) || decide (lines = g.lines + 1)

/-- A settled measurement agrees with the frozen geometry (R148). -/
def Settled.agrees (m : Settled) (g : Geometry) : Bool :=
  decide (m.total = g.total) && linesFit g m.least && linesFit g m.greatest

/-- The geometry of a settled measurement (R152, 08 Table 8-2). -/
def captureOf (m : Settled) : Geometry :=
  { total := m.total, start := m.total / 8, width := m.total * 3 / 4, lines := m.least, first := m.least / 12,
    active := m.least * 5 / 6 }

/-- The settled measurement is tested against the frozen geometry (R148). -/
def testSettled (m : Settled) (g : Geometry) (s : State) : State :=
  if m.agrees g then s.modOvl fun o => { o with raster := .stable }
  else recordFault { kind := .rasterMismatch } (s.modOvl fun o => { o with raster := .mismatch })

/-- The match run has reached 4 (R148). -/
def settle (m : Settled) (s : State) : State :=
  let s := s.modOvl fun o => { o with settled := some m }
  match s.ovl.frozen with
  | some g => testSettled m g s
  | none =>
    s.modOvl fun o =>
      { o with
        raster := .stable
        frozen := if s.started && !s.settings.programmed then some (captureOf m) else none }

/-- A field ends in ACQUIRING (R147, R148). -/
def acquire (m : FieldMeas) (s : State) : State :=
  let r := s.ovl.run.after m
  let s := s.modOvl fun o => { o with raster := .acquiring, run := r }
  if r.count = 4 then settle { total := r.total, least := r.least, greatest := r.greatest } s else s

/-- A field holds the state STABLE or MISMATCH (R149). -/
def holds (o : Ovl) (m : FieldMeas) : Bool :=
  match o.raster, o.frozen, o.settled with
  | .stable, some g, _ => decide (m.total = some g.total) && linesFit g m.lines
  | _, _, some d => decide (m.total = some d.total) && decide (d.greatest ≤ m.lines + 1) && decide (m.lines ≤ d.least + 1)
  | _, _, none => false

/-- A VSYNC leading edge ends a field and restarts the signal watch, or begins the first field (R146 to R149). -/
def endField (m : FieldMeas) (s : State) : State :=
  let s := s.modOvl fun o => { o with watch := some (later s.timebase Config.signalWatch) }
  match s.ovl.raster with
  | .noSignal => s.modOvl fun o => { o with raster := .acquiring, run := ⟨0, 0, 0, 0⟩ }
  | .acquiring => acquire m (s.modOvl fun o => { o with last := some m })
  | .stable | .mismatch =>
    let s := s.modOvl fun o => { o with last := some m }
    if holds s.ovl m then s
    else acquire m (s.modOvl fun o => { o with run := ⟨0, 0, 0, 0⟩, settled := none })

/-- The signal watch expires (R146). -/
def loseSignal (s : State) : State :=
  s.modOvl fun o =>
    { o with raster := .noSignal, watch := none, run := ⟨0, 0, 0, 0⟩, settled := none, back := .empty, front := .empty }

/-! ## Field lists (R154 to R161) -/

/-- The VALID entries with their indexes. -/
def State.cues (s : State) : List (Nat × CueEntry) :=
  (List.range Config.cueCount).filterMap fun i => (s.entry i).map fun e => (i, e)

/-- A RUNNING cue with a streamer and a served position (R157, R160). -/
def drawable (g : Settings) (e : CueEntry) : Bool :=
  decide (e.run.state = .running) && decide (1 ≤ e.cue.streamer) && g.serves e.cue.mask

/-- The first pixel of a streamer at distance `r` (R157). -/
def streamerX (g : Geometry) (length : Nat) (r : Int) : Nat :=
  g.start + (g.width * (length * 256 - r).toNat) / (length * 256)

/-- The streamer of a cue at the position `p` (R157). -/
def streamerOf (g : Geometry) (p : Int) (i : Nat) (d : CueDef) : Option Streamer :=
  let r := d.point - p
  if 0 < r ∧ r ≤ d.streamer * 256 then some { entry := i, r := r, x := streamerX g d.streamer r, colour := d.colour } else none

/-- Nearest first, by distance and then entry index (R158). -/
def streamerLe (x y : Streamer) : Bool := decide (x.r < y.r) || (decide (x.r = y.r) && decide (x.entry ≤ y.entry))

/-- The streamers of a build: the 4 nearest, nearest first (R157, R158). -/
def State.streamers (s : State) (g : Geometry) (p : Int) : List Streamer :=
  (sortBy streamerLe ((s.cues.filter fun x => drawable s.settings x.2).filterMap fun x => streamerOf g p x.1 x.2.cue)).take
    Config.streamerMax

/-- The flash entry of a build: the latest cue point within two frames before `p`, then the lower index (R160). -/
def State.flashEntry (s : State) (p : Int) : Option Nat :=
  (leastBy (fun x y : Nat × CueEntry => decide (y.2.cue.point ≤ x.2.cue.point))
    (s.cues.filter fun x => drawable s.settings x.2 && decide (0 ≤ p - x.2.cue.point) && decide (p - x.2.cue.point < 512))).map
    fun x => x.1

/-- The border flag of a build (R161). -/
def State.borderFlag (s : State) : Bool :=
  !s.cou.tally.isEmpty ||
    s.cues.any fun x => decide (x.2.run.state = .running) && x.2.run.punchOpen && s.settings.serves x.2.cue.mask

/-- The list built for a geometry and the position of the build (R154). -/
def State.fieldList (s : State) (g : Geometry) (q : Option Int) : FieldList :=
  match q with
  | some p => { streamers := s.streamers g p, flash := s.flashEntry p, border := s.borderFlag }
  | none => { streamers := [], flash := none, border := s.borderFlag }

/-- The second step of a VSYNC leading edge (R154): the back list is built once the frozen flag is set. -/
def buildList (s : State) : State :=
  match s.ovl.frozen with
  | some g => s.modOvl fun o => { o with back := s.fieldList g s.here }
  | none => s

/-- The swap at the first active line (R155). -/
def swapLists (s : State) : State :=
  guarded s.ovl.frozen.isSome (fun s => s.modOvl fun o => { o with front := o.back, back := .empty }) s

/-! ## START (R151, R152) -/

/-- The geometry after the three clamping steps of R151. -/
def clampGeometry (g : Geometry) : Geometry :=
  let total := clamp 64 4095 g.total
  let lines := clamp 16 2047 g.lines
  let width := clamp 32 total g.width
  let active := clamp 8 (lines - 1) g.active
  { total := total, start := clamp 0 (total - width) g.start, width := width, lines := lines,
    first := clamp 1 (lines - active) g.first, active := active }

/-- How many of the six values differ. -/
def geometryChanges (g h : Geometry) : Nat :=
  (decide (g.total ≠ h.total)).toNat + (decide (g.lines ≠ h.lines)).toNat + (decide (g.width ≠ h.width)).toNat +
    (decide (g.start ≠ h.start)).toNat + (decide (g.active ≠ h.active)).toNat + (decide (g.first ≠ h.first)).toNat

/-- CONFIG_CLAMP without a channel. -/
def recordClamp : State → State := recordFault { kind := .configClamp }

/-- The overlay's clamps at START (R151). -/
def clampOverlay (s : State) : State :=
  let w := clamp 1 16 s.settings.streamerWidth
  let s := guarded (decide (w ≠ s.settings.streamerWidth)) recordClamp (s.modSettings fun g => { g with streamerWidth := w })
  if s.settings.programmed then
    let h := clampGeometry s.settings.geometry
    recordTimes { kind := .configClamp } (geometryChanges s.settings.geometry h) (s.modSettings fun g => { g with geometry := h })
  else s

/-- The geometry at START: frozen and tested in PROGRAMMED, captured in AUTO when the raster is STABLE (R151, R152). -/
def startOverlay (s : State) : State :=
  if s.settings.programmed then
    let s := s.modOvl fun o => { o with frozen := some s.settings.geometry }
    match s.ovl.raster, s.ovl.settled with
    | .stable, some m => testSettled m s.settings.geometry s
    | _, _ => s
  else
    match s.ovl.raster, s.ovl.settled with
    | .stable, some m => s.modOvl fun o => { o with frozen := some (captureOf m) }
    | _, _ => s

end Sys2Proof.Machine
end

