-- ==== Sys2Proof/Machine/Marks.lean ====
section
/-! DEFINITION. The mark latch (09): the key, the latch, the mark log, peer marks. -/

namespace Sys2Proof.Machine
open Sys2Proof

/-! ## The latch (R168, R169) -/

/-- The position falls in the cue's span and the cue is RUNNING (R169). -/
def containsMark (p : Int) (e : CueEntry) : Bool :=
  decide (e.run.state = .running) && decide (e.cue.ps ≤ p) && decide (p ≤ e.cue.pe)

/-- The cue of a latch: of those that contain `p`, the one with the nearest cue point, then the lower index (R169). -/
def State.markCue (s : State) (p : Int) : Option (BitVec 6 × BitVec 12) :=
  (leastBy (fun x y : Nat × CueEntry => decide ((x.2.cue.point - p).natAbs ≤ (y.2.cue.point - p).natAbs))
    (s.cues.filter fun x => containsMark p x.2)).map fun x => x.2.cue.name

/-- The latch at the present moment (R168). -/
def State.latchNow (s : State) : Latch :=
  { pos := s.here, refState := s.ptr.state, motion := s.ptr.motion, mode := s.csh.mode, cue := s.here.bind s.markCue }

/-! ## The log (R171) -/

/-- A record joins the log, discarding the oldest of 8 with MARK_OVERRUN. -/
def joinLog (r : MarkRec) (s : State) : State :=
  let s :=
    if s.mkl.log.length < Config.logSize then s
    else
      match s.mkl.log with
      | [] => s
      | old :: rest =>
        recordFault { kind := .markOverrun, cue := old.latch.cue, sender := some (BitVec.ofNat 5 old.station) }
          (s.modMkl fun m => { m with log := rest, overrun := true })
  s.modMkl fun m => { m with log := m.log ++ [r] }

/-- The record at the oldest place is taken (R172). -/
def takeMark (s : State) : State := s.modMkl fun m => { m with log := m.log.drop 1, overrun := false }

/-! ## The key (R165 to R167) -/

/-- The MARK payload of a record (12 Table 12-7): absent values are zero, but for the absent flag. -/
def markPayload (serial : BitVec 8) (l : Latch) : Mark :=
  { serial := serial, absent := BitVec.ofBool l.pos.isNone, frame := frameField (l.pos.getD 0), phase := posPhase (l.pos.getD 0),
    refState := BitVec.ofNat 2 l.refState.code, motion := BitVec.ofNat 2 l.motion.code, mode := BitVec.ofNat 2 l.mode.code,
    reel := (l.cue.getD (0, 0)).1, id := (l.cue.getD (0, 0)).2 }

/-- An accepted press makes its record: the four things of R170 in order. -/
def makeMark (l : Latch) (s : State) : State :=
  let serial := s.mkl.serial
  let s := joinLog { serial := serial, station := s.own.toNat, latch := l } s
  let s := s.modMkl fun m => { m with serial := serial + 1 }
  setCause causeMark (placeFrame (.mark (markPayload serial l)) none s)

def setKey (k : KeyState) (timer : Option Time) (l : Option Latch) (s : State) : State :=
  s.modMkl fun m => { m with key := k, timer := timer, latch := l }

/-- The key after a falling edge (R165, R166). -/
def keyFall (s : State) : State :=
  match s.mkl.key with
  | .armed => setKey .pressing (some (later s.timebase Config.keyDebounce)) (some s.latchNow) s
  | .releasing => setKey .held none s.mkl.latch s
  | .off | .pressing | .held => s

/-- The key after a rising edge (R165, R166). -/
def keyRise (s : State) : State :=
  match s.mkl.key with
  | .pressing => setKey .armed none none s
  | .held => setKey .releasing (some (later s.timebase Config.keyDebounce)) s.mkl.latch s
  | .off | .armed | .releasing => s

/-- An edge of MARKN: a change of the pin. -/
def marknChange (level : Bool) (s : State) : State :=
  if s.pins.markn = level then s
  else (if level then keyRise else keyFall) (s.modPins fun p => { p with markn := level })

/-- The key debounce timer expires (R165, R166). -/
def keyExpiry (s : State) : State :=
  match s.mkl.key, s.mkl.latch with
  | .pressing, some l => makeMark l (setKey .held none none s)
  | .releasing, l => setKey .armed none l s
  | _, _ => s

/-- START at the key (R167). -/
def startKey (s : State) : State := setKey (if s.pins.markn then .armed else .held) none none s

/-! ## Peer marks (R173) -/

/-- The latched values a MARK payload carries; `none` when a code names no value. -/
def peerLatch (p : Mark) : Option Latch :=
  match refStateOf p.refState, modeOf p.mode.toNat with
  | some r, some m =>
    some { pos := if p.absent = 1 then none else some (position p.frame.toInt p.phase.toNat), refState := r,
           motion := motionOf p.motion, mode := m, cue := if p.id = 0 then none else some (p.reel, p.id) }
  | _, _ => none

/-- A MARK frame of a peer that takes effect (R173). -/
def peerMark (sender : BitVec 5) (p : Mark) (s : State) : State :=
  if s.settings.collect then
    match peerLatch p with
    | some l => setCause causeMark (joinLog { serial := p.serial, station := sender.toNat, latch := l } s)
    | none => s
  else s

end Sys2Proof.Machine
end

