-- ==== Sys2Proof/Machine/LinePort.lean ====
section
/-! DEFINITION. The Cue Line Port (01): frames received, CONTROL orders, duplicate station, the transmitter, the status exchange
and the peer table. -/

namespace Sys2Proof.Machine
open Sys2Proof

/-! ## CONTROL orders (R5, R29, R93 to R95, R106 to R109, R196, R200) -/

/-- CONTROL_UNKNOWN with the frame's sender (R109, R196). -/
def unknownOrder (sender : BitVec 5) : State → State := recordFault { kind := .controlUnknown, sender := some sender }

/-- CONTROL MODE (R109). -/
def modeOrder (sender : BitVec 5) (arg1 : BitVec 24) (s : State) : State :=
  match modeOf arg1.toNat with
  | some m => setMode m s
  | none => unknownOrder sender s

/-- What an op does at a targeted station (12 Table 12-4). -/
def orderOf (sender : BitVec 5) (op : BitVec 4) (p : ControlArgs) (s : State) : State :=
  match op.toNat with
  | 0 => armCue p.reel p.id s
  | 1 => armReel p.reel s
  | 2 => disarmCue p.reel p.id s
  | 3 => disarmAll s
  | 4 => dropCue p.reel p.id s
  | 5 => dropReel p.reel s
  | 6 => dropAll s
  | 7 => modeOrder sender p.arg1 s
  | 8 => wrapOrder p.arg1.toInt p.arg2.toInt s
  | 9 => setCause causeAttn s
  | _ => unknownOrder sender s

/-- A CONTROL frame that takes effect: nothing where the target is another station (R5). -/
def applyControl (sender : BitVec 5) (op : BitVec 4) (p : ControlArgs) (s : State) : State :=
  guarded (s.targeted p.target) (orderOf sender op p) s

/-! ## The peer table (R20, R204) -/

def setPeer (n : Nat) (f : Peer → Peer) (s : State) : State :=
  s.modClp fun c => { c with peers := c.peers.set n (f (c.peers.getD n Peer.reset)) }

/-- A STATUS frame of a peer that takes effect; one with a code that names nothing is discarded (R20, R204). -/
def peerStatus (sender : BitVec 5) (p : Status) (stamp : Time) (s : State) : State :=
  match refStateOf p.refState, modeOf p.mode.toNat, lockStateOf p.lockA, lockStateOf p.lockB with
  | some r, some m, some a, some b =>
    setPeer sender.toNat (fun _ =>
      { heard := true, refState := r, motion := motionOf p.motion, mode := m, lockA := a, lockB := b,
        fault := decide (p.fault = 1), last := stamp }) s
  | _, _, _, _ => s

/-- A lock's state as the status exchange and the views give it: UNLOCKED on a channel whose role is not RECORD (01 Table
1-7). -/
def State.lockShown (s : State) (c : Chan) : LockState :=
  if (s.settings.chan c).role = .record then (s.lock c).state else .unlocked

/-- The station's current status (01 Table 1-7). -/
def State.status (s : State) : Status :=
  { refState := BitVec.ofNat 2 s.ptr.state.code, motion := BitVec.ofNat 2 s.ptr.motion.code, mode := BitVec.ofNat 1 s.csh.mode.code,
    lockA := BitVec.ofNat 2 (s.lockShown .a).code, lockB := BitVec.ofNat 2 (s.lockShown .b).code,
    fault := BitVec.ofBool s.flt.first.isSome }

/-- A peer table entry as it reads: the own entry shows the current local values (R20); in CONFIG too it is the entry of the strap as
last sampled (log entry 41). -/
def State.peerShown (s : State) (n : Nat) : Peer :=
  let e := s.clp.peers.getD n Peer.reset
  if n = s.own.toNat then
    { e with refState := s.ptr.state, motion := s.ptr.motion, mode := s.csh.mode, lockA := s.lockShown .a, lockB := s.lockShown .b,
             fault := s.flt.first.isSome }
  else e

/-! ## Receiving (R3 to R6, R15 to R17) -/

def setReceiver (rx : RxState) (count : Nat) (s : State) : State := s.modClp fun c => { c with rx := rx, rxCount := count }

/-- Entry into DUPLICATE (R17). -/
def enterDuplicate (s : State) : State :=
  let s := s.modClp fun c =>
    { c with
      line := .duplicate, inFlight := none, queue := [], slot := none, joinTimer := none, spacingTimer := none, statusDue := false }
  releaseOutputs (haltScheduler (recordFault { kind := .dupStation, sender := some s.own } s))

/-- The receiver enters HUNT with the fault of R3 or R4, recorded in JOINING and ACTIVE; `count` recessive bit times have passed since
the last dominant bit (R3, R4's Note). -/
def huntFault (kind : FaultKind) (sender : Option (BitVec 5)) (count : Nat) (s : State) : State :=
  guarded s.listening (recordFault { kind := kind, sender := sender }) (setReceiver .hunt (min 11 count) s)

/-- LINE_FRAMING (R3, R4). -/
def framingFault (sender : Option (BitVec 5)) (count : Nat) (s : State) : State := huntFault .lineFraming sender count s

/-- The recessive bits at the end of a header that ends its frame (R4): the three of class 7 after the dominant start bit, or the
trailing ones of class and sender. -/
def headerTail : Option (BitVec 3 × BitVec 5) → Nat
  | none => 3
  | some (cls, n) => ((List.range 8).takeWhile fun i => (cls ++ n).getLsbD i).length

/-- A frame completes with a passing check (R4, R5, R15, R16), not sent by this station; `effect` is what it does where it
takes effect. Nothing completes at a receiver in HUNT (log entry 4). -/
def receiveFrame (sender : BitVec 5) (effect : State → State) (s : State) : State :=
  if s.clp.rx = .hunt then s
  else if 24 ≤ sender.toNat then framingFault (some sender) 0 s
  else
    let s := setReceiver .ready 0 s
    if !s.listening then s
    else if sender = s.own then enterDuplicate s
    else effect s

/-- A frame of the own number that this station did not send completes (R15, R16). -/
def ownNumberHeard (s : State) : State :=
  if s.clp.rx = .hunt then s else guarded s.listening enterDuplicate (setReceiver .ready 0 s)

/-- A frame completes with a failing check (R4): not examined in CONFIG and DUPLICATE. DESIGN CHOICE, unsafe (log entry 42): the
recessive bits at its end count in HUNT, as R4's Note has it for a frame left in its middle. -/
def checkFailed (f : FailedFrame) (s : State) : State :=
  if s.clp.rx = .hunt then s
  else if 24 ≤ f.sender.toNat then framingFault (some f.sender) f.tail s
  else if s.listening then huntFault .lineCheck (some f.sender) f.tail s
  else setReceiver .ready 0 s

/-- A start bit: the receiver takes its stamp and enters RECEIVING (R3). -/
def startBit (s : State) : State := s.modClp fun c => { c with rx := .receiving, rxStamp := s.timebase }

/-- A dominant bit on the line (R3): in HUNT it sets the recessive count to zero; in READY it is a start bit after 11 recessive bit
times, and a framing violation before; in RECEIVING it is a bit of the frame. -/
def dominantBit (s : State) : State :=
  match s.clp.rx with
  | .hunt => setReceiver .hunt 0 s
  | .ready => if s.clp.rxCount < 11 then framingFault none 0 s else startBit s
  | .receiving => s

/-- A class of 7 or a sender of 24 to 31 (R4). READY comes 11 bit times after the last dominant bit on the line (R4's Note), so the
header's last recessive bits count. -/
def badHeader (header : Option (BitVec 3 × BitVec 5)) (s : State) : State :=
  guarded (decide (s.clp.rx ≠ .hunt) && header.all fun h => decide (h.1 ≠ 7) && decide (24 ≤ h.2.toNat))
    (framingFault (header.map Prod.snd) (headerTail header)) s

/-- The receiver in HUNT reaches 11 recessive bit times (R3). -/
def receiverLocks (s : State) : State :=
  guarded (decide (s.clp.rx = .hunt) && decide (11 ≤ s.clp.rxCount)) (setReceiver .ready 11) s

/-! ## Transmitting (R7 to R13) -/

/-- Every condition of R7 for a start bit, but for a frame to send. -/
def Clp.mayStart (c : Clp) : Bool :=
  decide (c.line = .active) && decide (c.rx = .ready) && decide (11 ≤ c.rxCount) && c.inFlight.isNone

/-- The in-flight copy of the beacon slot or the queue head that the transmitter chooses at `t`, a STATUS frame filled from
`st` (R12, R13). -/
def Clp.choose (c : Clp) (t : Time) (st : Status) : Option InFlight :=
  let head := c.queue.head?.map fun q =>
    match q with
    | .status => { frame := .status st, source := .queue : InFlight }
    | .frame f => { frame := f, source := .queue }
  match c.slot with
  | some b =>
    if since t b.stamp ≤ Config.maxBeaconAge then
      some { frame := .beacon { b.beacon with age := BitVec.ofNat 12 (since t b.stamp) }, source := .slot false }
    else head
  | none => head

/-- A beacon too old at the bit time is withdrawn (R12). -/
def Clp.freshSlot (c : Clp) (t : Time) : Option Slot := c.slot.filter fun b => decide (since t b.stamp ≤ Config.maxBeaconAge)

/-- The transmitter starts a frame at the present bit time (R7, R13). The receiver takes its own start bit as it takes any
(R3, R6). -/
def startFrame (s : State) : State :=
  guarded s.clp.mayStart (fun s =>
    match s.clp.choose s.timebase s.status with
    | some f =>
      startBit (s.modClp fun c => { c with slot := c.freshSlot s.timebase, inFlight := some f })
    | none => s.modClp fun c => { c with slot := c.freshSlot s.timebase }) s

/-- Lost arbitration (R8): the frame stays in its store. -/
def loseArbitration (s : State) : State := s.modClp fun c => { c with inFlight := none }

/-- A frame leaves its store (R9, R10, R12). A STATUS frame that leaves the queue starts the spacing timer (R19). -/
def Clp.finish (c : Clp) (f : InFlight) (t : Time) : Clp :=
  { c with
    inFlight := none
    queue := if f.source = .queue then c.queue.drop 1 else c.queue
    slot := if f.source = .slot false then none else c.slot
    spacingTimer := match f.frame with
      | .status _ => some (later t Config.statusSpacing)
      | _ => c.spacingTimer }

/-- The own start bit was read recessive: the bit error comes at the reading of the stamp. No dominant bit came, so the receiver is
still in READY, and may start again (R3, R9; log entry 5). A start bit's reading is that of the beginning of its bit time, and a
completion's that of the end of its last (log entry 38). -/
def Clp.unread (c : Clp) (t : Time) : Clp :=
  if c.rx = .receiving ∧ c.rxStamp = t then { c with rx := .ready, rxCount := 11 } else c

/-- An own bit error (R9); nothing without a frame in flight. After the start bit the receiver reads on. -/
def bitError (s : State) : State :=
  match s.clp.inFlight with
  | some f => recordFault { kind := .lineBit, sender := some s.own } (s.modClp fun c => (c.finish f s.timebase).unread s.timebase)
  | none => s

/-- What the station's own frame does when it is heard back (R6). -/
def applyOwn (f : LineFrame) (stamp : Time) (s : State) : State :=
  match f with
  | .beacon _ | .mark _ => s
  | .status _ => setPeer s.own.toNat (fun p => { p with heard := true, last := stamp }) s
  | .punch edge p => applyPunch s.own edge p s
  | .control op p => applyControl s.own op p s
  | .cueHead p => stageHead s.own p s
  | .cueBody p => takeBody s.own p s

/-- The frame in flight completes (R10); nothing without one. -/
def completeFrame (s : State) : State :=
  match s.clp.inFlight with
  | some f => applyOwn f.frame s.clp.rxStamp (setReceiver .ready 0 (s.modClp fun c => c.finish f s.timebase))
  | none => s

/-! ## Timers (R15, R19) -/

/-- The join listen timer expires in JOINING: the station enters ACTIVE (R15, R18, R49). -/
def joinExpiry (s : State) : State :=
  guarded (decide (s.clp.line = .joining) && expired s.timebase s.clp.joinTimer) (fun s =>
    trackerActive (statusChange (s.modClp fun c => { c with line := .active, joinTimer := none }))) s

/-- The status spacing timer expires (R19). -/
def spacingExpiry (s : State) : State :=
  guarded (expired s.timebase s.clp.spacingTimer) (fun s =>
    let due := decide (s.clp.line = .active) && s.clp.statusDue
    let s := s.modClp fun c => { c with spacingTimer := none, statusDue := c.statusDue && !due }
    guarded due (placeStatus statusOverflow) s) s

end Sys2Proof.Machine
end

