-- ==== Sys2Proof/Machine/Views.lean ====
section
/-! DEFINITION. The words of the ten views (10 Table 10-4; 12 Tables 12-11 to 12-22) and the settings a WRITE stores. -/

namespace Sys2Proof.Machine
open Sys2Proof

/-! ## Fields of words (R206, R210) -/

/-- A number in the low bits of a word. -/
def wordOf (n : Nat) : DataWord := BitVec.ofNat 16 n

/-- A signed number as 16-bit two's complement. -/
def wordOfInt (n : Int) : DataWord := BitVec.ofInt 16 n

/-- A flag at a bit. -/
def bitAt (k : Nat) (b : Bool) : Nat := if b then 2 ^ k else 0

/-- A timebase reading: bits 31 to 16, then 15 to 0. -/
def timeWords (t : Time) : List DataWord := [t.extractLsb' 16 16, t.extractLsb' 0 16]

/-- A number of up to 32 bits in two words. -/
def longWords (n : Nat) : List DataWord := timeWords (BitVec.ofNat 32 n)

/-- A position: frame bits 23 to 8; frame bits 7 to 0 and the phase. -/
def positionWords (p : Int) : List DataWord :=
  [(frameField p).extractLsb' 8 16, (frameField p).extractLsb' 0 8 ++ posPhase p]

/-- A frame number alone. -/
def frameWords (f : Int) : List DataWord := positionWords (f * 256)

/-- An optional item; absent it reads 0 in its `n` words. -/
def optionWords {α : Type} (n : Nat) (f : α → List DataWord) : Option α → List DataWord
  | none => List.replicate n 0
  | some x => f x

/-- A boundary record in five words. -/
def recordWords (r : BRec) : List DataWord :=
  frameWords r.b ++ timeWords r.stamp ++ [wordOf (r.dir.code + bitAt 2 r.wrap)]

/-! ## CONFIG (10 Table 10-4) -/

def Role.code : Role → Nat
  | .none => 0
  | .picture => 1
  | .record => 2

def WrapFollow.code : WrapFollow → Nat
  | .byRole => 0
  | .on => 1
  | .off => 2

/-- Words 3 to 11 or 12 to 20. -/
def channelConfig (g : ChanSettings) : List DataWord :=
  [wordOf g.role.code, wordOf g.group, wordOf g.pulse.toNat, wordOf g.units, wordOf g.glitch, wordOf g.index.toNat,
   wordOfInt g.offset, wordOfInt g.trim, wordOf g.follow.code]

/-- The CONFIG view. -/
def State.configWords (s : State) : List DataWord :=
  [wordOf s.straps.station.toNat, wordOf s.straps.rank.toNat, wordOf s.straps.autostart.toNat] ++
  channelConfig s.settings.a ++ channelConfig s.settings.b ++
  [wordOf s.settings.tolerance, wordOf s.settings.lt0, wordOf s.settings.lt1, wordOf s.settings.lt2, wordOf s.settings.lt3,
   wordOf s.settings.beepMs, wordOf s.settings.pitch, wordOf s.settings.collect.toNat, wordOf s.settings.programmed.toNat,
   wordOf s.settings.geometry.total, wordOf s.settings.geometry.start, wordOf s.settings.geometry.width,
   wordOf s.settings.geometry.lines, wordOf s.settings.geometry.first, wordOf s.settings.geometry.active,
   wordOf s.settings.streamerWidth]

/-- A value within a stored range, as the setting `f` makes of it. -/
def stored {α : Type} (lo hi v : Int) (f : Nat → α) : Option α := if lo ≤ v ∧ v ≤ hi then some (f v.toNat) else none

def roleOf (n : Nat) : Role := if n = 0 then .none else if n = 1 then .picture else .record
def followOf (n : Nat) : WrapFollow := if n = 0 then .byRole else if n = 1 then .on else .off

/-- A WRITE of word `k` of a channel's nine (role first); `none` outside the stored range (R180, R185). -/
def ChanSettings.write (g : ChanSettings) (k : Nat) (d : DataWord) : Option ChanSettings :=
  let v : Int := d.toNat
  match k with
  | 0 => stored 0 2 v fun n => { g with role := roleOf n }
  | 1 => stored 0 15 v fun n => { g with group := n }
  | 2 => stored 0 1 v fun n => { g with pulse := decide (n = 1) }
  | 3 => stored 0 255 v fun n => { g with units := n }
  | 4 => stored 0 1000 v fun n => { g with glitch := n }
  | 5 => stored 0 1 v fun n => { g with index := decide (n = 1) }
  | 6 => stored (-9999) 9999 d.toInt fun _ => { g with offset := d.toInt }
  | 7 => stored (-255) 255 d.toInt fun _ => { g with trim := d.toInt }
  | 8 => stored 0 2 v fun n => { g with follow := followOf n }
  | _ => none

/-- A WRITE of word `k` of the CONFIG view; `none` for a strap word, a word that does not exist and a value outside the stored
range (R180, R185). -/
def Settings.write (g : Settings) (k : Nat) (d : DataWord) : Option Settings :=
  let v : Int := d.toNat
  let geo := fun (f : Nat → Geometry) => stored 0 4095 v fun n => { g with geometry := f n }
  if 3 ≤ k ∧ k ≤ 11 then (g.a.write (k - 3) d).map fun c => { g with a := c }
  else if 12 ≤ k ∧ k ≤ 20 then (g.b.write (k - 12) d).map fun c => { g with b := c }
  else
    match k with
    | 21 => stored 0 255 v fun n => { g with tolerance := n }
    | 22 => stored 0 16 v fun n => { g with lt0 := n }
    | 23 => stored 0 16 v fun n => { g with lt1 := n }
    | 24 => stored 0 16 v fun n => { g with lt2 := n }
    | 25 => stored 0 16 v fun n => { g with lt3 := n }
    | 26 => stored 0 1000 v fun n => { g with beepMs := n }
    | 27 => stored 0 4095 v fun n => { g with pitch := n }
    | 28 => stored 0 1 v fun n => { g with collect := decide (n = 1) }
    | 29 => stored 0 1 v fun n => { g with programmed := decide (n = 1) }
    | 30 => geo fun n => { g.geometry with total := n }
    | 31 => geo fun n => { g.geometry with start := n }
    | 32 => geo fun n => { g.geometry with width := n }
    | 33 => geo fun n => { g.geometry with lines := n }
    | 34 => geo fun n => { g.geometry with first := n }
    | 35 => geo fun n => { g.geometry with active := n }
    | 36 => stored 0 255 v fun n => { g with streamerWidth := n }
    | _ => none

/-! ## STATUS (12 Tables 12-16 to 12-18) -/

/-- Words c to c + 20 of a channel (12 Table 12-17; log entry 32). -/
def State.channelStatus (s : State) (c : Chan) : List DataWord :=
  let ch := s.chan c
  let g := s.settings.chan c
  [wordOf (ch.unit + 256 * ch.motion.code + bitAt 10 ch.wrap.enabled + bitAt 11 ch.recNew.isSome + bitAt 12 ch.recOld.isSome)] ++
  frameWords ch.frame ++ frameWords (ch.reported g) ++ frameWords ch.wrap.s ++ frameWords ch.wrap.e ++
  positionWords (holdPosition g ch) ++ optionWords 5 recordWords ch.recNew ++ optionWords 5 recordWords ch.recOld

/-- The hold position the STATUS view gives: the reference's in TRACKING, the frozen one in HOLD. -/
def Ptr.shownHold (p : Ptr) : Option Int :=
  match p.state with
  | .none => none
  | .tracking => p.hold
  | .hold => p.frozen

/-- Words 43 to 59. -/
def State.referenceStatus (s : State) : List DataWord :=
  let p := s.ptr
  [wordOf (p.state.code + 4 * p.motion.code + 16 * p.chosen.getD 31 + bitAt 9 p.interval.isSome + bitAt 10 p.playable +
     bitAt 11 p.recNew.isSome + bitAt 12 p.recOld.isSome + bitAt 13 p.shownHold.isSome + bitAt 14 s.here.isSome)] ++
  optionWords 5 recordWords p.recNew ++ optionWords 5 recordWords p.recOld ++ optionWords 2 longWords p.interval ++
  optionWords 2 positionWords p.shownHold ++ optionWords 2 positionWords s.here

/-- Words 60 to 62, or 63 to 65. -/
def lockWords (l : Lock) : List DataWord := [wordOf l.state.code, wordOfInt l.err, wordOf (256 * l.good + l.bad)]

/-- The six words of a staged header (12 Table 12-18). -/
def stagedWords (x : Staged) : List DataWord :=
  [wordOf (bitAt 15 true + x.sender), wordOf x.head.id.toNat,
   wordOf (256 * x.head.reel.toNat + bitAt 7 (decide (x.head.global = 1)) + x.head.group.toNat), x.head.mask] ++
  positionWords (position x.head.frame.toInt x.head.phase.toNat)

/-- Words 92 to 97. -/
def dueWords (c : Csh) : List DataWord :=
  [wordOf (c.mode.code + bitAt 1 c.halted + 256 * c.due.length)] ++
  optionWords 5 (fun d : Due => [wordOf (256 * d.entry + d.element.code)] ++ positionWords d.pos ++ timeWords d.fire) c.due.head?

/-- Two counts with the state each drives: bits 5–0 and 6, bits 13–8 and 14. -/
def pairWord (m n : Nat) : DataWord := wordOf (m + bitAt 6 (decide (0 < m)) + 256 * n + bitAt 14 (decide (0 < n)))

/-- Words 98 to 103. -/
def outputWords (c : Cou) : List DataWord :=
  [pairWord c.punchA c.punchB, pairWord (c.holds.getD 0 0) (c.holds.getD 1 0), pairWord (c.holds.getD 2 0) (c.holds.getD 3 0),
   wordOf (bitAt 0 c.gate.isSome + bitAt 1 c.released)] ++
  optionWords 2 (fun g : Gate => timeWords g.finish) c.gate

/-- A streamer of the front list in two words. -/
def streamerWords (x : Streamer) : List DataWord := [wordOf (256 * x.entry + x.colour.toNat), wordOf x.x]

/-- Words 104 to 124. -/
def overlayWords (o : Ovl) : List DataWord :=
  [wordOf (o.raster.code + bitAt 2 o.last.isSome + bitAt 3 (o.last.any fun m => m.total.isSome) + 16 * o.run.count +
     bitAt 7 o.settled.isSome + bitAt 8 o.frozen.isSome)] ++
  optionWords 2 (fun m : FieldMeas => [wordOf (m.total.getD 0), wordOf m.lines]) o.last ++
  optionWords 3 (fun m : Settled => [wordOf m.total, wordOf m.least, wordOf m.greatest]) o.settled ++
  optionWords 6 (fun g : Geometry =>
    [wordOf g.total, wordOf g.start, wordOf g.width, wordOf g.lines, wordOf g.first, wordOf g.active]) o.frozen ++
  [wordOf (o.front.streamers.length + bitAt 3 o.front.flash.isSome + bitAt 4 o.front.border + 256 * o.front.flash.getD 0)] ++
  (List.range Config.streamerMax).flatMap fun i => optionWords 2 streamerWords o.front.streamers[i]?

/-- The STATUS view (12 Table 12-16). -/
def State.statusWords (s : State) : List DataWord :=
  [wordOf (s.clp.line.code + 4 * s.clp.rx.code + 16 * s.clp.queue.length + bitAt 8 s.clp.slot.isSome + bitAt 9 s.clp.statusDue)] ++
  s.channelStatus .a ++ s.channelStatus .b ++ s.referenceStatus ++ lockWords s.lockA ++ lockWords s.lockB ++
  [wordOf s.settings.tolerance] ++
  ((List.range Config.stageSize).flatMap fun i => optionWords 6 stagedWords s.ctb.staging[i]?) ++
  [wordOf s.ctb.pointer] ++ dueWords s.csh ++ outputWords s.cou ++ overlayWords s.ovl ++
  [wordOf (s.mkl.key.code + bitAt 3 s.mkl.overrun + 16 * s.mkl.log.length + 256 * s.mkl.serial.toNat)]

/-! ## The indexed views -/

/-- A cue entry (12 Table 12-12). -/
def cueWords (e : CueEntry) : List DataWord :=
  let d := e.cue
  let r := e.run
  [wordOf (bitAt 15 true + d.id.toNat), wordOf (256 * d.reel.toNat + bitAt 7 d.global + d.group.getD 31), d.mask] ++
  positionWords d.point ++
  [wordOf (256 * d.streamer + d.colour.toNat), wordOf (4096 * d.beeps + d.spacing), wordOf (bitAt 15 d.light + d.lightLead),
   wordOf (256 * d.punchLead + d.lightHold), wordOf d.outOffset,
   wordOf (bitAt 14 r.lightOpen + bitAt 13 r.punchOpen + bitAt 12 r.punched + 256 * r.punch.code + 16 * r.outcome.code +
     r.state.code),
   wordOf r.fired.toNat, wordOf (256 * r.takes + r.passes)]

/-- A source list entry at the reading `t` (12 Table 12-19). -/
def sourceWords (t : Time) (e : Source) : List DataWord :=
  [wordOf (bitAt 15 true + e.sender + bitAt 5 e.isLocal + 64 * e.rank + 512 * e.motion.code + bitAt 11 e.record.isSome +
     bitAt 12 e.hold.isSome + bitAt 13 e.interval.isSome)] ++
  optionWords 5 recordWords e.record ++ optionWords 2 longWords e.interval ++ optionWords 2 positionWords e.hold ++
  timeWords e.lastBeacon ++ longWords (remaining t e.aging)

/-- A peer table entry (12 Table 12-20). -/
def peerWords (p : Peer) : List DataWord :=
  [wordOf (bitAt 15 p.heard + p.refState.code + 4 * p.motion.code + 16 * p.mode.code + 32 * p.lockA.code + 128 * p.lockB.code +
     bitAt 9 p.fault)] ++ timeWords p.last

/-- A tally entry (12 Table 12-21). -/
def tallyWords (x : Tally) : List DataWord :=
  [wordOf (bitAt 15 true + x.station + 256 * x.group.toNat), wordOf x.reel.toNat, wordOf x.id.toNat] ++ positionWords x.pos

/-- Words 0 and 5 of a mark record. -/
def markEnd (r : MarkRec) (overrun : Bool) : DataWord :=
  wordOf (256 * r.serial.toNat + bitAt 7 overrun + bitAt 6 true + r.station)

/-- A mark record (12 Table 12-14); `overrun` is the overrun flag as it reads at the index. -/
def markWords (r : MarkRec) (overrun : Bool) : List DataWord :=
  let l := r.latch
  let f : BitVec 24 := match l.pos with
    | some p => frameField p
    | none => 0
  let phase : BitVec 8 := match l.pos with
    | some p => posPhase p
    | none => 0
  [markEnd r overrun,
   wordOf (bitAt 15 l.pos.isSome + 4096 * l.refState.code + 1024 * l.motion.code + 256 * l.mode.code + (f.extractLsb' 16 8).toNat),
   f.extractLsb' 0 16,
   wordOf (256 * phase.toNat + bitAt 7 l.cue.isSome + (l.cue.getD (0, 0)).1.toNat), wordOf (l.cue.getD (0, 0)).2.toNat,
   markEnd r overrun]

/-- The COUNTS view (12 Table 12-22). -/
def State.countWords (s : State) : List DataWord :=
  let chan := fun (c : Channel) => [wordOf c.fwd, wordOf c.rev, wordOf c.glitches, wordOf c.slips]
  chan s.chA ++ chan s.chB ++ [wordOf s.csh.late]

/-- Words 0 to 7 of the FAULT view of a record (12 Table 12-13). -/
def faultWords (more : Bool) (r : FaultRec) : List DataWord :=
  let chan := match r.chan with
    | some .b => 4096
    | _ => 0
  [wordOf (chan + bitAt 11 r.sender.isSome + bitAt 10 r.cue.isSome + bitAt 9 r.chan.isSome + bitAt 8 r.pos.isSome + bitAt 7 more +
     r.kind.code)] ++
  timeWords r.stamp ++ optionWords 2 positionWords r.pos ++
  [wordOf (r.cue.getD (0, 0)).1.toNat, wordOf (r.cue.getD (0, 0)).2.toNat, wordOf (r.sender.getD 0).toNat]

/-- Words 8 to 18: the counts in code order, two to a word (R208). -/
def faultCountWords (counts : List Nat) : List DataWord :=
  (List.range 11).map fun i => wordOf (256 * counts.getD (2 * i) 0 + counts.getD (2 * i + 1) 0)

/-- The FAULT view. -/
def State.faultView (s : State) : List DataWord :=
  optionWords 8 (faultWords s.flt.more) s.flt.first ++ faultCountWords s.flt.counts

/-- ALERTN is active (R198). -/
def State.alertActive (s : State) : Bool := decide (s.flt.causes &&& s.flt.enable ≠ 0)

/-- The ALERT view (R202). -/
def State.alertWords (s : State) : List DataWord :=
  [wordOf s.flt.enable.toNat, wordOf s.flt.causes.toNat, wordOf s.alertActive.toNat]

/-! ## All views (10 Table 10-3) -/

/-- The number of indexes and of words of a view; `none` for a code that names no view (10 Table 10-3, 12 Table 12-11). -/
def viewSize (view : BitVec 4) : Option (Nat × Nat) :=
  match view.toNat with
  | 0 => some (1, 37)
  | 1 => some (1, 126)
  | 2 => some (32, 13)
  | 3 => some (8, 14)
  | 4 => some (24, 3)
  | 5 => some (8, 5)
  | 6 => some (8, 6)
  | 7 => some (1, 9)
  | 8 => some (1, 19)
  | 9 => some (1, 3)
  | _ => none

/-- Every word of a view index, read live. -/
def State.viewWords (s : State) (view : BitVec 4) (i : Nat) : List DataWord :=
  match view.toNat with
  | 0 => s.configWords
  | 1 => s.statusWords
  | 2 => optionWords 13 cueWords (s.entry i)
  | 3 => optionWords 14 (sourceWords s.timebase) (s.ptr.sources.getD i none)
  | 4 => peerWords (s.peerShown i)
  | 5 => optionWords 5 tallyWords s.cou.tally[i]?
  | 6 => optionWords 6 (fun r => markWords r (s.mkl.overrun && decide (i = 0))) s.mkl.log[i]?
  | 7 => s.countWords
  | 8 => s.faultView
  | 9 => s.alertWords
  | _ => []

/-- The fields name a word that exists (R179). -/
def wordExists (f : CmdFields) : Bool :=
  match viewSize f.view with
  | some (indexes, words) => decide (f.index.toNat < indexes) && decide (f.word.toNat < words)
  | none => false

/-- A word read live; 0 when it does not exist. -/
def State.liveWord (s : State) (f : CmdFields) : DataWord :=
  if wordExists f then (s.viewWords f.view f.index.toNat).getD f.word.toNat 0 else 0

end Sys2Proof.Machine
end

