-- ==== Sys2Proof/Machine/Reset.lean ====
section
/-! DEFINITION. Strap sampling, START, RESTART and full reset (10 sections 10.6 to 10.8). -/

namespace Sys2Proof.Machine
open Sys2Proof

/-! ## START (R188) -/

/-- The role clamps of R22: at most one applies. -/
def clampRoles (s : State) : State :=
  let a := s.settings.a
  let b := s.settings.b
  guarded (decide (a.role = .picture ∧ b.role = .picture) || decide (a.role = .record ∧ b.role = .record ∧ a.group = b.group))
    (fun s => recordFault { kind := .configClamp, chan := some .b } (s.modSettings fun g => { g with b := { g.b with role := .none } })) s

/-- A clamp with no channel: the setting takes its working value, and a change records CONFIG_CLAMP (R65, R138). -/
def clampSetting (get : Settings → Nat) (set : Nat → Settings → Settings) (work : Nat → Nat) (s : State) : State :=
  guarded (decide (work (get s.settings) ≠ get s.settings)) recordClamp (s.modSettings (set (work (get s.settings))))

/-- The working tone pitch (R138). -/
def workPitch (n : Nat) : Nat := clamp 400 2000 n / 10 * 10

/-- Stage 1 of START: every clamp (R188). -/
def clampAll (s : State) : State :=
  clampOverlay
    (clampSetting Settings.pitch (fun n g => { g with pitch := n }) workPitch
      (clampSetting Settings.beepMs (fun n g => { g with beepMs := n }) (clamp 10 250)
        (clampSetting Settings.tolerance (fun n g => { g with tolerance := n }) (clamp 8 128) (clampRoles s))))

/-- The capture buffer is emptied. -/
def emptyCapture (s : State) : State := s.modSvc fun v => { v with capture := none }

/-- The Cue Line Port starts: JOINING, with the join listen timer (R14). -/
def startLine (s : State) : State :=
  s.modClp fun c => { c with line := .joining, joinTimer := some (later s.timebase Config.joinListen) }

/-- A START that is taken: the three stages of R188. The blocks of the third need no order (R188, log entry 13). -/
def startPart (s : State) : State :=
  startKey (startOverlay (startTracker (sampleChannel .b (sampleChannel .a (startLine (emptyCapture (clampAll s)))))))

/-! ## Straps (R187, R189) -/

/-- The straps are sampled, with BAD_STRAP for a station number of 24 to 31; then AUTOSTART acts. -/
def sampleStraps (st : Straps) (s : State) : State :=
  let s := { s with straps := st }
  if goodStraps st then guarded st.autostart startPart s else recordFault { kind := .badStrap } s

/-! ## RESTART and full reset (R190, R191) -/

/-- Every block but the port, the configuration and Fault and Alert at its reset values. -/
def resetBlocks (s : State) : State :=
  { s with
    clp := .reset, chA := .reset, chB := .reset, ptr := .reset, lockA := .reset, lockB := .reset, ctb := .reset, csh := .reset,
    cou := .reset, ovl := .reset, mkl := .reset }

/-- RESTART at the blocks and at Fault and Alert, which keeps the FAULT cause alone (R190, R201). -/
def restartPart (st : Straps) (s : State) : State :=
  sampleStraps st
    (((resetBlocks s).modFlt fun f => { f with causes := f.causes &&& causeFault }).modSvc fun v =>
      { v with sampled := [], pending := .none, watch := none, capture := none })

/-- The response register of a reset: data 0, the present status, refusal clear (10 Table 10-1). -/
def presentResponse (s : State) : Response := { data := 0, line := s.clp.line, alert := s.alertActive, refusal := false }

/-- A full reset as RESETN returns inactive (R191). The response register takes the status that AUTOSTART leaves (log entry
35). -/
def fullReset (st : Straps) (levels : Levels) (s : State) : State :=
  let s := sampleStraps st
    { resetBlocks s with
      pins := levels, resetActive := false, straps := st, settings := .default st.station, svc := .reset, flt := .reset }
  s.modSvc fun v => { v with response := presentResponse s }

/-- RESETN is driven active: every block is held at its full reset values (R191). The configuration and the straps are taken
when it returns inactive. -/
def holdReset (s : State) : State := { resetBlocks s with resetActive := true, svc := .reset, flt := .reset }

end Sys2Proof.Machine
end

