-- ==== Sys2Proof/Machine/Service.lean ====
section
/-! DEFINITION. The service port (10 sections 10.1 to 10.3): frames taken by kind and pending command, and the commands. -/

namespace Sys2Proof.Machine
open Sys2Proof

/-! ## The response (R178) -/

/-- What a frame's effects leave to be answered: the data word, and whether the frame was refused. -/
structure Answer where
  data : DataWord
  refused : Bool
  deriving DecidableEq, Repr

/-- The response register is loaded, with the status of the moment, and SACK takes a pulse of 0, 1 or 2 periods. -/
def loadResponse (a : Answer) (sack : Nat) (s : State) : State :=
  s.modSvc fun v =>
    { v with response := { data := a.data, line := s.clp.line, alert := s.alertActive, refusal := a.refused }, sack := sack }

/-- A frame other than an idle frame is answered: one SACK period when taken, two when refused. -/
def answer (x : State × Answer) : State := loadResponse x.2 (if x.2.refused then 2 else 1) x.1

def endWatch (s : State) : State := s.modSvc fun v => { v with watch := none }

def setPending (p : PendingCmd) (s : State) : State := s.modSvc fun v => { v with pending := p }

/-- A response word that the spec does not state: a free value, and the count of its uses (log entry 9). -/
def freeData (s : State) : State × DataWord := ({ s with freeCount := s.freeCount + 1 }, Config.freeResponse s.freeCount)

/-- A refusal whose response data the spec does not state. -/
def refuseFree (s : State) : State × Answer := ((freeData s).1, { data := (freeData s).2, refused := true })

/-! ## READ and WATCH (R179, R181) -/

/-- The buffer holds the view and index of the fields. -/
def Capture.holds (c : Capture) (f : CmdFields) : Bool := decide (c.view = f.view) && decide (c.index = f.index)

/-- A fresh capture of a view index. -/
def State.captureOf (s : State) (f : CmdFields) : Capture :=
  { view := f.view, index := f.index, words := s.viewWords f.view f.index.toNat }

/-- The capture a READ of a word finds or takes: fresh for word 0, and where the buffer holds another view or index. -/
def State.captureFor (s : State) (f : CmdFields) : Capture :=
  match s.svc.capture with
  | some c => if f.word ≠ 0 ∧ c.holds f = true then c else s.captureOf f
  | none => s.captureOf f

/-- The MARK view's code. -/
abbrev markView : BitVec 4 := 6

/-- A READ of the last word of MARK index 0 with the log not empty (R172). -/
def takesMark (f : CmdFields) (s : State) : Bool :=
  decide (f.view = markView) && decide (f.index = 0) && decide (f.word = 5) && !s.mkl.log.isEmpty

/-- READ (R179). -/
def doRead (f : CmdFields) (s : State) : State × Answer :=
  if wordExists f = false then (s, { data := 0, refused := true })
  else if f.view = markView then (guarded (takesMark f s) takeMark s, { data := s.liveWord f, refused := false })
  else
    (s.modSvc fun v => { v with capture := some (s.captureFor f) },
     { data := (s.captureFor f).words.getD f.word.toNat 0, refused := false })

/-- WATCH (R181). -/
def doWatch (f : CmdFields) (s : State) : State × Answer :=
  if wordExists f then (s.modSvc fun v => { v with watch := some f }, { data := s.liveWord f, refused := false })
  else (s, { data := 0, refused := true })

/-- NOP (R183). -/
def doNop (s : State) : State × Answer :=
  (s, { data := match s.svc.watch with
          | some f => s.liveWord f
          | none => 0,
        refused := false })

/-! ## WRITE (R180, R184) -/

/-- The WRITE command frame. -/
def doWrite (f : CmdFields) (s : State) : State × Answer :=
  if (viewSize f.view).isSome then (setPending (.write f) s, { data := 0, refused := false }) else (s, { data := 0, refused := true })

/-- What a taken write does; `none` when it is refused (R180, R184, R195, R198, R199). -/
def writeEffect (f : CmdFields) (d : DataWord) (s : State) : Option (State → State) :=
  if wordExists f = false then none
  else
    match f.view.toNat with
    | 0 => if s.clp.line = .config then (s.settings.write f.word.toNat d).map fun g => fun s => s.modSettings fun _ => g else none
    | 8 => some clearRecord
    | 9 =>
      match f.word.toNat with
      | 0 => some fun s => s.modFlt fun x => { x with enable := d.setWidth 6 }
      | 1 => some fun s => s.modFlt fun x => { x with causes := x.causes &&& ~~~(d.setWidth 6) }
      | _ => none
    | _ => none

/-- The data frame of a WRITE (R180). -/
def finishWrite (f : CmdFields) (d : DataWord) (s : State) : State × Answer :=
  let s := setPending .none s
  match writeEffect f d s with
  | some act => let s := emptyCapture (act s); (s, { data := s.liveWord f, refused := false })
  | none => (s, { data := s.liveWord f, refused := true })

/-! ## SEND (R182) -/

/-- The SEND command frame. -/
def doSend (cls : BitVec 3) (s : State) : State × Answer :=
  if cls.toNat < 6 then
    (setPending (.send cls [] (payloadWords cls)) s, { data := wordOf (payloadWords cls), refused := false })
  else (s, { data := 0, refused := true })

/-- A SEND's line frame is placed, or refused (R11, R182). -/
def placeSend (f : Option LineFrame) (s : State) : State × Answer :=
  match f with
  | some f =>
    if s.listening && decide (s.clp.queue.length < Config.queueSize) then
      let s := s.modClp fun c => { c with queue := c.queue ++ [.frame f] }
      (s, { data := wordOf s.clp.queue.length, refused := false })
    else (s, { data := wordOf s.clp.queue.length, refused := true })
  | none => (s, { data := wordOf s.clp.queue.length, refused := true })

/-- A payload word of a SEND (R182). -/
def takePayload (cls : BitVec 3) (words : List DataWord) (expected : Nat) (d : DataWord) (s : State) : State × Answer :=
  if words.length + 1 < expected then
    (setPending (.send cls (words ++ [d]) expected) s, { data := wordOf (expected - (words.length + 1)), refused := false })
  else placeSend (frameOfWords cls (words ++ [d])) (setPending .none s)

/-! ## START and RESTART (R188, R190) -/

/-- START. -/
def doStart (s : State) : State × Answer :=
  if s.clp.line ≠ .config then (s, { data := 1, refused := true })
  else if goodStraps s.straps then (startPart s, { data := 0, refused := false })
  else (s, { data := 2, refused := true })

/-- RESTART. -/
def doRestart (st : Straps) (s : State) : State × Answer := (restartPart st s, { data := 0, refused := false })

/-! ## Frames by kind (R177) -/

/-- What a command code does (R179 to R183, R188, R190; 12 Table 12-10); `st` are the straps that a RESTART finds. -/
def commandAct (st : Straps) (code : BitVec 5) (f : CmdFields) (s : State) : State × Answer :=
  match code.toNat with
  | 0 => doNop s
  | 1 => doRead f s
  | 2 => doWrite f s
  | 3 => doWatch f s
  | 4 => doSend (f.view.setWidth 3) s
  | 5 => doStart s
  | 6 => doRestart st s
  | _ => (s, { data := 0, refused := true })

/-- A command frame: refused, abandoning the pending command, when one is pending; else it ends any watch, but for NOP, and is
carried out. -/
def takeCommand (st : Straps) (code : BitVec 5) (f : CmdFields) (s : State) : State :=
  if s.svc.pending = .none then answer (commandAct st code f (if code = 0 then s else endWatch s))
  else answer (refuseFree (setPending .none s))

/-- A data frame: the pending WRITE's data, the pending SEND's next payload word, or stray. -/
def takeData (d : DataWord) (s : State) : State :=
  match s.svc.pending with
  | .none => answer (refuseFree (endWatch s))
  | .write f => answer (finishWrite f d s)
  | .send cls words expected => answer (takePayload cls words expected d s)

/-- An idle frame. -/
def takeIdle (s : State) : State :=
  if s.svc.pending = .none then loadResponse { data := 0, refused := false } 0 (endWatch s)
  else let x := refuseFree (setPending .none s); loadResponse x.2 0 x.1

/-- A completed frame is taken by its kind; its not-used bits are not examined (R205). -/
def takeFrame (st : Straps) (fr : ServiceFrame) (s : State) : State :=
  match fr with
  | .idle => takeIdle s
  | .command code f _ => takeCommand st code f s
  | .data d _ => takeData d s

/-! ## Bits (R175, R176) -/

/-- Resynchronisation (R176). -/
def resync (s : State) : State :=
  loadResponse { data := 0, refused := false } 0
    (s.modSvc fun v => { v with sampled := [], ones := 0, pending := .none, watch := none, capture := none })

/-- The ones count after a bit (R176). -/
def onesNext (n : Nat) (bit : Bool) : Nat := if bit then n + 1 else 0

/-- One bit sampled on SDI: the 32nd of a frame completes it, and it is taken; the 64th one in a row then resynchronises. -/
def sampleBit (st : Straps) (s : State) (bit : Bool) : State :=
  let bits := s.svc.sampled ++ [bit]
  let n := onesNext s.svc.ones bit
  let u := if bits.length < 32 then s.modSvc fun v => { v with sampled := bits, ones := n }
    else takeFrame st (.decode bits) (s.modSvc fun v => { v with sampled := [], ones := n })
  if n < 64 then u else resync u

/-- Bits sampled one after another. -/
def sampleBits (st : Straps) (bits : List Bool) (s : State) : State := bits.foldl (sampleBit st) s

/-- The 32 bits that the host sends as a frame, wherever the port's framing position stands. A RESTART among them finds the straps
as they were last sampled (log entry 8). -/
def samplePort (fr : ServiceFrame) (s : State) : State := sampleBits s.straps fr.bits s

end Sys2Proof.Machine
end

