-- ==== Sys2Proof/Machine/Flags.lean ====
section
/-! DEFINITION. The levels the part drives on its output pins, computed from the state. While RESETN is active the blocks stand
at their reset values, so the same functions hold. -/

namespace Sys2Proof.Machine
open Sys2Proof

/-- CLEN is active while a frame is in flight (R7). -/
def State.clen (s : State) : Bool := s.clp.inFlight.isSome

/-- PA or PB is active while the channel's punch count is above 0 (R131). -/
def State.punchPin (s : State) (c : Chan) : Bool := decide (0 < s.cou.punch c)

/-- LT0 to LT3 are lit while their hold count is above 0 (R136). -/
def State.lightPin (s : State) (i : Nat) : Bool := decide (0 < s.cou.holds.getD i 0)

/-- TONE: while the gate is open, a square wave of the pitch that starts with a high half where the gate opened (R138, log
entry 29). DESIGN CHOICE (log entry 39): the elapsed time is the difference of the readings modulo 2³² also where the gate has
stayed open for 2³¹ µs or more, which 00 section 5.2 leaves open, so the phase begins anew each 2³² µs. -/
def State.tonePin (s : State) : Bool :=
  match s.cou.gate with
  | some g => decide (since s.timebase g.opened * 2 * s.settings.pitch / 1000000 % 2 = 0)
  | none => false

/-- ALERTN: low is active (R198). -/
def State.alertnPin (s : State) : Bool := !s.alertActive

/-- The 32 bits that SDO shifts out during the next frame, bit 31 first (R175, R206); low while RESETN is active. -/
def State.sdoBits (s : State) : BitVec 32 := if s.resetActive then 0 else s.svc.response.bits

/-! ## KEY and COL0 to COL2 (R150, R153, R159 to R162) -/

/-- A pixel lies in the active area (R150). -/
def inArea (g : Geometry) (line pixel : Nat) : Bool :=
  decide (g.start ≤ pixel) && decide (pixel < g.start + g.width) && decide (g.first ≤ line) && decide (line < g.first + g.active)

/-- The flash rectangle (R160). -/
def inFlash (g : Geometry) (line pixel : Nat) : Bool :=
  let fw := g.width / 4
  let fh := g.active / 4
  let x := g.start + (g.width - fw) / 2
  let y := g.first + (g.active - fh) / 2
  decide (x ≤ pixel) && decide (pixel < x + fw) && decide (y ≤ line) && decide (line < y + fh)

/-- The tally border: 8 pixels at the sides, 4 lines above and below (R161). -/
def inBorder (g : Geometry) (line pixel : Nat) : Bool :=
  decide (pixel < g.start + 8) || decide (g.start + g.width ≤ pixel + 8) || decide (line < g.first + 4) ||
    decide (g.first + g.active ≤ line + 4)

/-- A streamer covers a pixel of the active area (R159). -/
def Streamer.covers (x : Streamer) (width pixel : Nat) : Bool := decide (x.x ≤ pixel) && decide (pixel < x.x + width)

/-- The colour code of a pixel under the front list; `none` is KEY inactive (R162). -/
def FieldList.pixel (l : FieldList) (g : Geometry) (width line pixel : Nat) : Option (BitVec 3) :=
  if inArea g line pixel = false then none
  else if l.flash.isSome && inFlash g line pixel then some 4
  else
    match l.streamers.find? fun x => x.covers width pixel with
    | some x => some (x.colour.setWidth 3)
    | none => if l.border && inBorder g line pixel then some 5 else none

/-- KEY with COL0 to COL2 at a pixel: the front list in STABLE with the frozen flag set, else inactive and low (R153). -/
def State.keyPixel (s : State) (line pixel : Nat) : Option (BitVec 3) :=
  match s.ovl.raster, s.ovl.frozen with
  | .stable, some g => s.ovl.front.pixel g s.settings.streamerWidth line pixel
  | _, _ => none

end Sys2Proof.Machine
end

