-- ==== Sys2Proof/Machine/PortCommands.lean ====
section
/-! DEFINITION. The meanings of the reset commands and of the service port's commands (10). -/

namespace Sys2Proof.Machine
open Sys2Proof

/-- What a command answers. -/
abbrev Result := Host.Outcome State Fault Refusal

/-! ## Resets -/

/-- FULL_RESET (R191): power-up, or RESETN returning inactive. -/
def execFullReset (t : Time) (st : Straps) (levels : Levels) (s : State) : Result := .next (fullReset st levels (s.advance t))

/-- RESETN_DRIVEN_ACTIVE (R191). -/
def execResetnDrivenActive (t : Time) (s : State) : Result := .next (holdReset (s.advance t))

/-! ## Frames: the 32 bits of each row are sampled one by one, and what they complete is taken (R175 to R177, R205) -/

/-- IDLE_FRAME (R176, R177). -/
def execIdleFrame (t : Time) (s : State) : Result := s.event t (samplePort .idle)

/-- RESYNCHRONISE (R176): the 64th one in a row. -/
def execResynchronise (t : Time) (s : State) : Result := s.event t resync

/-- READ (R179). -/
def execRead (t : Time) (f : CmdFrame) (s : State) : Result := s.event t (samplePort (.command 1 f.fields f.unused))

/-- The fields of the READ that takes a mark record: MARK index 0, word 5 (R172). -/
def markTakeFields : CmdFields := { view := markView, index := 0, word := 5 }

/-- MARK_RECORD_TAKE (R172); the frame as it is sent with its not-used bits 0 (log entry 22). -/
def execMarkRecordTake (t : Time) (s : State) : Result := s.event t (samplePort (.command 1 markTakeFields 0))

/-- WRITE (R180). -/
def execWrite (t : Time) (f : CmdFrame) (s : State) : Result := s.event t (samplePort (.command 2 f.fields f.unused))

/-- WRITE_CONFIG (R185): a data frame, completing the pending WRITE to CONFIG. -/
def execWriteConfig (t : Time) (d : DataFrame) (s : State) : Result := s.event t (samplePort (.data d.data d.unused))

/-- WRITE_ALERT_ENABLE (R198): a data frame, completing the pending WRITE to ALERT word 0. -/
def execWriteAlertEnable (t : Time) (d : DataFrame) (s : State) : Result := s.event t (samplePort (.data d.data d.unused))

/-- WRITE_ALERT_PENDING (R199): a data frame, completing the pending WRITE to ALERT word 1. -/
def execWriteAlertPending (t : Time) (d : DataFrame) (s : State) : Result := s.event t (samplePort (.data d.data d.unused))

/-- WRITE_FAULT (R195): a data frame, completing the pending WRITE to FAULT. -/
def execWriteFault (t : Time) (d : DataFrame) (s : State) : Result := s.event t (samplePort (.data d.data d.unused))

/-- WRITE_DATA_OTHER (R180): a data frame, completing a pending WRITE that is refused. -/
def execWriteDataOther (t : Time) (d : DataFrame) (s : State) : Result := s.event t (samplePort (.data d.data d.unused))

/-- WATCH (R181). -/
def execWatch (t : Time) (f : CmdFrame) (s : State) : Result := s.event t (samplePort (.command 3 f.fields f.unused))

/-- NOP (R183). -/
def execNop (t : Time) (f : CmdFrame) (s : State) : Result := s.event t (samplePort (.command 0 f.fields f.unused))

/-- The view field of a SEND: bit 25, which is not used, and the class in bits 24 to 22 (12 Table 12-10). -/
def sendFields (cls : BitVec 3) (index : BitVec 6) (word : BitVec 10) (u : BitVec 7) : CmdFields :=
  { view := u.extractLsb' 6 1 ++ cls, index := index, word := word }

/-- SEND (R182). -/
def execSend (t : Time) (cls : BitVec 3) (index : BitVec 6) (word : SendWord) (s : State) : Result :=
  s.event t (samplePort (.command 4 (sendFields cls index word.word word.unused) (word.unused.setWidth 6)))

/-- SEND_PAYLOAD_WORD (R182): a data frame, the pending SEND's next payload word. -/
def execSendPayloadWord (t : Time) (d : DataFrame) (s : State) : Result := s.event t (samplePort (.data d.data d.unused))

/-- START (R188). -/
def execStart (t : Time) (f : CmdFrame) (s : State) : Result := s.event t (samplePort (.command 5 f.fields f.unused))

/-- RESTART (R190), with the straps that its sampling finds. -/
def execRestart (t : Time) (f : CmdFrame) (st : Straps) (s : State) : Result :=
  s.event t (sampleBits st (ServiceFrame.command 6 f.fields f.unused).bits)

/-- UNKNOWN_COMMAND (R183). -/
def execUnknownCommand (t : Time) (code : BitVec 5) (f : CmdFrame) (s : State) : Result :=
  s.event t (samplePort (.command code f.fields f.unused))

/-- STRAY_DATA_FRAME (R177): a data frame with no command pending. -/
def execStrayDataFrame (t : Time) (d : DataFrame) (s : State) : Result := s.event t (samplePort (.data d.data d.unused))

end Sys2Proof.Machine
end

