-- ==== Sys2Proof/Machine/LineCommands.lean ====
section
/-! DEFINITION. The meanings of the cue line's commands: frames received, line events, the transmitter and its timers (01). -/

namespace Sys2Proof.Machine
open Sys2Proof

/-- A frame of another station completes (R4, R5). -/
def frameEvent (t : Time) (sender : BitVec 5) (effect : State → State) (s : State) : Result :=
  s.event t (receiveFrame sender effect)

/-- BEACON_FRAME (R42, R43). -/
def execBeaconFrame (t stamp : Time) (sender : BitVec 5) (p : Beacon) (s : State) : Result :=
  frameEvent t sender (applyBeacon sender p stamp) s

/-- CUEHEAD_FRAME (R82, R83). -/
def execCueheadFrame (t _stamp : Time) (sender : BitVec 5) (p : CueHead) (s : State) : Result :=
  frameEvent t sender (stageHead sender p) s

/-- CUEBODY_FRAME (R84, R85). -/
def execCuebodyFrame (t _stamp : Time) (sender : BitVec 5) (p : CueBody) (s : State) : Result :=
  frameEvent t sender (takeBody sender p) s

/-- ARM (R106). -/
def execArm (t _stamp : Time) (sender : BitVec 5) (p : ControlArgs) (s : State) : Result :=
  frameEvent t sender (applyControl sender 0 p) s

/-- ARMREEL (R107). -/
def execArmreel (t _stamp : Time) (sender : BitVec 5) (p : ControlArgs) (s : State) : Result :=
  frameEvent t sender (applyControl sender 1 p) s

/-- DISARM (R108). -/
def execDisarm (t _stamp : Time) (sender : BitVec 5) (p : ControlArgs) (s : State) : Result :=
  frameEvent t sender (applyControl sender 2 p) s

/-- DISARMALL (R108). -/
def execDisarmall (t _stamp : Time) (sender : BitVec 5) (p : ControlArgs) (s : State) : Result :=
  frameEvent t sender (applyControl sender 3 p) s

/-- DROP (R93, R96, R97). -/
def execDrop (t _stamp : Time) (sender : BitVec 5) (p : ControlArgs) (s : State) : Result :=
  frameEvent t sender (applyControl sender 4 p) s

/-- DROPREEL (R94, R96, R97). -/
def execDropreel (t _stamp : Time) (sender : BitVec 5) (p : ControlArgs) (s : State) : Result :=
  frameEvent t sender (applyControl sender 5 p) s

/-- DROPALL (R95, R96, R97). -/
def execDropall (t _stamp : Time) (sender : BitVec 5) (p : ControlArgs) (s : State) : Result :=
  frameEvent t sender (applyControl sender 6 p) s

/-- MODE (R109). -/
def execMode (t _stamp : Time) (sender : BitVec 5) (p : ControlArgs) (s : State) : Result :=
  frameEvent t sender (applyControl sender 7 p) s

/-- WRAP (R29). -/
def execWrap (t _stamp : Time) (sender : BitVec 5) (p : ControlArgs) (s : State) : Result :=
  frameEvent t sender (applyControl sender 8 p) s

/-- ATTENTION (R200). -/
def execAttention (t _stamp : Time) (sender : BitVec 5) (p : ControlArgs) (s : State) : Result :=
  frameEvent t sender (applyControl sender 9 p) s

/-- CONTROL_UNKNOWN (R196). -/
def execControlUnknown (t _stamp : Time) (sender : BitVec 5) (op : BitVec 4) (p : ControlArgs) (s : State) : Result :=
  frameEvent t sender (applyControl sender op p) s

/-- PUNCH_IN_FRAME (R140). -/
def execPunchInFrame (t _stamp : Time) (sender : BitVec 5) (p : PunchArgs) (s : State) : Result :=
  frameEvent t sender (applyPunch sender edgeIn p) s

/-- PUNCH_OUT_FRAME (R141). -/
def execPunchOutFrame (t _stamp : Time) (sender : BitVec 5) (p : PunchArgs) (s : State) : Result :=
  frameEvent t sender (applyPunch sender edgeOut p) s

/-- MARK_FRAME (R173). -/
def execMarkFrame (t _stamp : Time) (sender : BitVec 5) (p : Mark) (s : State) : Result :=
  frameEvent t sender (peerMark sender p) s

/-- STATUS_FRAME (R20, R204). -/
def execStatusFrame (t stamp : Time) (sender : BitVec 5) (p : Status) (s : State) : Result :=
  frameEvent t sender (peerStatus sender p stamp) s

/-- OWN_NUMBER_FRAME (R15, R16, R17). -/
def execOwnNumberFrame (t : Time) (s : State) : Result := s.event t ownNumberHeard

/-- LINE_CHECK (R4). -/
def execLineCheck (t : Time) (f : FailedFrame) (s : State) : Result := s.event t (checkFailed f)

/-- FRAMING_VIOLATION (R3). -/
def execFramingViolation (t : Time) (s : State) : Result := s.event t dominantBit

/-- BAD_CLASS_OR_SENDER (R4). -/
def execBadClassOrSender (t : Time) (header : Option (BitVec 3 × BitVec 5)) (s : State) : Result := s.event t (badHeader header)

/-- RECEIVER_READY (R3). -/
def execReceiverReady (t : Time) (s : State) : Result := s.event t receiverLocks

/-- TRANSMIT_START (R7, R12, R13). -/
def execTransmitStart (t : Time) (s : State) : Result := s.event t startFrame

/-- LOST_ARBITRATION (R8). -/
def execLostArbitration (t : Time) (s : State) : Result := s.event t loseArbitration

/-- OWN_BIT_ERROR (R9). -/
def execOwnBitError (t : Time) (s : State) : Result := s.event t bitError

/-- TRANSMIT_COMPLETE (R6, R10, R19). -/
def execTransmitComplete (t : Time) (s : State) : Result := s.event t completeFrame

/-- JOIN_LISTEN_EXPIRY (R15). -/
def execJoinListenExpiry (t : Time) (s : State) : Result := s.event t joinExpiry

/-- STATUS_SPACING_EXPIRY (R19). -/
def execStatusSpacingExpiry (t : Time) (s : State) : Result := s.event t spacingExpiry

end Sys2Proof.Machine
end

