-- ==== Sys2Proof/Machine/EventCommands.lean ====
section
/-! DEFINITION. The meanings of the tach, timer, picture and key commands. A timer's row acts when its timer has reached its
deadline (log entry 3). -/

namespace Sys2Proof.Machine
open Sys2Proof

/-- An edge of a pin at `t`: while RESETN is active only the pin changes (R191, log entry 24). -/
def State.pinEvent (t : Time) (pin : Levels → Levels) (f : State → State) (s : State) : Result :=
  .next (if s.resetActive then (s.advance t).modPins pin else f (s.advance t))

/-! ## Tach channels -/

/-- TACH_EDGE (R23). -/
def execTachEdge (t : Time) (c : Chan) (line : TachLine) (level : Bool) (s : State) : Result :=
  s.pinEvent t (fun p => setPin p c line level) (tachChange c line level)

/-- INDEX_PULSE (R35). -/
def execIndexPulse (t : Time) (c : Chan) (level : Bool) (s : State) : Result :=
  s.pinEvent t (fun p => setIndexPin p c level) (indexChange c level)

/-- TACH_STALL_EXPIRY (R27). -/
def execTachStallExpiry (t : Time) (c : Chan) (s : State) : Result :=
  s.event t fun s => guarded (expired s.timebase (s.chan c).stall) (stallChannel c) s

/-! ## Tracker, scheduler, tone -/

/-- SOURCE_AGING_EXPIRY (R44). -/
def execSourceAgingExpiry (t : Time) (sender : BitVec 5) (s : State) : Result :=
  s.event t fun s =>
    guarded ((s.ptr.remote sender.toNat).any fun e => expired s.timebase e.aging) (ageSource sender.toNat) s

/-- HOLD_BEACON_TIMER_EXPIRY (R49). -/
def execHoldBeaconTimerExpiry (t : Time) (s : State) : Result :=
  s.event t fun s =>
    match s.settings.picture with
    | some c => guarded (expired s.timebase s.ptr.holdTimer && decide ((s.chan c).motion = .stopped)) (holdTimerExpiry c) s
    | none => s

/-- ELEMENT_TIMER_EXPIRY (R114): the first listed element whose fire time is reached leaves the list and fires on time. -/
def execElementTimerExpiry (t : Time) (s : State) : Result :=
  s.event t fun s =>
    match headExpired s with
    | some d => fireElement s.here d.entry d.element (unlist d.entry d.element s)
    | none => s

/-- TONE_GATE_END (R139). -/
def execToneGateEnd (t : Time) (s : State) : Result :=
  s.event t fun s =>
    guarded (s.cou.gate.any fun g => reached s.timebase g.finish) (fun s => s.modCou fun c => { c with gate := none }) s

/-! ## Overlay -/

/-- VSYNC_EDGE (R154): the ended field is taken, then the back list is built. -/
def execVsyncEdge (t : Time) (lines : Nat) (pixels : List Nat) (s : State) : Result :=
  s.event t fun s => buildList (endField (measureField lines pixels) s)

/-- FRONT_LIST_SWAP (R155). -/
def execFrontListSwap (t : Time) (s : State) : Result := s.event t swapLists

/-- SIGNAL_WATCH_EXPIRY (R146). -/
def execSignalWatchExpiry (t : Time) (s : State) : Result :=
  s.event t fun s => guarded (expired s.timebase s.ovl.watch) loseSignal s

/-! ## Key -/

/-- MARKN_FALLING_EDGE (R165, R166). -/
def execMarknFallingEdge (t : Time) (s : State) : Result :=
  s.pinEvent t (fun p => { p with markn := false }) (marknChange false)

/-- MARKN_RISING_EDGE (R165, R166). -/
def execMarknRisingEdge (t : Time) (s : State) : Result :=
  s.pinEvent t (fun p => { p with markn := true }) (marknChange true)

/-- KEY_DEBOUNCE_EXPIRY (R165, R166). -/
def execKeyDebounceExpiry (t : Time) (s : State) : Result :=
  s.event t fun s => guarded (expired s.timebase s.mkl.timer) keyExpiry s

end Sys2Proof.Machine
end

