-- ==== Sys2Proof/Machine/Dispatch.lean ====
section
/-! DEFINITION. The dispatch: one arm per command. -/

namespace Sys2Proof.Machine
open Sys2Proof

def exec (i : Instr) (s : State) : Host.Outcome State Fault Refusal :=
  match i with
  | .fullReset t straps levels => Sys2Proof.Machine.execFullReset t straps levels s
  | .idleFrame t => Sys2Proof.Machine.execIdleFrame t s
  | .resynchronise t => Sys2Proof.Machine.execResynchronise t s
  | .read t f => Sys2Proof.Machine.execRead t f s
  | .markRecordTake t => Sys2Proof.Machine.execMarkRecordTake t s
  | .write t f => Sys2Proof.Machine.execWrite t f s
  | .writeConfig t d => Sys2Proof.Machine.execWriteConfig t d s
  | .writeAlertEnable t d => Sys2Proof.Machine.execWriteAlertEnable t d s
  | .writeAlertPending t d => Sys2Proof.Machine.execWriteAlertPending t d s
  | .writeFault t d => Sys2Proof.Machine.execWriteFault t d s
  | .writeDataOther t d => Sys2Proof.Machine.execWriteDataOther t d s
  | .watch t f => Sys2Proof.Machine.execWatch t f s
  | .nop t f => Sys2Proof.Machine.execNop t f s
  | .send t cls index word => Sys2Proof.Machine.execSend t cls index word s
  | .sendPayloadWord t d => Sys2Proof.Machine.execSendPayloadWord t d s
  | .start t f => Sys2Proof.Machine.execStart t f s
  | .restart t f straps => Sys2Proof.Machine.execRestart t f straps s
  | .unknownCommand t code f => Sys2Proof.Machine.execUnknownCommand t code f s
  | .strayDataFrame t d => Sys2Proof.Machine.execStrayDataFrame t d s
  | .beaconFrame t stamp sender p => Sys2Proof.Machine.execBeaconFrame t stamp sender p s
  | .cueheadFrame t stamp sender p => Sys2Proof.Machine.execCueheadFrame t stamp sender p s
  | .cuebodyFrame t stamp sender p => Sys2Proof.Machine.execCuebodyFrame t stamp sender p s
  | .arm t stamp sender p => Sys2Proof.Machine.execArm t stamp sender p s
  | .armreel t stamp sender p => Sys2Proof.Machine.execArmreel t stamp sender p s
  | .disarm t stamp sender p => Sys2Proof.Machine.execDisarm t stamp sender p s
  | .disarmall t stamp sender p => Sys2Proof.Machine.execDisarmall t stamp sender p s
  | .drop t stamp sender p => Sys2Proof.Machine.execDrop t stamp sender p s
  | .dropreel t stamp sender p => Sys2Proof.Machine.execDropreel t stamp sender p s
  | .dropall t stamp sender p => Sys2Proof.Machine.execDropall t stamp sender p s
  | .mode t stamp sender p => Sys2Proof.Machine.execMode t stamp sender p s
  | .wrap t stamp sender p => Sys2Proof.Machine.execWrap t stamp sender p s
  | .attention t stamp sender p => Sys2Proof.Machine.execAttention t stamp sender p s
  | .controlUnknown t stamp sender op p => Sys2Proof.Machine.execControlUnknown t stamp sender op p s
  | .punchInFrame t stamp sender p => Sys2Proof.Machine.execPunchInFrame t stamp sender p s
  | .punchOutFrame t stamp sender p => Sys2Proof.Machine.execPunchOutFrame t stamp sender p s
  | .markFrame t stamp sender p => Sys2Proof.Machine.execMarkFrame t stamp sender p s
  | .statusFrame t stamp sender p => Sys2Proof.Machine.execStatusFrame t stamp sender p s
  | .ownNumberFrame t => Sys2Proof.Machine.execOwnNumberFrame t s
  | .lineCheck t f => Sys2Proof.Machine.execLineCheck t f s
  | .framingViolation t => Sys2Proof.Machine.execFramingViolation t s
  | .badClassOrSender t header => Sys2Proof.Machine.execBadClassOrSender t header s
  | .transmitStart t => Sys2Proof.Machine.execTransmitStart t s
  | .lostArbitration t => Sys2Proof.Machine.execLostArbitration t s
  | .ownBitError t => Sys2Proof.Machine.execOwnBitError t s
  | .transmitComplete t => Sys2Proof.Machine.execTransmitComplete t s
  | .joinListenExpiry t => Sys2Proof.Machine.execJoinListenExpiry t s
  | .statusSpacingExpiry t => Sys2Proof.Machine.execStatusSpacingExpiry t s
  | .tachEdge t ch line level => Sys2Proof.Machine.execTachEdge t ch line level s
  | .indexPulse t ch level => Sys2Proof.Machine.execIndexPulse t ch level s
  | .tachStallExpiry t ch => Sys2Proof.Machine.execTachStallExpiry t ch s
  | .sourceAgingExpiry t sender => Sys2Proof.Machine.execSourceAgingExpiry t sender s
  | .holdBeaconTimerExpiry t => Sys2Proof.Machine.execHoldBeaconTimerExpiry t s
  | .elementTimerExpiry t => Sys2Proof.Machine.execElementTimerExpiry t s
  | .toneGateEnd t => Sys2Proof.Machine.execToneGateEnd t s
  | .vsyncEdge t lines pixels => Sys2Proof.Machine.execVsyncEdge t lines pixels s
  | .frontListSwap t => Sys2Proof.Machine.execFrontListSwap t s
  | .signalWatchExpiry t => Sys2Proof.Machine.execSignalWatchExpiry t s
  | .marknFallingEdge t => Sys2Proof.Machine.execMarknFallingEdge t s
  | .marknRisingEdge t => Sys2Proof.Machine.execMarknRisingEdge t s
  | .keyDebounceExpiry t => Sys2Proof.Machine.execKeyDebounceExpiry t s
  | .receiverReady t => Sys2Proof.Machine.execReceiverReady t s
  | .resetnDrivenActive t => Sys2Proof.Machine.execResetnDrivenActive t s

end Sys2Proof.Machine
end

