-- ==== Sys2Proof/Machine/Step.lean ====
section
/-! DEFINITION. One step of the part: the command at the front of the queue, or the passing of time. -/

namespace Sys2Proof.Machine
open Sys2Proof

/-- One microsecond passes with no command waiting (DESIGN CHOICE, log entry 2): one bit time of a recessive line, which a
receiver held by RESETN does not count. -/
def State.tick (s : State) : State := s.advance (s.timebase + 1)

/-- The command at the front of the queue is taken off and executed; on an empty queue time passes (log entries 2 and 34). -/
def step (s : State) : Host.Outcome State Fault Refusal :=
  match s.pending with
  | [] => .next s.tick
  | i :: rest => exec i { s with pending := rest }

/-- `s` with the command that the word spells at the front of its queue; unchanged where the word spells none. -/
def State.withFetchWord (s : State) (nbits w : Nat) : State :=
  match decodeTableWord nbits w with
  | some i => { s with pending := i :: s.pending }
  | none => s

end Sys2Proof.Machine
end

