-- ==== Sys2Proof/Safety.lean ====
section
/-! DEFINITION. What holds of the part between commands: the invariants, block by block, that the rules' prose states. Each is
kept by every step from every state that has it, reached or not. -/

namespace Sys2Proof.Machine
open Sys2Proof

/-! ## Sizes and ranges -/

/-- A channel's counts and its frame counter are in range (R23, R26, R30, R36). -/
def Channel.sized (c : Channel) : Bool :=
  frameInRange c.frame && decide (c.fwd < 65536) && decide (c.rev < 65536) && decide (c.glitches < 65536) && decide (c.slips ≤ 255)

/-- A lock's error and runs are in range (R66, R69, R70). -/
def Lock.sized (l : Lock) : Bool := decide (l.err.natAbs ≤ 32767) && decide (l.good ≤ 255) && decide (l.bad ≤ 255)

/-- A channel's unit counter is at most 255, lies below U while index use is OFF, and is 0 before START (R21, R33 to R35, R40). -/
def Channel.unitOk (c : Channel) (g : ChanSettings) (config : Bool) : Bool :=
  decide (g.units ≤ 255) && decide (c.unit ≤ 255) && (g.index || decide (c.unit < max 1 g.units)) && (!config || decide (c.unit = 0))

/-- Every store holds at most what the spec gives it (R11, R20, R43, R78, R82, R113, R140, R158, R171, R192; 10 Table 10-1). -/
def State.sized (s : State) : Bool :=
  decide (s.clp.queue.length ≤ Config.queueSize) && decide (s.clp.peers.length = Config.peerCount) &&
  decide (s.ptr.sources.length = Config.sourceCount) && decide (s.ctb.entries.length = Config.cueCount) &&
  decide (s.ctb.staging.length ≤ Config.stageSize) && decide (s.ctb.pointer < Config.cueCount) &&
  decide (s.csh.due.length ≤ Config.dueSize) && decide (s.csh.late ≤ 65535) && decide (s.cou.holds.length = 4) &&
  decide (s.cou.tally.length ≤ Config.tallySize) && decide (s.ovl.front.streamers.length ≤ Config.streamerMax) &&
  decide (s.ovl.back.streamers.length ≤ Config.streamerMax) && decide (s.mkl.log.length ≤ Config.logSize) &&
  decide (s.svc.sampled.length < 32) && decide (s.svc.ones < 64) && decide (s.svc.sack ≤ 2) &&
  decide (s.flt.counts.length = 21) && (s.flt.counts.all fun n => decide (n ≤ 255)) && decide (s.clp.rxCount ≤ 11) &&
  s.chA.sized && s.chB.sized && s.lockA.sized && s.lockB.sized &&
  s.chA.unitOk s.settings.a (decide (s.clp.line = .config)) && s.chB.unitOk s.settings.b (decide (s.clp.line = .config)) &&
  (s.ctb.entries.filterMap id).all fun e => decide (e.run.takes ≤ 255) && decide (e.run.passes ≤ 255)

/-! ## The cue line -/

/-- Nothing is queued, waiting or timed in the transmitter. -/
def Clp.silent (c : Clp) : Bool :=
  c.queue.isEmpty && c.slot.isNone && c.inFlight.isNone && c.joinTimer.isNone && c.spacingTimer.isNone && !c.statusDue

/-- The frame in flight is the copy of what stands at the head of its store, a beacon with its age written in, unless a newer beacon
has taken the slot (R7, R12). -/
def Clp.inFlightOk (c : Clp) : Bool :=
  match c.inFlight with
  | none => true
  | some f =>
    match f.source with
    | .queue =>
      match c.queue.head? with
      | none => false
      | some .status => match f.frame with
        | .status _ => true
        | _ => false
      | some (.frame g) => decide (f.frame = g) && (match g with
        | .status _ => false
        | _ => true)
    | .slot replaced =>
      match c.slot, f.frame with
      | some b, .beacon p => replaced || decide ({ p with age := 0 } = { b.beacon with age := 0 })
      | _, _ => false

/-- What stands in the transmitter in each line state (R11, R12, R14, R17 to R19). -/
def State.lineOk (s : State) : Bool :=
  (match s.clp.line with
    | .config | .duplicate => s.clp.silent
    | .joining => s.clp.slot.isNone && s.clp.inFlight.isNone && s.clp.spacingTimer.isNone && !s.clp.statusDue &&
        !s.clp.queue.contains .status
    | .active => true) &&
  decide (s.clp.queue.count .status ≤ 1) &&
  (s.clp.spacingTimer.isNone || !s.clp.queue.contains .status) &&
  (s.clp.queue.all fun q => match q with
    | .frame (.status _) => false
    | _ => true) &&
  s.clp.inFlightOk &&
  (match s.svc.pending with
    | .send cls _ _ => decide (cls.toNat < 6)
    | _ => true)

/-! ## Runs, tally, cues -/

/-- Some entry of the table is RUNNING. -/
def State.anyRunning (s : State) : Bool := s.ctb.entries.any fun o => o.any fun e => decide (e.run.state = .running)

/-- The tally set holds entries only while the reference runs forward, and only a TRACKING reference with a chosen source moves
(R51, R52, R140, R142). -/
def State.tallyOk (s : State) : Bool :=
  (s.cou.tally.isEmpty || decide (s.ptr.motion = .forward)) &&
  (decide (s.ptr.motion = .stopped) || decide (s.ptr.state = .tracking)) &&
  (decide (s.ptr.state ≠ .tracking) || s.ptr.chosen.isSome)

/-- No two VALID entries share reel tag and cue id; the staging set keeps one header a sender, with a cue id (R78, R82). -/
def State.cuesOk (s : State) : Bool :=
  decide (s.ctb.entries.length = Config.cueCount) &&
  decide (((s.ctb.entries.filterMap id).map fun e => e.cue.name).Nodup) &&
  decide ((s.ctb.staging.map fun x => x.sender).Nodup) && decide (s.ctb.staging.length ≤ Config.stageSize) &&
  s.ctb.staging.all fun x => decide (x.head.id ≠ 0)

/-! ## Overlay, key, locks, faults -/

/-- The overlay's raster state and what it holds agree (R146 to R148, R154, R158). -/
def Ovl.ok (o : Ovl) : Bool :=
  (match o.raster with
    | .noSignal => o.watch.isNone && o.settled.isNone && decide (o.front = .empty) && decide (o.back = .empty)
    | .acquiring => o.watch.isSome && o.settled.isNone && decide (o.run.count < 4)
    | .stable => o.watch.isSome && o.settled.isSome
    | .mismatch => o.watch.isSome && o.settled.isSome && o.frozen.isSome) &&
  (o.frozen.isSome || (decide (o.front = .empty) && decide (o.back = .empty)))

/-- A latch stands exactly in PRESSING, and the debounce timer runs exactly in PRESSING and RELEASING (R165, R166). -/
def Mkl.ok (m : Mkl) : Bool :=
  decide (m.latch.isSome = decide (m.key = .pressing)) &&
  decide (m.timer.isSome = (decide (m.key = .pressing) || decide (m.key = .releasing)))

/-- The lock of a channel that does not count with role RECORD stays at its reset values (R65, R77). -/
def State.locksOk (s : State) : Bool :=
  (s.lockActs .a || decide (s.lockA = .reset)) && (s.lockActs .b || decide (s.lockB = .reset))

/-- There is a count of each kind, in its range, and the more flag stands only with a record (R192). -/
def Flt.ok (f : Flt) : Bool :=
  decide (f.counts.length = 21) && (f.counts.all fun n => decide (n ≤ 255)) && (!f.more || f.first.isSome)

/-! ## Channels, sources, configuration -/

/-- A channel's motion is never FAST, its stall timer runs exactly while it moves, and it moves in its last unit direction (R26,
R27). -/
def Channel.motionOk (c : Channel) : Bool :=
  match c.motion with
  | .stopped => c.stall.isNone
  | .forward => c.stall.isSome && decide (c.lastDir = some true)
  | .reverse => c.stall.isSome && decide (c.lastDir = some false)
  | .fast => false

/-- The source list holds one entry a sender, the LOCAL one under the own number and without an aging timer, and while it is
not empty the reference is TRACKING its preferred entry (R41, R43 to R45, R50, R51). -/
def State.sourcesOk (s : State) : Bool :=
  let l := s.ptr.sources.filterMap id
  (decide (s.clp.line ≠ .config) || l.isEmpty) &&
  decide ((l.map fun e => e.sender).Nodup) &&
  (l.all fun e => if e.isLocal then decide (e.sender = s.own.toNat) && e.aging.isNone else decide (e.sender ≠ s.own.toNat) && e.aging.isSome) &&
  decide (s.ptr.chosen = (leastBy Source.before l).map fun e => e.sender) &&
  decide ((s.ptr.state = .tracking) = !l.isEmpty)

/-- The settings are in their working ranges (R22, R65, R138, R151). -/
def Settings.working (g : Settings) : Bool :=
  decide (8 ≤ g.tolerance ∧ g.tolerance ≤ 128) && decide (10 ≤ g.beepMs ∧ g.beepMs ≤ 250) &&
  decide (400 ≤ g.pitch ∧ g.pitch ≤ 2000 ∧ g.pitch % 10 = 0) && decide (1 ≤ g.streamerWidth ∧ g.streamerWidth ≤ 16) &&
  !(decide (g.a.role = .picture) && decide (g.b.role = .picture)) &&
  !(decide (g.a.role = .record) && decide (g.b.role = .record) && decide (g.a.group = g.b.group)) &&
  (!g.programmed || (
    let h := g.geometry
    decide (64 ≤ h.total ∧ h.total ≤ 4095) && decide (16 ≤ h.lines ∧ h.lines ≤ 2047) && decide (32 ≤ h.width ∧ h.start + h.width ≤ h.total) &&
    decide (8 ≤ h.active ∧ h.active < h.lines) && decide (1 ≤ h.first ∧ h.first + h.active ≤ h.lines)))

/-- From START on the settings are in their working ranges (R186, R188). -/
def State.workingOk (s : State) : Bool := decide (s.clp.line = .config) || s.settings.working

/-- While RESETN is active every block stands at its full reset values (R191). -/
def State.heldOk (s : State) : Bool := !s.resetActive || decide (s = holdReset s)

/-! ## Outputs -/

/-- Entries of the table whose run is RUNNING and that satisfy `p`. -/
def State.runningCount (s : State) (p : CueEntry → Bool) : Nat :=
  (s.ctb.entries.filterMap id).countP fun e => decide (e.run.state = .running) && p e

/-- Every listed element is a pending one at its own position, in the frame of the reference's newest record, which is a forward
one; and nothing is listed while the reference is not playable (R104, R110, R113, R114, R126). -/
def State.dueOk (s : State) : Bool :=
  s.csh.due.isEmpty ||
    (s.ptr.playable &&
      match s.ptr.recNew with
      | none => false
      | some r => decide (r.dir = .forward) && s.csh.due.all fun d => inFrame r.b d.pos &&
          (s.entry d.entry).any fun e => pendingElement s.settings e d.element && decide (d.pos = elementPos s.settings e.cue d.element))

/-- An ARMED cue has fired nothing, and a RUNNING one holds open only what it has fired (R104, R106, R117 to R121). -/
def RunPart.ok (r : RunPart) : Bool :=
  (decide (r.state ≠ .armed) || decide (r.fired = 0)) &&
  (decide (r.state ≠ .running) ||
    ((!r.punchOpen || r.fired.getLsbD Element.punchIn.code) && (!r.lightOpen || r.fired.getLsbD Element.lightOn.code)))

/-- Nothing runs and nothing is listed. -/
def State.quiet (s : State) : Bool := !s.anyRunning && s.csh.due.isEmpty

/-- A punch line counts the open punches of its RUNNING cues, and counts any only in RECORD with its channel's lock in SYNC; a cue
light counts the open lights of the RUNNING cues at its position; a cue is RUNNING only while the reference is playable, and
nothing runs before START or once the duplicate notice has released the outputs (R61, R75, R76, R109, R120, R123, R126, R127, R131, R136, R143). -/
def State.outputsOk (s : State) : Bool :=
  decide (s.ctb.entries.length = Config.cueCount) && (decide (s.clp.line ≠ .config) || s.quiet) &&
  decide (s.cou.released = s.csh.halted) && (!s.csh.halted || s.quiet) &&
  decide (s.ptr.playable = s.ptr.isPlayable) && (!s.anyRunning || s.ptr.playable) && s.chA.motionOk && s.chB.motionOk &&
  ((s.ctb.entries.filterMap id).all fun e => e.run.ok) && s.dueOk &&
  decide (s.cou.punchA = s.runningCount fun e => e.run.punchOpen && decide (s.settings.recorder e.cue.group = some .a)) &&
  decide (s.cou.punchB = s.runningCount fun e => e.run.punchOpen && decide (s.settings.recorder e.cue.group = some .b)) &&
  (decide (s.cou.punchA = 0) || decide (s.csh.mode = .record ∧ s.lockA.state = .sync)) &&
  (decide (s.cou.punchB = 0) || decide (s.csh.mode = .record ∧ s.lockB.state = .sync)) &&
  decide (s.cou.holds = s.settings.served.map fun p => s.runningCount fun e => e.run.lightOpen && e.cue.mask.getLsbD p)

/-! ## The words of the statements -/

/-- The moment of a command (log entry 1). -/
def momentOf : Instr → Time
  | .fullReset t _ _ | .idleFrame t | .resynchronise t | .read t _ | .markRecordTake t | .write t _ | .writeConfig t _
  | .writeAlertEnable t _ | .writeAlertPending t _ | .writeFault t _ | .writeDataOther t _ | .watch t _ | .nop t _
  | .send t _ _ _ | .sendPayloadWord t _ | .start t _ | .restart t _ _ | .unknownCommand t _ _ | .strayDataFrame t _
  | .beaconFrame t _ _ _ | .cueheadFrame t _ _ _ | .cuebodyFrame t _ _ _ | .arm t _ _ _ | .armreel t _ _ _ | .disarm t _ _ _
  | .disarmall t _ _ _ | .drop t _ _ _ | .dropreel t _ _ _ | .dropall t _ _ _ | .mode t _ _ _ | .wrap t _ _ _
  | .attention t _ _ _ | .controlUnknown t _ _ _ _ | .punchInFrame t _ _ _ | .punchOutFrame t _ _ _ | .markFrame t _ _ _
  | .statusFrame t _ _ _ | .ownNumberFrame t | .lineCheck t _ | .framingViolation t | .badClassOrSender t _ | .transmitStart t
  | .lostArbitration t | .ownBitError t | .transmitComplete t | .joinListenExpiry t | .statusSpacingExpiry t | .tachEdge t _ _ _
  | .indexPulse t _ _ | .tachStallExpiry t _ | .sourceAgingExpiry t _ | .holdBeaconTimerExpiry t | .elementTimerExpiry t
  | .toneGateEnd t | .vsyncEdge t _ _ | .frontListSwap t | .signalWatchExpiry t | .marknFallingEdge t | .marknRisingEdge t
  | .keyDebounceExpiry t | .receiverReady t | .resetnDrivenActive t => t

/-- The two commands that sample the straps (R187). -/
def samplesStraps : Instr → Bool
  | .fullReset _ _ _ => true
  | .restart _ _ _ => true
  | _ => false

/-- A frame of the sender takes effect (R4, R5): RESETN is inactive, the receiver has framing, the line state is JOINING or
ACTIVE, and the sender is another numbered station. -/
def State.takes (s : State) (sender : BitVec 5) : Prop :=
  s.resetActive = false ∧ s.clp.rx ≠ .hunt ∧ s.listening = true ∧ sender.toNat < 24 ∧ sender ≠ s.own

/-- `s` at the moment `t` as a frame completes: the receiver is in READY with its count at 0 (R4). -/
def State.heard (s : State) (t : Time) : State :=
  { s with timebase := t, clp := { s.clp with rx := .ready, rxCount := 0 } }

/-- The ones count after bits, one after another (R176). -/
def onesAfter (n : Nat) (l : List Bool) : Nat := l.foldl onesNext n

/-- The ones count reaches 64 at one of the bits (R176). -/
def runs64 (n : Nat) : List Bool → Bool
  | [] => false
  | b :: l => decide (64 ≤ onesNext n b) || runs64 (onesNext n b) l

/-- The next 32 bits are taken as the frame `fr` (R175, R176): RESETN is inactive, the framing position is 0, the frame is no idle
frame, and no run of 64 ones ends within it. -/
def State.portTakes (s : State) (fr : ServiceFrame) : Prop :=
  s.resetActive = false ∧ s.svc.sampled = [] ∧ false ∈ fr.bits ∧ runs64 s.svc.ones fr.bits = false

/-- The port takes the command frame `fr` as its command (R177): besides, nothing is pending. -/
def State.portFree (s : State) (fr : ServiceFrame) : Prop := s.portTakes fr ∧ s.svc.pending = .none

/-- `s` with the port as a frame that began at a framing position of 0 leaves it (R175, R176, R178): what is pending, the watch and
the capture buffer, and the answer to the frame. -/
def State.answered (s : State) (fr : ServiceFrame) (pending : PendingCmd) (watch : Option CmdFields) (capture : Option Capture)
    (data : DataWord) (refused : Bool) : State :=
  { s with
    svc := { sampled := [], ones := onesAfter s.svc.ones fr.bits, pending := pending, watch := watch, capture := capture,
             response := { data := data, line := s.clp.line, alert := s.alertActive, refusal := refused },
             sack := if refused then 2 else 1 } }

/-- The part just out of a full reset at `t` with these straps and levels, before AUTOSTART (R191): the free-value counter and
the queue of commands are the model's own and stay. -/
def State.freshPart (s : State) (t : Time) (st : Straps) (levels : Levels) : State :=
  { State.reset with
    timebase := t, pins := levels, straps := st, settings := .default st.station, freeCount := s.freeCount, pending := s.pending }

/-- The part just out of a RESTART with these straps, but for the port: the configuration, the fault record, the counts and the
enable set stay, and of the causes FAULT alone (R190, R201). -/
def State.restarted (s : State) (st : Straps) : State :=
  { s with
    straps := st, clp := .reset, chA := .reset, chB := .reset, ptr := .reset, lockA := .reset, lockB := .reset, ctb := .reset,
    csh := .reset, cou := .reset, ovl := .reset, mkl := .reset, flt := { s.flt with causes := s.flt.causes &&& causeFault } }

/-- Fault and Alert after a fault with the record `r` (R192): the count of its kind, the record when there was none, else the
more flag, and the FAULT cause. -/
def Flt.recorded (f : Flt) (r : FaultRec) : Flt :=
  { f with
    counts := f.counts.set (r.kind.code - 1) (if f.counts.getD (r.kind.code - 1) 0 < 255 then f.counts.getD (r.kind.code - 1) 0 + 1 else f.counts.getD (r.kind.code - 1) 0)
    first := match f.first with
      | none => some r
      | some x => some x
    more := f.more || f.first.isSome
    causes := f.causes ||| causeFault }

/-- The input pins after a command, whatever the part does: an edge row sets its pin. -/
def pinsAfter : Instr → Levels → Levels
  | .tachEdge _ c line level, p => setPin p c line level
  | .indexPulse _ c level, p => setIndexPin p c level
  | .marknFallingEdge _, p => { p with markn := false }
  | .marknRisingEdge _, p => { p with markn := true }
  | .fullReset _ _ levels, _ => levels
  | _, p => p

/-- The stored range of a CONFIG word that may be written (10 Table 10-4). -/
def storedRange (word : Nat) : Int × Int :=
  if word = 3 ∨ word = 11 ∨ word = 12 ∨ word = 20 then (0, 2)
  else if word = 4 ∨ word = 13 then (0, 15)
  else if word = 5 ∨ word = 8 ∨ word = 14 ∨ word = 17 ∨ word = 28 ∨ word = 29 then (0, 1)
  else if word = 6 ∨ word = 15 ∨ word = 21 ∨ word = 36 then (0, 255)
  else if word = 7 ∨ word = 16 ∨ word = 26 then (0, 1000)
  else if word = 9 ∨ word = 18 then (-9999, 9999)
  else if word = 10 ∨ word = 19 then (-255, 255)
  else if word = 22 ∨ word = 23 ∨ word = 24 ∨ word = 25 then (0, 16)
  else (0, 4095)

/-- The value a data word has for a CONFIG word: two's complement for the signed words (R205). -/
def storedValue (word : Nat) (d : DataWord) : Int :=
  if word = 9 ∨ word = 10 ∨ word = 18 ∨ word = 19 then d.toInt else d.toNat

/-- The data lies within the stored range of the CONFIG word. -/
def inStoredRange (word : Nat) (d : DataWord) : Prop :=
  (storedRange word).1 ≤ storedValue word d ∧ storedValue word d ≤ (storedRange word).2

/-- A word that may be written: the settings while the line state is CONFIG, the FAULT view, the two sets of the ALERT view
(R180, R184, R199). -/
def State.writable (s : State) (f : CmdFields) : Prop :=
  wordExists f = true ∧
    (f.view = 0 ∧ s.clp.line = .config ∧ 3 ≤ f.word.toNat ∨ f.view = 8 ∨ f.view = 9 ∧ f.word.toNat < 2)

/-- The transmitter after a status change (R18): nothing outside ACTIVE; a queued STATUS frame carries the change; one in flight
or a running spacing timer defers it; else a STATUS frame joins the queue. -/
def Clp.statusChanged (c : Clp) : Clp :=
  if c.line ≠ .active then c
  else if .status ∈ c.queue ∧ c.statusInFlight = false then c
  else if c.statusInFlight = true ∨ c.spacingTimer.isSome = true then { c with statusDue := true }
  else { c with queue := c.queue ++ [.status] }

/-- No STATUS frame can be dropped: the queue has room, or the station is not ACTIVE. -/
def Clp.room (c : Clp) : Prop := c.queue.length < Config.queueSize ∨ c.line ≠ .active

/-- The data frame that a row is (R177). -/
def dataOf : Instr → Option (Time × DataWord × BitVec 15)
  | .writeConfig t d | .writeAlertEnable t d | .writeAlertPending t d | .writeFault t d | .writeDataOther t d
  | .sendPayloadWord t d | .strayDataFrame t d => some (t, d.data, d.unused)
  | _ => none

/-- The command frame that a row is: code, fields and not-used bits (R183, R205; 12 Table 12-10). -/
def commandOf : Instr → Option (Time × BitVec 5 × CmdFields × BitVec 6)
  | .nop t f => some (t, 0, f.fields, f.unused)
  | .read t f => some (t, 1, f.fields, f.unused)
  | .markRecordTake t => some (t, 1, markTakeFields, 0)
  | .write t f => some (t, 2, f.fields, f.unused)
  | .watch t f => some (t, 3, f.fields, f.unused)
  | .send t cls index word => some (t, 4, sendFields cls index word.word word.unused, word.unused.setWidth 6)
  | .start t f => some (t, 5, f.fields, f.unused)
  | .restart t f _ => some (t, 6, f.fields, f.unused)
  | .unknownCommand t code f => some (t, code, f.fields, f.unused)
  | _ => none

/-- The service frame that a row is, with its moment (R205). -/
def serviceOf : Instr → Option (Time × ServiceFrame)
  | .idleFrame t => some (t, .idle)
  | i =>
    match commandOf i, dataOf i with
    | some (t, code, f, u), _ => some (t, .command code f u)
    | none, some (t, d, u) => some (t, .data d u)
    | none, none => none

/-- The settings as START leaves them (R22, R65, R138, R151). -/
def Settings.clamped (g : Settings) : Settings :=
  let total := max 64 (min 4095 g.geometry.total)
  let lines := max 16 (min 2047 g.geometry.lines)
  let width := max 32 (min total g.geometry.width)
  let active := max 8 (min (lines - 1) g.geometry.active)
  { g with
    b := if g.a.role = .picture ∧ g.b.role = .picture ∨ g.a.role = .record ∧ g.b.role = .record ∧ g.a.group = g.b.group then
        { g.b with role := .none } else g.b
    tolerance := max 8 (min 128 g.tolerance)
    beepMs := max 10 (min 250 g.beepMs)
    pitch := max 400 (min 2000 g.pitch) / 10 * 10
    streamerWidth := max 1 (min 16 g.streamerWidth)
    geometry := if g.programmed then
        { total := total, start := min (total - width) g.geometry.start, width := width, lines := lines,
          first := max 1 (min (lines - active) g.geometry.first), active := active }
      else g.geometry }

/-- How many settings differ between two configurations of which one is the other clamped. -/
def clampCount (g h : Settings) : Nat :=
  [decide (g.b.role ≠ h.b.role), decide (g.tolerance ≠ h.tolerance), decide (g.beepMs ≠ h.beepMs), decide (g.pitch ≠ h.pitch),
   decide (g.streamerWidth ≠ h.streamerWidth), decide (g.geometry.total ≠ h.geometry.total), decide (g.geometry.lines ≠ h.geometry.lines),
   decide (g.geometry.width ≠ h.geometry.width), decide (g.geometry.start ≠ h.geometry.start),
   decide (g.geometry.active ≠ h.geometry.active), decide (g.geometry.first ≠ h.geometry.first)].count true

/-! ## The words of the statements: the cue line -/

/-- `s` at the moment `t` with the receiver in HUNT, `count` recessive bit times after the last dominant bit (R3, R4). -/
def State.hunting (s : State) (t : Time) (count : Nat) : State :=
  { s with timebase := t, clp := { s.clp with rx := .hunt, rxCount := count } }

/-- `s` with a fault recorded (R192 to R194): the count, the record or its more flag, the FAULT cause, and a status change when the
record was empty. -/
def State.faulted (s : State) (i : FaultInfo) : State :=
  { s with
    flt := s.flt.recorded
      { kind := i.kind, stamp := s.timebase, pos := if i.pos.isSome then i.pos else s.here, chan := i.chan, cue := i.cue, sender := i.sender }
    clp := if s.flt.first.isSome then s.clp else s.clp.statusChanged }

/-- A STATUS frame that a status change asks for is lost: in ACTIVE no STATUS frame is queued, in flight or deferred, and 8 frames
stand in the queue (R18). -/
def Clp.statusLost (c : Clp) : Bool :=
  decide (c.line = .active ∧ .status ∉ c.queue ∧ c.statusInFlight = false ∧ c.spacingTimer = none ∧ 8 ≤ c.queue.length)

/-- Fault and Alert after a STATUS frame was lost (R18; log entry 20): TX_OVERFLOW with the record `r`, and once more where that
fills the empty record, since the STATUS frame of this status change is lost too. -/
def Flt.overflowed (f : Flt) (r : FaultRec) : Flt := if f.first.isSome then f.recorded r else (f.recorded r).recorded r

/-- `s` with causes added to the pending set (R197). -/
def State.alerted (s : State) (causes : BitVec 6) : State := { s with flt := { s.flt with causes := s.flt.causes ||| causes } }

/-- The entry `i` is the one VALID entry with the reel tag and cue id (R78). -/
def State.isCue (s : State) (i : Nat) (reel : BitVec 6) (id : BitVec 12) : Bool :=
  decide (i < Config.cueCount) && ((s.entry i).any fun e => decide (e.cue.reel = reel ∧ e.cue.id = id)) &&
  (List.range Config.cueCount).all fun j => decide (j = i) || !((s.entry j).any fun e => decide (e.cue.reel = reel ∧ e.cue.id = id))

/-- No VALID entry has the reel tag and cue id. -/
def State.noCue (s : State) (reel : BitVec 6) (id : BitVec 12) : Bool :=
  (List.range Config.cueCount).all fun j => !((s.entry j).any fun e => decide (e.cue.reel = reel ∧ e.cue.id = id))

/-- A run part after an interruption that leaves the entry in `target` (R125); a run part that is not RUNNING is left. -/
def RunPart.interrupted (r : RunPart) (target : RunState) : RunPart :=
  if r.state = .running then
    { r with state := target, outcome := .interrupted, punch := if r.punchOpen then .aborted else r.punch, punchOpen := false, lightOpen := false }
  else r

/-- Every VALID entry's run part changed by `f`. -/
def State.withRuns (s : State) (f : CueDef → RunPart → RunPart) : List (Option CueEntry) :=
  s.ctb.entries.map fun o => o.map fun e => { e with run := f e.cue e.run }

/-- The transmitter when the frame in flight leaves its store, completed or abandoned (R9, R10, R12, R19). -/
def Clp.left (c : Clp) (f : InFlight) (t : Time) : Clp :=
  { c with
    inFlight := none
    queue := if f.source = .queue then c.queue.tail else c.queue
    slot := if f.source = .slot false then none else c.slot
    spacingTimer := match f.frame with
      | .status _ => some (later t 100000)
      | _ => c.spacingTimer }

/-- The completed frame of another station that a row is: its moment, stamp, sender and contents (R203). -/
def frameOf : Instr → Option (Time × Time × BitVec 5 × LineFrame)
  | .beaconFrame t a n p => some (t, a, n, .beacon p)
  | .cueheadFrame t a n p => some (t, a, n, .cueHead p)
  | .cuebodyFrame t a n p => some (t, a, n, .cueBody p)
  | .arm t a n p => some (t, a, n, .control 0 p)
  | .armreel t a n p => some (t, a, n, .control 1 p)
  | .disarm t a n p => some (t, a, n, .control 2 p)
  | .disarmall t a n p => some (t, a, n, .control 3 p)
  | .drop t a n p => some (t, a, n, .control 4 p)
  | .dropreel t a n p => some (t, a, n, .control 5 p)
  | .dropall t a n p => some (t, a, n, .control 6 p)
  | .mode t a n p => some (t, a, n, .control 7 p)
  | .wrap t a n p => some (t, a, n, .control 8 p)
  | .attention t a n p => some (t, a, n, .control 9 p)
  | .controlUnknown t a n op p => some (t, a, n, .control op p)
  | .punchInFrame t a n p => some (t, a, n, .punch 0 p)
  | .punchOutFrame t a n p => some (t, a, n, .punch 1 p)
  | .markFrame t a n p => some (t, a, n, .mark p)
  | .statusFrame t a n p => some (t, a, n, .status p)
  | _ => none

/-- The run state of a cue against the position `q`: ARMED with no position or one below the span start, else PASSED (R105,
R106). That a reference in HOLD with an absent frozen position counts as no position at a re-derivation is the model's choice (log
entry 40). -/
def armedState (q : Option Int) (d : CueDef) : RunState :=
  match q with
  | none => .armed
  | some p => if p < d.ps then .armed else .passed

/-- The due list without the elements of the entries that satisfy `p`. -/
def State.dueWithout (s : State) (p : CueEntry → Bool) : List Due := s.csh.due.filter fun d => !(s.entry d.entry).any p

/-- The runs of the entries that satisfy `p` ended as interruptions, in increasing index order (R125). -/
def State.runsEnded (s : State) (target : RunState) (p : CueEntry → Bool) : State :=
  (List.range 32).foldl (fun v i => if (v.entry i).any p then endRun target i v else v) s

/-- The list holds, each once and in the order of R104, the pending elements whose positions satisfy `p`, with the fire times that
`fire` gives. Beeps of one entry, which stand at one position only with a spacing of 0, go by their codes. -/
def State.lists (s : State) (p : Int → Bool) (fire : Int → Time) (l : List Due) : Bool :=
  decide (l.Pairwise fun x y => x.pos < y.pos ∨ x.pos = y.pos ∧
    (x.element.place < y.element.place ∨ x.element.place = y.element.place ∧
      (x.entry < y.entry ∨ x.entry = y.entry ∧ x.element.code < y.element.code))) &&
  (l.all fun d => p d.pos && decide (d.fire = fire d.pos) && decide (d.entry < 32) && (s.entry d.entry).any fun e =>
    pendingElement s.settings e d.element && decide (d.pos = elementPos s.settings e.cue d.element)) &&
  (List.range 32).all fun i => (s.entry i).all fun e => allElements.all fun el =>
    !(pendingElement s.settings e el && p (elementPos s.settings e.cue el)) || l.any fun d => decide (d.entry = i ∧ d.element = el)

/-- No RUNNING entry satisfies `p`. -/
def State.noneRunning (s : State) (p : CueEntry → Bool) : Bool :=
  s.ctb.entries.all fun o => !o.any fun e => decide (e.run.state = .running) && p e

/-! ## The words of the statements: the reference -/

/-- The reports of a change of the reference from `p` to `q` that loses no source, in their order (R58 to R62; log entry 37). -/
def Ptr.reportsTo (p q : Ptr) (jump wrap : Bool) : List Report :=
  (if jump then [.jump] else []) ++ (if wrap then [.wrap] else []) ++
  (if p.motion = .forward ∧ q.motion = .reverse ∨ p.motion = .reverse ∧ q.motion = .forward then [.reversal] else []) ++
  (if q.state = .tracking ∧ q.motion = .stopped ∧ p.motion ≠ .stopped then [.stop] else []) ++
  (if q.motion = .fast ∧ p.motion ≠ .fast then [.fast] else []) ++
  (if q.playable ≠ p.playable then [.playable q.playable] else [])

/-- `s` with the reference moved to `q`: the new values stand, a new state and a new motion are status changes, and the reports are
delivered (R62; log entry 17). -/
def State.moved (s : State) (q : Ptr) (jump wrap : Bool) : State :=
  let s₁ := { s with ptr := q }
  let s₂ := if q.state ≠ s.ptr.state then statusChange s₁ else s₁
  let s₃ := if q.motion ≠ s.ptr.motion then statusChange s₂ else s₂
  (s.ptr.reportsTo q jump wrap).foldl (fun v x => deliverReport x v) s₃

/-- `s` with a beacon placed in the beacon slot in ACTIVE, and discarded in any other line state (R12). -/
def State.beaconed (s : State) (b : Beacon) (stamp : Time) : State :=
  if s.clp.line = .active then
    { s with clp := { s.clp with
        slot := some { beacon := b, stamp := stamp }
        inFlight := s.clp.inFlight.map fun f => if f.source = .queue then f else { f with source := .slot true } } }
  else s

/-- The HOLD beacon of a hold position (R49; 03 Table 3-2). -/
def State.holdBeaconOf (s : State) (h : Int) : Beacon :=
  { rank := s.straps.rank, motion := 0, kind := 1, wrap := 0, frame := frameField h, phase := posPhase h, interval := 0, age := 0 }

/-! ## The words of the statements: the channels -/

/-- What a boundary step in a direction makes of a channel's frame counter, the frame it reports and whether it wraps (R31, R32). -/
def Channel.stepped (c : Channel) (offset : Int) (forward : Bool) : Int × Int × Bool :=
  let f := c.frame + offset
  if forward then
    if c.wrap.enabled = true ∧ f = c.wrap.e then (c.frame + (c.wrap.s - f), c.wrap.s, true) else (c.frame + 1, f + 1, false)
  else if c.wrap.enabled = true ∧ f = c.wrap.s then (c.frame + (c.wrap.e - f), c.wrap.e + 1, true)
  else (c.frame - 1, f, false)

/-- The three numbers that the range test of R30 asks of a boundary step lie within 24 signed bits. -/
def Channel.mayStep (c : Channel) (offset : Int) (forward : Bool) : Bool :=
  let x := c.stepped offset forward
  frameInRange x.1 && frameInRange (x.1 + offset) && frameInRange x.2.1

/-- A channel after a boundary step at `t` (R30, R38): the frame counter, the record, and the unit counter `taken`; where the range
test refuses the step only the unit counter `refused`. -/
def Channel.boundary (c : Channel) (offset : Int) (forward : Bool) (t : Time) (taken refused : Nat) : Channel :=
  let x := c.stepped offset forward
  if c.mayStep offset forward then
    { c with
      frame := x.1, unit := taken, recOld := c.recNew
      recNew := some { b := x.2.1, stamp := t, dir := if forward then .forward else .reverse, wrap := x.2.2 } }
  else { c with unit := refused }

/-- A channel after a unit at `t` (R26, R27, R33 to R35). -/
def Channel.counted (c : Channel) (g : ChanSettings) (forward : Bool) (t : Time) : Channel :=
  let u := if g.units = 0 then 1 else g.units
  let c := { c with
    fwd := if forward then (c.fwd + 1) % 65536 else c.fwd
    rev := if forward then c.rev else (c.rev + 1) % 65536
    lastDir := some forward, motion := if forward then .forward else .reverse, stall := some (later t 250000) }
  if g.index then { c with unit := if forward then (if c.unit < 255 then c.unit + 1 else c.unit) else c.unit - 1 }
  else if forward then
    if c.unit + 1 = u then c.boundary g.offset true t 0 (u - 1) else { c with unit := c.unit + 1 }
  else if c.unit = 0 then c.boundary g.offset false t (u - 1) 0
  else { c with unit := c.unit - 1 }

/-- The unit takes a boundary step, or tries to (R33, R34). -/
def Channel.atBoundary (c : Channel) (g : ChanSettings) (forward : Bool) : Bool :=
  !g.index && if forward then decide (c.unit + 1 = if g.units = 0 then 1 else g.units) else decide (c.unit = 0)

/-- `s` with the channel `c` replaced. -/
def State.withChan (s : State) (c : Chan) (ch : Channel) : State :=
  match c with
  | .a => { s with chA := ch }
  | .b => { s with chB := ch }

/-- The other channel. -/
def otherChan : Chan → Chan
  | .a => .b
  | .b => .a

/-- `s` with the lock of channel `c` replaced. -/
def State.withLock (s : State) (c : Chan) (l : Lock) : State :=
  match c with
  | .a => { s with lockA := l }
  | .b => { s with lockB := l }

/-! ## The words of the statements: the elements -/

/-- An element fires on an entry in this state and on no other (R116). -/
def firesIn (el : Element) : RunState := if el = .spanStart then .armed else .running

/-- The channel on which a PUNCH_IN of the cue opens its punch (R120), and there is none in REHEARSE. -/
def State.opensOn (s : State) (d : CueDef) : Option Chan := if s.csh.mode = .record then s.settings.recorder d.group else none

/-- A cue's run part after an element of it has fired (R104, R116 to R122). -/
def State.runAfter (s : State) (el : Element) (e : CueEntry) : RunPart :=
  let r := { e.run with fired := e.run.fired ||| (1#10 <<< el.code) }
  match el with
  | .spanStart =>
    let r := { r with
      punched := false, punchOpen := false, lightOpen := false, punch := .none
      passes := if r.passes < 255 then r.passes + 1 else r.passes }
    if s.ptr.playable then { r with state := .running } else { r with state := .passed, outcome := .missed }
  | .lightOn => { r with lightOpen := true }
  | .lightOff => { r with lightOpen := false }
  | .punchIn =>
    match s.opensOn e.cue with
    | some c => if (s.lock c).state = .sync then { r with punch := .recorded, punched := true, punchOpen := true } else { r with punch := .noSync }
    | none => if s.csh.mode = .rehearse then { r with punch := .rehearsed } else r
  | .punchOut => { r with punchOpen := false }
  | .spanEnd =>
    { r with
      state := .passed, outcome := .complete, punchOpen := false, lightOpen := false
      takes := if r.punched = true ∧ r.takes < 255 then r.takes + 1 else r.takes }
  | .beep1 | .beep2 | .beep3 | .beep4 => r

/-- The edge with which a firing element moves the punch line of a channel, if it does: true opens it (R120 to R122, R132, R133,
R143). -/
def State.punches (s : State) (el : Element) (e : CueEntry) (c : Chan) : Option Bool :=
  match el with
  | .punchIn => if s.opensOn e.cue = some c ∧ (s.lock c).state = .sync ∧ s.cou.released = false then some true else none
  | .punchOut | .spanEnd =>
    if e.run.punchOpen = true ∧ s.settings.recorder e.cue.group = some c ∧ 0 < s.cou.punch c then some false else none
  | _ => none

/-- A punch count after an edge. -/
def punchMoved (n : Nat) : Option Bool → Nat
  | some true => n + 1
  | some false => n - 1
  | none => n

/-- Cue Outputs after an element has fired at `t` (R118, R122, R131 to R139, R143). -/
def State.couAfter (s : State) (t : Time) (el : Element) (e : CueEntry) : Cou :=
  let c := { s.cou with punchA := punchMoved s.cou.punchA (s.punches el e .a), punchB := punchMoved s.cou.punchB (s.punches el e .b) }
  let held := fun (f : Nat → Nat) => List.zipWith (fun p n => if e.cue.mask.getLsbD p then f n else n) s.settings.served s.cou.holds
  match el with
  | .lightOn => if s.cou.released then c else { c with holds := held (· + 1) }
  | .lightOff | .spanEnd => if e.run.lightOpen then { c with holds := held (· - 1) } else c
  | .beep1 | .beep2 | .beep3 | .beep4 =>
    let finish := later t (s.settings.beepMs * 1000)
    if s.cou.released then c
    else
      { c with gate := some (match s.cou.gate with
          | none => { finish := finish, opened := t }
          | some g => { g with finish := if reached finish g.finish then finish else g.finish }) }
  | _ => c

/-- The PUNCH frame of a cue (R134): a position that does not exist is carried as 0:0. -/
def punchOf (d : CueDef) (reason : BitVec 2) (q : Option Int) : PunchArgs :=
  { group := BitVec.ofNat 4 (d.group.getD 0), reel := d.reel, id := d.id, reason := reason, frame := frameField (q.getD 0),
    phase := posPhase (q.getD 0) }

/-! ## The words of the statements: the overlay -/

/-- What a field of so many lines, with these pixel counts, measures (R145). -/
def fieldMeasured (lines : Nat) (pixels : List Nat) : FieldMeas :=
  let p := min 4095 (pixels.headD 0)
  { total := if 64 ≤ p ∧ 16 ≤ lines ∧ lines ≤ 2047 ∧ (pixels.all fun q => decide (min 4095 q = p)) = true then some p else none
    lines := min 4095 lines }

/-- The match run after a field (R147). -/
def MatchRun.joined (r : MatchRun) (m : FieldMeas) : MatchRun :=
  match m.total with
  | none => ⟨0, 0, 0, 0⟩
  | some p =>
    if 1 ≤ r.count ∧ p = r.total ∧ m.lines ≤ r.least + 1 ∧ r.greatest ≤ m.lines + 1 ∧ r.greatest ≤ r.least + 1 then
      ⟨r.count + 1, p, min r.least m.lines, max r.greatest m.lines⟩
    else ⟨1, p, m.lines, m.lines⟩

/-- A RUNNING cue with a streamer and a served position (R157, R160). -/
def State.drawn (s : State) (e : CueEntry) : Bool :=
  decide (e.run.state = .running ∧ 1 ≤ e.cue.streamer) && s.settings.served.any fun p => e.cue.mask.getLsbD p

/-- The cue's streamer is on the picture at `p` (R157). -/
def State.streams (s : State) (p : Int) (e : CueEntry) : Bool :=
  s.drawn e && decide (0 < e.cue.point - p ∧ e.cue.point - p ≤ e.cue.streamer * 256)

/-! ## The words of the statements: the views (12 Tables 12-12 to 12-14 and 12-16 to 12-22) -/

/-- A word that holds each number from its lowest bit on. -/
def packed (l : List (Nat × Nat)) : DataWord := BitVec.ofNat 16 (l.map fun x => x.2 * 2 ^ x.1).sum

/-- The two words of a 32-bit number (R210). -/
def twoWords (n : BitVec 32) : List DataWord := [n.extractLsb' 16 16, n.extractLsb' 0 16]

/-- The two words of a position (R210): frame bits 23 to 8; frame bits 7 to 0 and the phase. -/
def placeWords (p : Int) : List DataWord := twoWords (frameField p ++ posPhase p)

/-- An item of `n` words, which reads 0 where it is absent (R210). -/
def orZeros {α : Type} (n : Nat) (o : Option α) (f : α → List DataWord) : List DataWord :=
  match o with
  | some x => f x
  | none => List.replicate n 0

/-- The five words of a boundary record (R210). -/
def boundaryWords (r : BRec) : List DataWord := placeWords (r.b * 256) ++ twoWords r.stamp ++ [packed [(0, r.dir.code), (2, r.wrap.toNat)]]

/-- The CUE view of a VALID entry (R207, Table 12-12). -/
def cueTable (e : CueEntry) : List DataWord :=
  [packed [(15, 1), (0, e.cue.id.toNat)], packed [(8, e.cue.reel.toNat), (7, e.cue.global.toNat), (0, e.cue.group.getD 31)], e.cue.mask] ++
  placeWords (e.cue.frame * 256 + e.cue.phase) ++
  [packed [(8, e.cue.streamer), (0, e.cue.colour.toNat)], packed [(12, e.cue.beeps), (0, e.cue.spacing)],
   packed [(15, e.cue.light.toNat), (0, e.cue.lightLead)], packed [(8, e.cue.punchLead), (0, e.cue.lightHold)], packed [(0, e.cue.outOffset)],
   packed [(14, e.run.lightOpen.toNat), (13, e.run.punchOpen.toNat), (12, e.run.punched.toNat), (8, e.run.punch.code),
           (4, e.run.outcome.code), (0, e.run.state.code)],
   packed [(0, e.run.fired.toNat)], packed [(8, e.run.takes), (0, e.run.passes)]]

/-- The SOURCE view of an entry at the reading `t` (Table 12-19). -/
def sourceTable (t : Time) (e : Source) : List DataWord :=
  [packed [(15, 1), (0, e.sender), (5, e.isLocal.toNat), (6, e.rank), (9, e.motion.code), (11, e.record.isSome.toNat),
           (12, e.hold.isSome.toNat), (13, e.interval.isSome.toNat)]] ++
  orZeros 5 e.record boundaryWords ++ orZeros 2 e.interval (fun n => twoWords (BitVec.ofNat 32 n)) ++ orZeros 2 e.hold placeWords ++
  twoWords e.lastBeacon ++
  orZeros 2 e.aging fun d => twoWords (if reached t d then 0 else d - t)

/-- The PEER view of an entry (Table 12-20). -/
def peerTable (p : Peer) : List DataWord :=
  packed [(15, p.heard.toNat), (0, p.refState.code), (2, p.motion.code), (4, p.mode.code), (5, p.lockA.code), (7, p.lockB.code),
          (9, p.fault.toNat)] :: twoWords p.last

/-- The own entry of the peer table, which shows the current local values (R20): a lock on a channel that is no RECORD channel is
UNLOCKED (01 Table 1-7). -/
def State.ownPeer (s : State) (p : Peer) : Peer :=
  { p with
    refState := s.ptr.state, motion := s.ptr.motion, mode := s.csh.mode, fault := s.flt.first.isSome
    lockA := if s.settings.a.role = .record then s.lockA.state else .unlocked
    lockB := if s.settings.b.role = .record then s.lockB.state else .unlocked }

/-- The TALLY view of an entry (Table 12-21). -/
def tallyTable (x : Tally) : List DataWord :=
  [packed [(15, 1), (0, x.station), (8, x.group.toNat)], packed [(0, x.reel.toNat)], packed [(0, x.id.toNat)]] ++ placeWords x.pos

/-- The COUNTS view (Table 12-22). -/
def State.countsTable (s : State) : List DataWord :=
  [s.chA.fwd, s.chA.rev, s.chA.glitches, s.chA.slips, s.chB.fwd, s.chB.rev, s.chB.glitches, s.chB.slips, s.csh.late].map (BitVec.ofNat 16)

/-- The STATUS view's words of a channel (Table 12-17). -/
def channelTable (g : ChanSettings) (c : Channel) : List DataWord :=
  packed [(0, c.unit), (8, c.motion.code), (10, c.wrap.enabled.toNat), (11, c.recNew.isSome.toNat), (12, c.recOld.isSome.toNat)] ::
  placeWords (c.frame * 256) ++ placeWords ((c.frame + g.offset) * 256) ++ placeWords (c.wrap.s * 256) ++ placeWords (c.wrap.e * 256) ++
  placeWords (holdPosition g c) ++ orZeros 5 c.recNew boundaryWords ++ orZeros 5 c.recOld boundaryWords

/-- The STATUS view's words of the reference at the reading `t`: 43 to 59 of Table 12-16. -/
def Ptr.table (p : Ptr) (t : Time) : List DataWord :=
  let hold := if p.state = .tracking then p.hold else if p.state = .hold then p.frozen else none
  packed [(0, p.state.code), (2, p.motion.code), (4, p.chosen.getD 31), (9, p.interval.isSome.toNat), (10, p.playable.toNat),
          (11, p.recNew.isSome.toNat), (12, p.recOld.isSome.toNat), (13, hold.isSome.toNat), (14, (p.position t).isSome.toNat)] ::
  orZeros 5 p.recNew boundaryWords ++ orZeros 5 p.recOld boundaryWords ++
  orZeros 2 p.interval (fun n => twoWords (BitVec.ofNat 32 n)) ++ orZeros 2 hold placeWords ++ orZeros 2 (p.position t) placeWords

/-- The STATUS view's words of a lock (60 to 62 of Table 12-16). -/
def lockTable (l : Lock) : List DataWord := [packed [(0, l.state.code)], BitVec.ofInt 16 l.err, packed [(8, l.good), (0, l.bad)]]

/-- The STATUS view's words of a staged header (Table 12-18). -/
def stagedTable (x : Staged) : List DataWord :=
  [packed [(15, 1), (0, x.sender)], packed [(0, x.head.id.toNat)],
   packed [(8, x.head.reel.toNat), (7, x.head.global.toNat), (0, x.head.group.toNat)], x.head.mask] ++
  placeWords (x.head.frame.toInt * 256 + x.head.phase.toNat)

/-- The STATUS view's words of the scheduler and the outputs (92 to 103 of Table 12-16). -/
def State.actionTable (s : State) : List DataWord :=
  let pair := fun (m n : Nat) => packed [(0, m), (6, (decide (0 < m)).toNat), (8, n), (14, (decide (0 < n)).toNat)]
  let hold := fun (k : Nat) => s.cou.holds.getD k 0
  packed [(0, s.csh.mode.code), (1, s.csh.halted.toNat), (8, s.csh.due.length)] ::
  orZeros 5 s.csh.due.head? (fun d => packed [(8, d.entry), (0, d.element.code)] :: placeWords d.pos ++ twoWords d.fire) ++
  [pair s.cou.punchA s.cou.punchB, pair (hold 0) (hold 1), pair (hold 2) (hold 3),
   packed [(0, s.cou.gate.isSome.toNat), (1, s.cou.released.toNat)]] ++
  orZeros 2 s.cou.gate fun g => twoWords g.finish

/-- The STATUS view's words of the overlay (104 to 124 of Table 12-16). -/
def Ovl.table (o : Ovl) : List DataWord :=
  packed [(0, o.raster.code), (2, o.last.isSome.toNat), (3, (o.last.any fun m => m.total.isSome).toNat), (4, o.run.count),
          (7, o.settled.isSome.toNat), (8, o.frozen.isSome.toNat)] ::
  orZeros 2 o.last (fun m => [packed [(0, m.total.getD 0)], packed [(0, m.lines)]]) ++
  orZeros 3 o.settled (fun m => [packed [(0, m.total)], packed [(0, m.least)], packed [(0, m.greatest)]]) ++
  orZeros 6 o.frozen (fun g => [g.total, g.start, g.width, g.lines, g.first, g.active].map fun n => packed [(0, n)]) ++
  [packed [(0, o.front.streamers.length), (3, o.front.flash.isSome.toNat), (4, o.front.border.toNat), (8, o.front.flash.getD 0)]] ++
  [0, 1, 2, 3].flatMap fun k => orZeros 2 o.front.streamers[k]? fun x => [packed [(8, x.entry), (0, x.colour.toNat)], packed [(0, x.x)]]

/-- The STATUS view (Table 12-16). -/
def State.statusTable (s : State) : List DataWord :=
  packed [(0, s.clp.line.code), (2, s.clp.rx.code), (4, s.clp.queue.length), (8, s.clp.slot.isSome.toNat), (9, s.clp.statusDue.toNat)] ::
  channelTable s.settings.a s.chA ++ channelTable s.settings.b s.chB ++ s.ptr.table s.timebase ++ lockTable s.lockA ++ lockTable s.lockB ++
  [packed [(0, s.settings.tolerance)]] ++ ([0, 1, 2, 3].flatMap fun k => orZeros 6 s.ctb.staging[k]? stagedTable) ++
  [packed [(0, s.ctb.pointer)]] ++ s.actionTable ++ s.ovl.table ++
  [packed [(0, s.mkl.key.code), (3, s.mkl.overrun.toNat), (4, s.mkl.log.length), (8, s.mkl.serial.toNat)]]

/-- The FAULT view (R208, Table 12-13). -/
def Flt.table (f : Flt) : List DataWord :=
  orZeros 8 f.first (fun r =>
    packed [(12, if r.chan = some .b then 1 else 0), (11, r.sender.isSome.toNat), (10, r.cue.isSome.toNat), (9, r.chan.isSome.toNat),
            (8, r.pos.isSome.toNat), (7, f.more.toNat), (0, r.kind.code)] ::
    twoWords r.stamp ++ orZeros 2 r.pos placeWords ++
    orZeros 2 r.cue (fun c => [packed [(0, c.1.toNat)], packed [(0, c.2.toNat)]]) ++
    orZeros 1 r.sender fun n => [packed [(0, n.toNat)]]) ++
  (List.range 11).map fun k => packed [(8, f.counts.getD (2 * k) 0), (0, if k = 10 then 0 else f.counts.getD (2 * k + 1) 0)]

/-- The MARK view of a record (R209, Table 12-14); the overrun flag reads at index 0 alone. -/
def markTable (r : MarkRec) (overrun : Bool) : List DataWord :=
  let l := r.latch
  let place := (l.pos.map fun p => frameField p ++ posPhase p).getD (0 : BitVec 32)
  let ends := packed [(8, r.serial.toNat), (7, overrun.toNat), (6, 1), (0, r.station)]
  [ends,
   packed [(15, l.pos.isSome.toNat), (12, l.refState.code), (10, l.motion.code), (8, l.mode.code), (0, (place.extractLsb' 24 8).toNat)],
   place.extractLsb' 8 16,
   packed [(8, (place.extractLsb' 0 8).toNat), (7, l.cue.isSome.toNat), (0, (l.cue.getD (0, 0)).1.toNat)],
   packed [(0, (l.cue.getD (0, 0)).2.toNat)], ends]

end Sys2Proof.Machine
end

