-- ==== Sys2Proof/Certificates/Slice0/Obligations.lean ====
section
/-! DEFINITION. The statements about the part. Each is a closed proposition; OBLIGATIONS.json gives its text, and the named
theorems of Tests/Slice0.lean show that its hypotheses can be met. -/

section
open Sys2Proof Sys2Proof.Machine

/-! ## The machine as a whole -/

/-- The model's choice (log entries 2 and 34): commands wait in one queue. A step takes the command at the front of the queue and
executes it with the queue's rest; with no command waiting one microsecond passes, in which a receiver in HUNT or READY counts one
more recessive bit time, up to 11 (R3; log entry 5), unless RESETN holds it at its reset values (R14, R191). -/
def Obligations.StepTakesTheFrontCommand : Prop :=
  (∀ (i : Instr) (rest : List Instr) (s : State), step { s with pending := i :: rest } = exec i { s with pending := rest }) ∧
  ∀ s : State, s.pending = [] →
    step s = .next { s with
      timebase := s.timebase + 1
      clp := { s.clp with rxCount := if s.resetActive = true ∨ s.clp.rx = .receiving then s.clp.rxCount else min 11 (s.clp.rxCount + 1) } }

/-- The model's choices (log entries 1, 31 and 34): every command completes from every state, sets the timebase to the moment it
carries, and leaves the waiting commands as they are. A command other than a full reset and a RESTART leaves the sampled straps
(R187: pin levels between samplings have no effect; where the bits of two rows make up a RESTART, log entry 8). -/
def Obligations.EveryCommandCompletes : Prop :=
  ∀ (i : Instr) (s : State), ∃ u, exec i s = .next u ∧ u.timebase = momentOf i ∧ u.pending = s.pending ∧
    (samplesStraps i = false → u.straps = s.straps)

/-- RESETN driven active holds every block at its full reset values at once, and every output at its inactive level (R191); the
settings and the straps keep their values until RESETN returns inactive, which the model deduces (log entry 24). -/
def Obligations.ResetnActiveHoldsThePart : Prop :=
  ∀ (t : Time) (s : State), ∃ u, exec (.resetnDrivenActive t) s = .next u ∧
    u = { State.reset with
          timebase := t, resetActive := true, pins := s.pins, straps := s.straps, settings := s.settings,
          freeCount := s.freeCount, pending := s.pending } ∧
    u.clen = false ∧ (∀ c, u.punchPin c = false) ∧ (∀ i, u.lightPin i = false) ∧ u.tonePin = false ∧ u.alertnPin = true ∧
    u.sdoBits = 0 ∧ (∀ line pixel, u.keyPixel line pixel = none)

/-- While RESETN is active no command but the full reset that ends it changes anything but the time and the level of the pin whose
edge it is (R14, R175, R191; log entry 24), and time passing changes the timebase alone; so every step keeps the held part at its
full reset values. -/
def Obligations.HeldPartOnlyLetsTimePass : Prop :=
  (∀ (i : Instr) (s : State), s.resetActive = true → s.heldOk = true → (∀ t st levels, i ≠ .fullReset t st levels) →
    exec i s = .next { s with timebase := momentOf i, pins := pinsAfter i s.pins }) ∧
  (∀ s : State, s.resetActive = true → s.pending = [] → step s = .next { s with timebase := s.timebase + 1 }) ∧
  ∀ s u : State, s.heldOk = true → step s = .next u → u.heldOk = true

/-- A full reset brings every block to its reset values and the configuration to its defaults; a bad strap is recorded into the
empty record; a good one with AUTOSTART set starts the station on the default configuration, which no clamp changes (R187, R189,
R191, R201; the response register then shows JOINING: log entry 35). -/
def Obligations.FullResetResult : Prop :=
  ∀ (t : Time) (st : Straps) (levels : Levels) (s : State),
    let base := s.freshPart t st levels
    (24 ≤ st.station.toNat → exec (.fullReset t st levels) s = .next { base with
      flt := { counts := [0, 0, 0, 0, 0, 1] ++ List.replicate 15 0, more := false, causes := causeFault, enable := 0,
               first := some { kind := .badStrap, stamp := t, pos := none, chan := none, cue := none, sender := none } } }) ∧
    (st.station.toNat < 24 → st.autostart = false → exec (.fullReset t st levels) s = .next base) ∧
    (st.station.toNat < 24 → st.autostart = true → exec (.fullReset t st levels) s = .next { base with
      clp := { Clp.reset with line := .joining, joinTimer := some (later t 300000) }
      mkl := { Mkl.reset with key := if levels.markn then .armed else .held }
      svc := { Svc.reset with response := { data := 0, line := .joining, alert := false, refusal := false } } })

/-- A RESTART that the port takes resets every block but the configuration, the fault record, the counts and the enable set, and
samples the straps (R187, R190, R201): a bad one is recorded; with a good one and AUTOSTART set the station then starts on the
configuration it has, with the clamps of START (R188, R189). -/
def Obligations.RestartResult : Prop :=
  ∀ (t : Time) (f : CmdFields) (w : BitVec 6) (st : Straps) (s : State), s.portFree (.command 6 f w) →
    let base := { s with timebase := t }.restarted st
    let rec_ : FaultRec := { kind := .badStrap, stamp := t, pos := none, chan := none, cue := none, sender := none }
    let u := if st.station.toNat < 24 then base else { base with flt := base.flt.recorded rec_ }
    (st.autostart = false ∨ 24 ≤ st.station.toNat →
      exec (.restart t ⟨f, w⟩ st) s = .next (u.answered (.command 6 f w) .none none none 0 false)) ∧
    (st.autostart = true → st.station.toNat < 24 → s.flt.ok = true → ∃ v, exec (.restart t ⟨f, w⟩ st) s = .next v ∧
      v.settings = s.settings.clamped ∧
      v.flt.counts.getD 6 0 = min 255 (s.flt.counts.getD 6 0 + clampCount s.settings s.settings.clamped) ∧
      v.clp = { Clp.reset with line := .joining, joinTimer := some (later t 300000) } ∧
      v.mkl = { Mkl.reset with key := if s.pins.markn then .armed else .held } ∧
      (∀ c, v.chan c = if (v.settings.chan c).role = .none then Channel.reset else
        { Channel.reset with
          p1 := ⟨some (pinOf s.pins c .p1), none⟩, p2 := ⟨some (pinOf s.pins c .p2), none⟩, ix := ⟨some (indexPinOf s.pins c), none⟩ }) ∧
      v.ovl = { Ovl.reset with frozen := if s.settings.programmed then some v.settings.geometry else none } ∧
      v.svc = (v.answered (.command 6 f w) .none none none 0 false).svc ∧
      v.ctb = .reset ∧ v.csh = .reset ∧ v.cou = .reset ∧ v.lockA = .reset ∧ v.lockB = .reset ∧
      (v.settings.picture = none → v.ptr = .reset) ∧ v.straps = st ∧ v.pins = s.pins ∧ v.flt.enable = s.flt.enable)

/-! ## The service port -/

/-- READ through the capture buffer (R179): word 0 takes a fresh capture of all the words that the view's table gives the index; a
later word comes from the buffer when it holds the same view and index, and else from a capture taken first. The words of a view are
those that its table gives (R207 to R210, Tables 12-12 to 12-14 and 12-16 to 12-22), with the codes of Tables 12-1 and 12-15 and an
absent item as zeros; the own peer entry shows the current local values (R20). A channel that does not count shows its hold
position and reported frame by their formulas, which the model deduces (log entry 32). That the own peer entry is the last sampled
strap's in CONFIG too, before START, is the model's choice (log entry 41). -/
def Obligations.ReadGoesThroughTheCaptureBuffer : Prop :=
  (∀ (s : State) (i : Nat),
    s.viewWords 1 i = s.statusTable ∧ s.viewWords 2 i = orZeros 13 (s.entry i) cueTable ∧
    s.viewWords 3 i = orZeros 14 (s.ptr.sources.getD i none) (sourceTable s.timebase) ∧
    (let p := s.clp.peers.getD i Peer.reset
     s.viewWords 4 i = peerTable (if i = s.own.toNat then s.ownPeer p else p)) ∧
    s.viewWords 5 i = orZeros 5 s.cou.tally[i]? tallyTable ∧
    s.viewWords 6 i = orZeros 6 s.mkl.log[i]? (fun r => markTable r (decide (i = 0) && s.mkl.overrun)) ∧
    s.viewWords 7 i = s.countsTable ∧ (s.flt.counts.length = 21 → s.viewWords 8 i = s.flt.table)) ∧
  [LineState.config, .joining, .active, .duplicate].map LineState.code = [0, 1, 2, 3] ∧
  [RxState.hunt, .ready, .receiving].map RxState.code = [0, 1, 2] ∧ [RefState.none, .tracking, .hold].map RefState.code = [0, 1, 2] ∧
  [Motion.stopped, .forward, .reverse, .fast].map Motion.code = [0, 1, 2, 3] ∧ [Mode.rehearse, .record].map Mode.code = [0, 1] ∧
  [LockState.unlocked, .chasing, .sync].map LockState.code = [0, 1, 2] ∧ [Dir.forward, .reverse, .none].map Dir.code = [0, 1, 2] ∧
  [RunState.idle, .armed, .running, .passed].map RunState.code = [0, 1, 2, 3] ∧
  [RunOutcome.none, .complete, .interrupted, .missed].map RunOutcome.code = [0, 1, 2, 3] ∧
  [PunchResult.none, .rehearsed, .recorded, .noSync, .dropped, .aborted].map PunchResult.code = [0, 1, 2, 3, 4, 5] ∧
  [Raster.noSignal, .acquiring, .stable, .mismatch].map Raster.code = [0, 1, 2, 3] ∧
  [KeyState.off, .armed, .pressing, .held, .releasing].map KeyState.code = [0, 1, 2, 3, 4] ∧
  [Element.spanStart, .lightOn, .punchIn, .beep1, .beep2, .beep3, .beep4, .punchOut, .lightOff, .spanEnd].map Element.code =
    [0, 1, 2, 3, 4, 5, 6, 7, 8, 9] ∧
  ∀ (t : Time) (f : CmdFields) (w : BitVec 6) (s : State), s.portFree (.command 1 f w) → wordExists f = true → f.view ≠ markView →
    let s₀ := s.advance t
    let fresh : Capture := { view := f.view, index := f.index, words := s₀.viewWords f.view f.index.toNat }
    (∀ indexes words, viewSize f.view = some (indexes, words) → fresh.words.length = words) ∧
    (∀ c, s.svc.capture = some c → f.word ≠ 0 → c.view = f.view → c.index = f.index →
      exec (.read t ⟨f, w⟩) s = .next (s₀.answered (.command 1 f w) .none none (some c) (c.words.getD f.word.toNat 0) false)) ∧
    ((f.word = 0 ∨ ∀ c, s.svc.capture = some c → ¬(c.view = f.view ∧ c.index = f.index)) →
      exec (.read t ⟨f, w⟩) s = .next (s₀.answered (.command 1 f w) .none none (some fresh) (fresh.words.getD f.word.toNat 0) false))

/-- READ of the MARK view (R172, R179): the word comes live and the buffer is left; only the last word of index 0 of a log that
is not empty takes the oldest record and clears the overrun flag. MARK_RECORD_TAKE is that READ with its not-used bits 0 (log entry 22). -/
def Obligations.MarkReadsAreLive : Prop :=
  ∀ (t : Time) (f : CmdFields) (w : BitVec 6) (s : State), s.portFree (.command 1 f w) → wordExists f = true → f.view = markView →
    let s₀ := s.advance t
    (∀ r rest, s.mkl.log = r :: rest → f.index = 0 → f.word = 5 →
      let u := { s₀ with mkl := { s.mkl with log := rest, overrun := false } }
      let word := BitVec.ofNat 16 (256 * r.serial.toNat + (if s.mkl.overrun then 128 else 0) + 64 + r.station)
      exec (.read t ⟨f, w⟩) s = .next (u.answered (.command 1 f w) .none none s.svc.capture word false) ∧
      (w = 0 → exec (.markRecordTake t) s = .next (u.answered (.command 1 f w) .none none s.svc.capture word false))) ∧
    ((s.mkl.log = [] ∨ f.index ≠ 0 ∨ f.word ≠ 5) →
      exec (.read t ⟨f, w⟩) s = .next (s₀.answered (.command 1 f w) .none none s.svc.capture (s₀.liveWord f) false))

/-- Command frames that are taken (R180 to R183, R205). WATCH sets its target and answers the word read live; NOP answers the
watched word, or 0, and keeps the watch; a WRITE that names a view, and a SEND of class 0 to 5, wait for their data frames, a SEND
for as many as its payload fills. -/
def Obligations.CommandFramesTaken : Prop :=
  ∀ (t : Time) (f : CmdFields) (w : BitVec 6) (s : State),
    let s₀ := s.advance t
    (s.portFree (.command 3 f w) → wordExists f = true →
      exec (.watch t ⟨f, w⟩) s = .next (s₀.answered (.command 3 f w) .none (some f) s.svc.capture (s₀.liveWord f) false)) ∧
    (s.portFree (.command 0 f w) → ∀ g, s.svc.watch = some g →
      exec (.nop t ⟨f, w⟩) s = .next (s₀.answered (.command 0 f w) .none (some g) s.svc.capture (s₀.liveWord g) false)) ∧
    (s.portFree (.command 0 f w) → s.svc.watch = none →
      exec (.nop t ⟨f, w⟩) s = .next (s₀.answered (.command 0 f w) .none none s.svc.capture 0 false)) ∧
    (s.portFree (.command 2 f w) → f.view.toNat < 10 →
      exec (.write t ⟨f, w⟩) s = .next (s₀.answered (.command 2 f w) (.write f) none s.svc.capture 0 false)) ∧
    (∀ (cls : BitVec 3) (index : BitVec 6) (word : BitVec 10) (x : BitVec 7),
      let frame := ServiceFrame.command 4 (sendFields cls index word x) (x.setWidth 6)
      s.portFree frame → cls.toNat < 6 →
      let n := if cls = 1 then 4 else 5
      exec (.send t cls index ⟨word, x⟩) s = .next (s₀.answered frame (.send cls [] n) none s.svc.capture (BitVec.ofNat 16 n) false))

/-- Command frames refused with data 0, which end a watch and change nothing else: a READ or WATCH of a word that does not exist, a
WRITE to a code that names no view, a SEND of class 6 or 7, and a code that names no command (R179 to R183; that the data of a
refused WATCH, WRITE and SEND is 0 the model deduces, log entry 26). -/
def Obligations.BadNamesAreRefused : Prop :=
  ∀ (t : Time) (f : CmdFields) (w : BitVec 6) (s : State),
    let refusal := fun (fr : ServiceFrame) => (s.advance t).answered fr .none none s.svc.capture 0 true
    (s.portFree (.command 1 f w) → wordExists f = false → exec (.read t ⟨f, w⟩) s = .next (refusal (.command 1 f w))) ∧
    (s.portFree (.command 3 f w) → wordExists f = false → exec (.watch t ⟨f, w⟩) s = .next (refusal (.command 3 f w))) ∧
    (s.portFree (.command 2 f w) → 10 ≤ f.view.toNat → exec (.write t ⟨f, w⟩) s = .next (refusal (.command 2 f w))) ∧
    (∀ (cls : BitVec 3) (index : BitVec 6) (word : BitVec 10) (x : BitVec 7),
      let frame := ServiceFrame.command 4 (sendFields cls index word x) (x.setWidth 6)
      s.portFree frame → 6 ≤ cls.toNat → exec (.send t cls index ⟨word, x⟩) s = .next (refusal frame)) ∧
    (∀ code : BitVec 5, s.portFree (.command code f w) → 7 ≤ code.toNat →
      exec (.unknownCommand t code ⟨f, w⟩) s = .next (refusal (.command code f w)))

/-- A command frame that comes while a WRITE or SEND waits is refused, whatever its command, and abandons what waits, so nothing
of either happens; a data frame with nothing waiting is refused and ends a watch (R177; the data words are free, log entry 9).
The rows of the data frames are one frame: what it does is told by what waits. -/
def Obligations.FramesThatDoNotFitAreRefused : Prop :=
  (∀ (i : Instr) (t : Time) (code : BitVec 5) (f : CmdFields) (w : BitVec 6) (s : State), commandOf i = some (t, code, f, w) →
    s.portTakes (.command code f w) → s.svc.pending ≠ .none →
    ∃ x, exec i s = .next (({ s.advance t with freeCount := s.freeCount + 1 }).answered (.command code f w) .none s.svc.watch
      s.svc.capture x true)) ∧
  (∀ (t : Time) (d : DataWord) (w : BitVec 15) (s : State), s.portFree (.data d w) →
    ∃ x, exec (.strayDataFrame t ⟨d, w⟩) s =
      .next (({ s.advance t with freeCount := s.freeCount + 1 }).answered (.data d w) .none none s.svc.capture x true)) ∧
  ∀ (i j : Instr) (s : State), dataOf i = dataOf j → dataOf i ≠ none → exec i s = exec j s

/-- Idle frames and resynchronisation (R176, R177), from a framing position of 0. An idle frame gives no SACK pulse; with nothing
waiting it ends a watch and answers 0, and it abandons a waiting command with the refusal flag; one in which the run of ones
reaches 64 resynchronises the port, and the ones beyond the 64th begin a new frame (log entry 22). -/
def Obligations.IdleAndResynchronise : Prop :=
  ∀ (t : Time) (s : State), s.resetActive = false →
    let s₀ := s.advance t
    let resp := fun (x : DataWord) (r : Bool) => ({ data := x, line := s.clp.line, alert := s₀.alertActive, refusal := r } : Response)
    exec (.resynchronise t) s = .next { s₀ with
      svc := { sampled := [], ones := 0, pending := .none, watch := none, capture := none, response := resp 0 false, sack := 0 } } ∧
    (s.svc.sampled = [] →
      (32 ≤ s.svc.ones → s.svc.ones < 64 → exec (.idleFrame t) s = .next { s₀ with
        freeCount := if s.svc.ones = 32 ∧ s.svc.pending ≠ .none then s.freeCount + 1 else s.freeCount
        svc := { sampled := List.replicate (s.svc.ones - 32) true, ones := s.svc.ones - 32, pending := .none, watch := none,
                 capture := none, response := resp 0 false, sack := 0 } }) ∧
      (s.svc.ones < 32 → s.svc.pending = .none → exec (.idleFrame t) s = .next { s₀ with
        svc := { s.svc with ones := s.svc.ones + 32, watch := none, response := resp 0 false, sack := 0 } }) ∧
      (s.svc.ones < 32 → s.svc.pending ≠ .none → ∃ x, exec (.idleFrame t) s = .next { s₀ with
        freeCount := s.freeCount + 1
        svc := { s.svc with ones := s.svc.ones + 32, pending := .none, response := resp x true, sack := 0 } }))

/-- A setting written while the line state is CONFIG is stored exactly when it lies within its stored range: the CONFIG view then
reads the data in that word and every other word as before, the answer is the data, and the capture buffer is empty. Outside the
range nothing changes and the answer is the word's present value (R180, R184, R185, R205). -/
def Obligations.ConfigWritesAreVerified : Prop :=
  ∀ (t : Time) (d : DataWord) (w : BitVec 15) (s : State) (f : CmdFields), s.svc.pending = .write f → s.portTakes (.data d w) →
    s.clp.line = .config → f.view = 0 → f.index = 0 → 3 ≤ f.word.toNat → f.word.toNat ≤ 36 →
    (inStoredRange f.word.toNat d → ∃ u, exec (.writeConfig t ⟨d, w⟩) s = .next u ∧
      u = ({ s.advance t with settings := u.settings }).answered (.data d w) .none s.svc.watch none d false ∧
      u.configWords = s.configWords.set f.word.toNat d) ∧
    (¬inStoredRange f.word.toNat d → exec (.writeConfig t ⟨d, w⟩) s =
      .next ((s.advance t).answered (.data d w) .none s.svc.watch s.svc.capture (s.configWords.getD f.word.toNat 0) true))

/-- A data frame whose WRITE may not be done is refused, changes nothing, and answers the word's present value, or 0 when it does
not exist (R180, R184, R199). -/
def Obligations.ForbiddenWritesAreRefused : Prop :=
  ∀ (t : Time) (d : DataWord) (w : BitVec 15) (s : State) (f : CmdFields), s.svc.pending = .write f → s.portTakes (.data d w) → ¬s.writable f →
    exec (.writeDataOther t ⟨d, w⟩) s =
      .next ((s.advance t).answered (.data d w) .none s.svc.watch s.svc.capture ((s.advance t).liveWord f) true) ∧
    (wordExists f = false → (s.advance t).liveWord f = 0)

/-- The ALERT view (R197 to R199): the enable word replaces the enable set, the pending word clears the causes whose places hold a
one, bits 6 to 15 are not used, and ALERTN and the answered status follow at once. -/
def Obligations.AlertWrites : Prop :=
  ∀ (t : Time) (d : DataWord) (w : BitVec 15) (s : State) (f : CmdFields), s.svc.pending = .write f → s.portTakes (.data d w) → f.view = 9 → f.index = 0 →
    let s₀ := s.advance t
    let e := { s₀ with flt := { s.flt with enable := d.extractLsb' 0 6 } }
    let p := { s₀ with flt := { s.flt with causes := s.flt.causes &&& ~~~(d.extractLsb' 0 6) } }
    (f.word = 0 → exec (.writeAlertEnable t ⟨d, w⟩) s =
      .next (e.answered (.data d w) .none s.svc.watch none ((d.extractLsb' 0 6).setWidth 16) false)) ∧
    (f.word = 1 → exec (.writeAlertPending t ⟨d, w⟩) s =
      .next (p.answered (.data d w) .none s.svc.watch none ((s.flt.causes &&& ~~~(d.extractLsb' 0 6)).setWidth 16) false)) ∧
    (∀ u : State, u.alertnPin = false ↔ ∃ k : Fin 6, u.flt.causes.getLsbD k = true ∧ u.flt.enable.getLsbD k = true)

/-- A write of any word of the FAULT view clears the record and its more flag, keeps the counts and the causes, delivers a status
change when the fault flag falls, and answers the word as it then reads: 0 for the words of the record (R194, R195). -/
def Obligations.FaultWriteClearsTheRecord : Prop :=
  ∀ (t : Time) (d : DataWord) (w : BitVec 15) (s : State) (f : CmdFields), s.svc.pending = .write f → s.portTakes (.data d w) → f.view = 8 →
    f.index = 0 → f.word.toNat < 19 → s.clp.room →
    let s₀ := s.advance t
    let u := { s₀ with
      flt := { s.flt with first := none, more := false }
      clp := if s.flt.first.isSome then s₀.clp.statusChanged else s₀.clp }
    exec (.writeFault t ⟨d, w⟩) s = .next (u.answered (.data d w) .none s.svc.watch none (u.faultView.getD f.word.toNat 0) false) ∧
    (f.word.toNat < 8 → u.faultView.getD f.word.toNat 0 = 0)

/-- The payload words of a SEND (R11, R182): each but the last is counted down; at the last the frame the words spell joins the
tail of the transmit queue in JOINING and ACTIVE while fewer than 8 frames stand there, and is refused otherwise; the answer is
the number of frames in the queue. -/
def Obligations.SendPayloadWords : Prop :=
  ∀ (t : Time) (d : DataWord) (w : BitVec 15) (s : State) (cls : BitVec 3) (words : List DataWord) (n : Nat), s.svc.pending = .send cls words n →
    s.portTakes (.data d w) →
    let s₀ := s.advance t
    (words.length + 1 < n → exec (.sendPayloadWord t ⟨d, w⟩) s = .next (s₀.answered (.data d w) (.send cls (words ++ [d]) n) s.svc.watch
      s.svc.capture (BitVec.ofNat 16 (n - words.length - 1)) false)) ∧
    (∀ (f : LineFrame) (unused : List Bool), n ≤ words.length + 1 → frameClass f = cls →
      (words ++ [d]).flatMap fieldBits = framePayload f ++ unused →
      let u := { s₀ with clp := { s₀.clp with queue := s.clp.queue ++ [QFrame.frame f] } }
      ((s.clp.line = .joining ∨ s.clp.line = .active) → s.clp.queue.length < 8 → exec (.sendPayloadWord t ⟨d, w⟩) s =
        .next (u.answered (.data d w) .none s.svc.watch s.svc.capture (BitVec.ofNat 16 (s.clp.queue.length + 1)) false)) ∧
      (¬((s.clp.line = .joining ∨ s.clp.line = .active) ∧ s.clp.queue.length < 8) → exec (.sendPayloadWord t ⟨d, w⟩) s =
        .next (s₀.answered (.data d w) .none s.svc.watch s.svc.capture (BitVec.ofNat 16 s.clp.queue.length) true)))

/-! ## START -/

/-- A START is refused with data 1 outside CONFIG and with data 2 in CONFIG with a bad strap, and then changes nothing. A START
that is taken (R188): the configuration takes its working values, each clamp recording CONFIG_CLAMP; the capture buffer is
emptied; the channels sample their lines, the key MARKN, the overlay freezes its geometry, with which a STABLE raster that disagrees
becomes MISMATCH with RASTER_MISMATCH, and the line state is JOINING with the join listen timer running, nothing being sent where no
cue runs. Without a PICTURE channel nothing else changes but the fault record, counts and cause. -/
def Obligations.StartResult : Prop :=
  ∀ (t : Time) (f : CmdFields) (w : BitVec 6) (s : State), s.portFree (.command 5 f w) →
    (s.clp.line ≠ .config →
      exec (.start t ⟨f, w⟩) s = .next ((s.advance t).answered (.command 5 f w) .none none s.svc.capture 1 true)) ∧
    (s.clp.line = .config → 24 ≤ s.straps.station.toNat →
      exec (.start t ⟨f, w⟩) s = .next ((s.advance t).answered (.command 5 f w) .none none s.svc.capture 2 true)) ∧
    (s.clp.line = .config → s.straps.station.toNat < 24 → s.flt.ok = true → ∃ u, exec (.start t ⟨f, w⟩) s = .next u ∧
      let n := clampCount s.settings s.settings.clamped
      let h := s.settings.clamped.geometry
      let within := fun (k : Nat) => k = h.lines ∨ k = h.lines + 1
      let disagrees := s.settings.programmed = true ∧ s.ovl.raster = .stable ∧
        (s.ovl.settled.any fun m => !decide (m.total = h.total ∧ within m.least ∧ within m.greatest)) = true
      u.settings = s.settings.clamped ∧
      u.flt.counts.getD 6 0 = min 255 (s.flt.counts.getD 6 0 + n) ∧
      (s.quiet = true → u.clp = { (s.advance t).clp with line := .joining, joinTimer := some (later t 300000) }) ∧
      u.mkl = { s.mkl with key := if s.pins.markn then .armed else .held, timer := none, latch := none } ∧
      (∀ c, u.chan c = if (u.settings.chan c).role = .none then s.chan c else
        { s.chan c with
          p1 := ⟨some (pinOf s.pins c .p1), none⟩, p2 := ⟨some (pinOf s.pins c .p2), none⟩, ix := ⟨some (indexPinOf s.pins c), none⟩ }) ∧
      u.ovl = { s.ovl with
        raster := if disagrees then .mismatch else s.ovl.raster
        frozen := if s.settings.programmed then some h
          else match s.ovl.raster, s.ovl.settled with
            | .stable, some m => some
                { total := m.total, start := m.total / 8, width := m.total * 3 / 4, lines := m.least, first := m.least / 12,
                  active := m.least * 5 / 6 }
            | _, _ => s.ovl.frozen } ∧
      u.flt.counts.getD 19 0 = (if disagrees then min 255 (s.flt.counts.getD 19 0 + 1) else s.flt.counts.getD 19 0) ∧
      u.svc = (u.answered (.command 5 f w) .none none none 0 false).svc ∧
      (u.settings.picture = none → u.ptr = s.ptr ∧ u.ctb = s.ctb ∧ u.csh = s.csh ∧ u.cou = s.cou ∧ u.lockA = s.lockA ∧ u.lockB = s.lockB ∧
        u.clp = { (s.advance t).clp with line := .joining, joinTimer := some (later t 300000) } ∧
        let faults := n + if disagrees then 1 else 0
        let first := fun (k : FaultKind) (c : Option Chan) =>
          some ({ kind := k, stamp := t, pos := s.ptr.position t, chan := c, cue := none, sender := none } : FaultRec)
        u.flt =
          { counts := (s.flt.counts.set 6 (u.flt.counts.getD 6 0)).set 19 (u.flt.counts.getD 19 0)
            first := s.flt.first.or (if n ≠ 0 then
                first .configClamp (if s.settings.clamped.b.role = s.settings.b.role then none else some .b)
              else if disagrees then first .rasterMismatch none else none)
            more := s.flt.more || decide (1 < faults) || s.flt.first.isSome && decide (faults ≠ 0)
            causes := if faults = 0 then s.flt.causes else s.flt.causes ||| causeFault
            enable := s.flt.enable } ∧
        u = { s with
          timebase := t, clp := u.clp, settings := u.settings, flt := u.flt, mkl := u.mkl, chA := u.chA, chB := u.chB, ovl := u.ovl,
          svc := u.svc }) ∧
      u.straps = s.straps ∧ u.pins = s.pins)

/-- At a picture station START adds the LOCAL entry, with the channel's hold position, chooses it and starts the hold beacon
timer; where no cue runs, nothing is listed and no tally stands afterwards (R39, R41, R45, R49, R50, R63). -/
def Obligations.StartAtAPictureStation : Prop :=
  ∀ (t : Time) (f : CmdFields) (w : BitVec 6) (s : State) (c : Chan), s.portFree (.command 5 f w) → s.quiet = true →
    s.clp.line = .config → s.straps.station.toNat < 24 → s.ptr = .reset → s.settings.clamped.picture = some c →
    let h := holdPosition (s.settings.clamped.chan c) (s.chan c)
    ∃ u, exec (.start t ⟨f, w⟩) s = .next u ∧
      u.ptr = { Ptr.reset with
        sources := some { sender := s.straps.station.toNat, isLocal := true, rank := s.straps.rank.toNat, motion := .stopped,
                          record := none, interval := none, hold := some h, lastBeacon := 0, aging := none } ::
          List.replicate 7 none
        state := .tracking
        chosen := some s.straps.station.toNat
        hold := some h
        holdTimer := some (later t 200000) } ∧
      u.cou.tally = [] ∧ u.csh.due = []

/-! ## Invariants, from every state and over every step -/

/-- No store ever holds more than the spec gives it, and no count leaves its range, the unit counters and the take and pass counts
among them (R11, R20, R23, R26, R30, R33 to R36, R43, R66, R69, R70, R78, R82, R101, R113, R140, R158, R171, R192). -/
def Obligations.SizesAreKept : Prop := ∀ s u : State, s.sized = true → step s = .next u → u.sized = true

/-- What stands in the transmitter agrees with the line state: nothing in CONFIG and DUPLICATE, no STATUS frame and nothing in
flight in JOINING; never two STATUS frames, and none queued while the spacing timer runs; the frame in flight is the copy of the
head of its store, a beacon with its age written in, unless a newer one has taken the slot (R7, R11, R12, R14, R17 to R19). -/
def Obligations.TransmitterContentsAreKept : Prop := ∀ s u : State, s.lineOk = true → step s = .next u → u.lineOk = true

/-- No two entries of the cue table share reel tag and cue id, and no sender has two staged headers; the raster state and what the
overlay holds agree, field lists standing only with a frozen geometry; a latch stands exactly while the key is in PRESSING; and
there is a fault count of each kind (R78, R82, R146 to R148, R154, R165, R166, R192). -/
def Obligations.CuesOverlayKeyAndFaultsAreKept : Prop :=
  ∀ s u : State, step s = .next u →
    (s.cuesOk = true → u.cuesOk = true) ∧ (s.ovl.ok = true → u.ovl.ok = true) ∧ (s.mkl.ok = true → u.mkl.ok = true) ∧
    (s.flt.ok = true → u.flt.ok = true)

/-- While any source is live the reference is TRACKING the preferred one, lowest rank and then lowest sender number; with none it
is not TRACKING; and a sender has one entry. The tally set holds entries only while the reference runs forward, and only a TRACKING
reference moves (R43 to R45, R50 to R52, R140, R142). -/
def Obligations.ReferenceFollowsThePreferredSource : Prop :=
  ∀ s u : State, step s = .next u → (s.sourcesOk = true → u.sourcesOk = true) ∧ (s.tallyOk = true → u.tallyOk = true)

/-- From START on every setting is in its working range, and at most one channel plays each part; and until the next full reset or
RESTART no step changes a setting: from working settings not even a RESTART does, and from a framing position of 0 no command that
completes none (R22, R65, R138, R151, R186, R190). -/
def Obligations.RunningStationKeepsWorkingSettings : Prop :=
  ∀ s u : State, step s = .next u →
    (s.workingOk = true → u.workingOk = true) ∧
    (s.clp.line ≠ .config →
      s.svc.sampled = [] ∧ (∀ i ∈ s.pending.head?, i.wf = true ∧ samplesStraps i = false) ∨
        s.workingOk = true ∧ (∀ i ∈ s.pending.head?, ∀ t st levels, i ≠ .fullReset t st levels) →
      u.settings = s.settings)

/-- A channel moves in its last unit direction with its stall timer running, or stands with it stopped; and the lock of a channel
that does not count with role RECORD keeps its reset values (R26, R27, R65, R77). -/
def Obligations.ChannelsAndLocksStayConsistent : Prop :=
  ∀ s u : State, step s = .next u →
    (s.chA.motionOk = true ∧ s.chB.motionOk = true → u.chA.motionOk = true ∧ u.chB.motionOk = true) ∧
    (s.locksOk = true → u.locksOk = true)

/-- A punch line counts exactly the open punches of its RUNNING cues and a cue light the open lights of the RUNNING cues at its
position, so a line is active only while a cue holds it open, and only in RECORD while the lock of its channel is in SYNC; a cue is
RUNNING only while the reference is playable, and nothing runs before START or once the outputs have been released (R61, R75, R76,
R109, R117 to R127, R131, R136, R143). -/
def Obligations.OutputsCountWhatRunningCuesHoldOpen : Prop :=
  ∀ s u : State, s.outputsOk = true → step s = .next u → u.outputsOk = true

/-- The machine right after a full reset meets every invariant. -/
def Obligations.ResetMeetsEveryInvariant : Prop :=
  State.reset.sized = true ∧ State.reset.lineOk = true ∧ State.reset.tallyOk = true ∧ State.reset.cuesOk = true ∧
  State.reset.ovl.ok = true ∧ State.reset.mkl.ok = true ∧ State.reset.flt.ok = true ∧ State.reset.chA.motionOk = true ∧
  State.reset.chB.motionOk = true ∧ State.reset.locksOk = true ∧ State.reset.sourcesOk = true ∧ State.reset.workingOk = true ∧
  State.reset.heldOk = true ∧ State.reset.outputsOk = true

/-! ## Frames and their bits -/

/-- Every line frame, sent bit by bit as the layout and the check give it, is received as it was sent, with every value of every
field; and a frame with any one bit after the three bits of its class inverted gives no frame (R1, R2, R4, R203). -/
def Obligations.LineFramesDecodeAsSent : Prop :=
  ∀ (sender : BitVec 5) (f : LineFrame), sender.toNat < 24 →
    ((frameBits sender f).head? = some false ∧ (frameBits sender f).length = 25 + payloadLength (frameClass f) ∧
      receiveBits (frameBits sender f).tail = some (sender, f)) ∧
    ∀ k : Nat, 3 ≤ k → k < 24 + payloadLength (frameClass f) →
      receiveBits ((frameBits sender f).tail.set k (!(frameBits sender f).tail.getD k false)) = none

/-- Every service frame is read as it was sent, its not-used bits included: 32 ones are the idle frame, the first bit tells data from
command (R205). The bits of a row are sampled one by one: with `k` bits of a frame sampled before, the first 32 − k of the row
complete that frame, which is taken by its kind, and the rest begin the next (R175, R177), where no run of 64 ones ends (R176); the
straps that a RESTART completed so finds are those last sampled (log entry 8). -/
def Obligations.ServiceFramesDecodeAsSent : Prop :=
  (∀ fr : ServiceFrame, fr.bits.length = 32 ∧ (fr = .idle ∨ false ∈ fr.bits → ServiceFrame.decode fr.bits = fr)) ∧
  ∀ (i : Instr) (t : Time) (fr : ServiceFrame) (s : State), serviceOf i = some (t, fr) → samplesStraps i = false → s.resetActive = false →
    s.svc.sampled.length < 32 → runs64 s.svc.ones fr.bits = false →
    let n := 32 - s.svc.sampled.length
    let s₀ := s.advance t
    let v := takeFrame s.straps (.decode (s.svc.sampled ++ fr.bits.take n))
      { s₀ with svc := { s.svc with sampled := [], ones := onesAfter s.svc.ones (fr.bits.take n) } }
    exec i s = .next { v with svc := { v.svc with sampled := fr.bits.drop n, ones := onesAfter v.svc.ones (fr.bits.drop n) } }

/-! ## Faults and the status exchange -/

/-- Recording a fault (R192 to R194): its count goes up and stays at 255, an empty record takes the kind, the stamp and the fields
its rule names, with the tracker's position where the rule names none, a full one sets its more flag, the FAULT cause is set; and
filling the record is a status change. A status change (R18) acts as `Clp.statusChanged` says; where no STATUS frame finds room it is
TX_OVERFLOW instead, which the change of an emptied record then is too (log entry 20). -/
def Obligations.FaultsAreRecorded : Prop :=
  ∀ (i : FaultInfo) (s : State),
    let lost : FaultRec := { kind := .txOverflow, stamp := s.timebase, pos := s.here, chan := none, cue := none, sender := none }
    (s.flt.first.isSome = true ∨ s.clp.statusLost = false → recordFault i s = s.faulted i) ∧
    (s.flt.first = none → s.clp.statusLost = true → recordFault i s = { s with flt := (s.faulted i).flt.recorded lost }) ∧
    (s.clp.statusLost = false → statusChange s = { s with clp := s.clp.statusChanged }) ∧
    (s.clp.statusLost = true → statusChange s = { s with flt := s.flt.overflowed lost })

/-! ## The receiver and the transmitter -/

/-- The receiver (R3, R4). What ends a frame without effect, a failed check, a class of 7, a bad sender, is recorded in JOINING and
ACTIVE with the sender that was read, and the receiver hunts; in CONFIG and DUPLICATE a complete frame is discarded unexamined. A
dominant bit is a start bit in READY after 11 recessive bit times, is recorded before that and makes the receiver hunt, and sets the
count of a hunting receiver to 0. From HUNT the eleventh recessive bit time since the last dominant bit on the line gives READY: the
recessive bits that end a bad header count, and so, by the model's choice (log entry 42), do those that end a frame with a failed
check. The count is that of the microseconds on a recessive line (log entry 5), from the reading of a completion or a dominant bit as the end of that bit time on, which is the
model's choice (log entry 38). -/
def Obligations.ReceiverEvents : Prop :=
  ∀ (t : Time) (s : State), s.resetActive = false → s.clp.room →
    let count := s.clp.rxCount + since t s.timebase
    (∀ f : FailedFrame, s.clp.rx ≠ .hunt → f.sender.toNat < 24 →
      (s.listening = true → exec (.lineCheck t f) s =
        .next ((s.hunting t (min 11 f.tail)).faulted { kind := .lineCheck, sender := some f.sender })) ∧
      (s.listening = false → exec (.lineCheck t f) s = .next (s.heard t))) ∧
    (s.clp.rx ≠ .hunt → exec (.badClassOrSender t none) s =
      .next (if s.listening then (s.hunting t 3).faulted { kind := .lineFraming } else s.hunting t 3)) ∧
    (∀ (cls : BitVec 3) (n : BitVec 5) (k : Nat), s.clp.rx ≠ .hunt → cls ≠ 7 → 24 ≤ n.toNat →
      (∀ i, i < k → (cls ++ n).getLsbD i = true) → (cls ++ n).getLsbD k = false →
      exec (.badClassOrSender t (some (cls, n))) s =
        .next (if s.listening then (s.hunting t k).faulted { kind := .lineFraming, sender := some n } else s.hunting t k)) ∧
    (s.clp.rx = .ready → count < 11 →
      exec (.framingViolation t) s =
        .next (if s.listening then (s.hunting t 0).faulted { kind := .lineFraming } else s.hunting t 0)) ∧
    (s.clp.rx = .ready → 11 ≤ count →
      exec (.framingViolation t) s =
        .next { s with timebase := t, clp := { s.clp with rx := .receiving, rxCount := 11, rxStamp := t } }) ∧
    (s.clp.rx = .hunt → exec (.framingViolation t) s = .next (s.hunting t 0)) ∧
    (s.clp.rx = .receiving → exec (.framingViolation t) s = .next { s with timebase := t }) ∧
    (s.clp.rx = .hunt → 11 ≤ count →
      exec (.receiverReady t) s = .next { s with timebase := t, clp := { s.clp with rx := .ready, rxCount := 11 } }) ∧
    (s.clp.rx ≠ .hunt ∨ count < 11 → exec (.receiverReady t) s = .next (s.advance t))

/-- A passing frame with the own number that this station did not send moves it to DUPLICATE (R15 to R17, R125, R127, R143): the
transmitter is emptied and its timers stopped, DUP_STATION is recorded, every run ends as an interruption, every output is
released, and the tracker and the definitions stay. -/
def Obligations.OwnNumberGivesDuplicate : Prop :=
  ∀ (t : Time) (s : State), s.resetActive = false → s.clp.rx ≠ .hunt → s.listening = true → s.ctb.entries.length = 32 →
    ∃ u, exec (.ownNumberFrame t) s = .next u ∧
      u.clp = { s.clp with
        line := .duplicate, rx := .ready, rxCount := 0, inFlight := none, queue := [], slot := none, joinTimer := none,
        spacingTimer := none, statusDue := false } ∧
      u.cou = { Cou.reset with released := true } ∧ u.csh = { s.csh with due := [], halted := true } ∧
      u.ctb = { s.ctb with entries := s.withRuns fun _ r => r.interrupted .passed } ∧
      u.flt.counts = ((s.heard t).faulted { kind := .dupStation, sender := some s.own }).flt.counts ∧
      u.flt.first = ((s.heard t).faulted { kind := .dupStation, sender := some s.own }).flt.first ∧
      u.ptr = s.ptr ∧ u.mkl = s.mkl ∧ u.ovl = s.ovl ∧ u.settings = s.settings ∧ u.chA = s.chA ∧ u.chB = s.chB ∧
      u.lockA = s.lockA ∧ u.lockB = s.lockB ∧ u.svc = s.svc

/-- A start bit (R7, R12, R13): in ACTIVE, with the receiver in READY after 11 recessive bit times, the beacon whose age is 4095 µs
or less goes out with its age written in; an older one is withdrawn; else the head of the queue goes out, a STATUS frame filled
from the status of the moment. Anywhere else the command starts nothing, which is the model's choice (log entry 4); bit times are
counted in microseconds (log entry 5), from a completion's reading as the end of its last bit time on, the model's choice too (log
entry 38). -/
def Obligations.TransmitterStarts : Prop :=
  ∀ (t : Time) (s : State), s.resetActive = false →
    let s₀ := s.advance t
    let legal := s.clp.line = .active ∧ s.clp.rx = .ready ∧ 11 ≤ s.clp.rxCount + since t s.timebase ∧ s.clp.inFlight = none
    let sends := fun (c : Clp) (f : LineFrame) (src : TxSource) =>
      ({ s₀ with clp := { c with inFlight := some { frame := f, source := src }, rx := .receiving, rxStamp := t } } : State)
    (¬legal → exec (.transmitStart t) s = .next s₀) ∧
    (legal →
      (∀ b, s.clp.slot = some b → since t b.stamp ≤ 4095 → exec (.transmitStart t) s =
        .next (sends s₀.clp (.beacon { b.beacon with age := BitVec.ofNat 12 (since t b.stamp) }) (.slot false))) ∧
      ((∀ b, s.clp.slot = some b → 4095 < since t b.stamp) →
        (s.clp.queue = [] → exec (.transmitStart t) s = .next { s₀ with clp := { s₀.clp with slot := none } }) ∧
        (∀ q rest, s.clp.queue = q :: rest → exec (.transmitStart t) s = .next (sends { s₀.clp with slot := none }
          (match q with
            | .status => .status s₀.status
            | .frame f => f) .queue))))

/-- How a frame in flight ends (R6, R8 to R10, R12, R19). Lost arbitration leaves it in its store. An own bit error takes it from
its store and records LINE_BIT; where it is the start bit that was read recessive, no dominant bit came and the receiver is still in
READY (R3; told by the reading of the stamp, log entry 5). Completed, it leaves its store, a STATUS frame starting the spacing
timer, and the station hears its own frame: a BEACON and a MARK are discarded, a STATUS marks the own peer entry, and any other is
applied. That the frame leaves its store before LINE_BIT is recorded or the frame is applied the model deduces (log entry 17). -/
def Obligations.TransmitterEnds : Prop :=
  ∀ (t : Time) (s : State) (f : InFlight), s.clp.inFlight = some f → s.resetActive = false →
    let s₀ := s.advance t
    let c := s₀.clp.left f t
    let unread := s.clp.rx = .receiving ∧ s.clp.rxStamp = t
    let gone := { s₀ with clp := if unread then { c with rx := .ready, rxCount := 11 } else c }
    let heard := { s with timebase := t, clp := { s.clp.left f t with rx := .ready, rxCount := 0 } }
    exec (.lostArbitration t) s = .next { s₀ with clp := { s₀.clp with inFlight := none } } ∧
    (gone.clp.room → exec (.ownBitError t) s = .next (gone.faulted { kind := .lineBit, sender := some s.own })) ∧
    exec (.transmitComplete t) s = .next (match f.frame with
      | .beacon _ => heard
      | .mark _ => heard
      | .status _ => { heard with clp := { heard.clp with
          peers := s.clp.peers.set s.own.toNat { s.clp.peers.getD s.own.toNat Peer.reset with heard := true, last := s.clp.rxStamp } } }
      | .punch edge p => applyPunch s.own edge p heard
      | .control op p => applyControl s.own op p heard
      | .cueHead p => stageHead s.own p heard
      | .cueBody p => takeBody s.own p heard)

/-- The timers of the line (R15, R18, R19, R49). The join listen timer in JOINING gives ACTIVE with a STATUS frame placed, or
TX_OVERFLOW where 8 frames stand in the queue, and, where the local channel stands, a HOLD beacon, which carries the LOCAL entry's
hold position (deduced, log entry 27). The spacing timer places a STATUS frame when one is due, or records TX_OVERFLOW. A TX_OVERFLOW
that fills the empty record loses the STATUS frame of that change as well, and so counts twice (deduced, log entry 20). -/
def Obligations.LineTimers : Prop :=
  ∀ (t : Time) (s : State), s.resetActive = false →
    let s₀ := s.advance t
    let lost : FaultRec := { kind := .txOverflow, stamp := t, pos := s.ptr.position t, chan := none, cue := none, sender := none }
    (s.clp.line = .joining → expired t s.clp.joinTimer = true →
      let c : Clp := { s₀.clp with line := .active, joinTimer := none }
      let u := { s₀ with
        clp := if c.statusLost then c else c.statusChanged
        flt := if c.statusLost then s.flt.overflowed lost else s.flt }
      ((∀ ch, s.settings.picture = some ch → ∀ h, s.ptr.localHold = some h → (s.chan ch).motion ≠ .stopped) →
        exec (.joinListenExpiry t) s = .next u) ∧
      (∀ ch, s.settings.picture = some ch → ∀ h, s.ptr.localHold = some h → (s.chan ch).motion = .stopped →
        exec (.joinListenExpiry t) s = .next { u.beaconed (s.holdBeaconOf h) t with
          ptr := { s.ptr with lastBeacon := some t, holdTimer := some (later t 200000) } })) ∧
    (expired t s.clp.spacingTimer = true →
      let c : Clp := { s₀.clp with spacingTimer := none }
      (¬(s.clp.line = .active ∧ s.clp.statusDue = true) →
        exec (.statusSpacingExpiry t) s = .next { s₀ with clp := c }) ∧
      (s.clp.line = .active → s.clp.statusDue = true → s.clp.queue.length < 8 →
        exec (.statusSpacingExpiry t) s = .next { s₀ with clp := { c with statusDue := false, queue := s.clp.queue ++ [.status] } }) ∧
      (s.clp.line = .active → s.clp.statusDue = true → c.statusLost = true →
        exec (.statusSpacingExpiry t) s = .next { s₀ with clp := { c with statusDue := false }, flt := s.flt.overflowed lost }))

/-! ## CONTROL orders -/

/-- Where a completed frame has no effect (R4, R5, R29, R93 to R95, R106 to R109, R196, R200): at a receiver in HUNT, which completes
nothing (log entry 4), in CONFIG and DUPLICATE, and, for a CONTROL frame, when its target is neither the own number nor 31. -/
def Obligations.FramesWithoutEffect : Prop :=
  ∀ (i : Instr) (t stamp : Time) (sender : BitVec 5) (f : LineFrame) (s : State), frameOf i = some (t, stamp, sender, f) →
    s.resetActive = false →
    (s.clp.rx = .hunt → exec i s = .next (s.advance t)) ∧
    (s.clp.rx ≠ .hunt → sender.toNat < 24 → s.listening = false → exec i s = .next (s.heard t)) ∧
    (∀ op p, f = .control op p → s.takes sender → p.target ≠ s.own → p.target ≠ 31 → exec i s = .next (s.heard t))

/-- ARM and ARMREEL (R106, R107): an IDLE entry becomes ARMED, with no position or one below its span start, or PASSED, with its fired
set emptied; an entry in another run state, and a reel and id with no entry, are left. Nothing else changes. -/
def Obligations.ArmOrders : Prop :=
  ∀ (t stamp : Time) (sender : BitVec 5) (p : ControlArgs) (s : State), s.takes sender → s.targeted p.target = true →
    let q := s.ptr.position t
    (∀ i, s.isCue i p.reel p.id = true → ∀ e, s.entry i = some e →
      exec (.arm t stamp sender p) s = .next (if e.run.state = .idle then
        { s.heard t with ctb := { s.ctb with
            entries := s.ctb.entries.set i (some { e with run := { e.run with state := armedState q e.cue, fired := 0 } }) } }
        else s.heard t)) ∧
    (s.noCue p.reel p.id = true → exec (.arm t stamp sender p) s = .next (s.heard t)) ∧
    (s.ctb.entries.length = 32 → exec (.armreel t stamp sender p) s = .next { s.heard t with ctb := { s.ctb with
      entries := s.withRuns fun d r =>
        if d.reel = p.reel ∧ r.state = .idle then { r with state := armedState q d, fired := 0 } else r } })

/-- A run ended as an interruption (R125): the outcome, the punch closed with ABORT and its PUNCH frame queued, the lights and the
tally contribution released, the listed elements removed, CUE_DONE set; the run state becomes PASSED, or IDLE for a disarm. -/
def Obligations.RunsEndAsInterruptions : Prop :=
  ∀ (target : RunState) (i : Nat) (s : State) (e : CueEntry), s.entry i = some e → e.run.state = .running → i < s.ctb.entries.length →
    s.listening = true → s.clp.queue.length < 8 →
    (∀ c, s.settings.recorder e.cue.group = some c → e.run.punchOpen = true → 0 < s.cou.punch c) →
    let closes := fun c => e.run.punchOpen = true ∧ s.settings.recorder e.cue.group = some c
    let args : PunchArgs := { group := BitVec.ofNat 4 (e.cue.group.getD 0), reel := e.cue.reel, id := e.cue.id, reason := 2,
                              frame := frameField (s.here.getD 0), phase := posPhase (s.here.getD 0) }
    endRun target i s = { s with
      ctb := { s.ctb with entries := s.ctb.entries.set i (some { e with run := e.run.interrupted target }) }
      csh := { s.csh with due := s.csh.due.filter fun d => decide (d.entry ≠ i) }
      cou := { s.cou with
        punchA := if closes .a then s.cou.punchA - 1 else s.cou.punchA
        punchB := if closes .b then s.cou.punchB - 1 else s.cou.punchB
        holds := if e.run.lightOpen then
            List.zipWith (fun pos n => if e.cue.mask.getLsbD pos then n - 1 else n) s.settings.served s.cou.holds
          else s.cou.holds
        tally := s.cou.tally.filter fun x => !decide (x.reel = e.cue.reel ∧ x.id = e.cue.id) }
      clp := if closes .a ∨ closes .b then { s.clp with queue := s.clp.queue ++ [.frame (.punch 1 args)] } else s.clp
      flt := { s.flt with causes := if closes .a ∨ closes .b then s.flt.causes ||| causePunch ||| causeCueDone else s.flt.causes ||| causeCueDone } }

/-- Reference boundaries, hold updates and reports at the scheduler (R105, R110 to R115, R126). A report ends every run as an
interruption, empties the due list and re-derives the entries against the position of the moment; PLAYABLE-CHANGE to true changes
nothing. A hold update, and a boundary that is not a forward one of a forward reference, re-derive. A forward boundary fires each
element that lies before its frame, in the order of R104, where the beeps are one place, counting it and recording LATE_FIRE; then, while the reference is playable,
it lists the elements of its frame, at most 24 in all, with their fire times rounded up, firing those already reached, and else
passes the ARMED cues that start by the frame's end as missed; and it arms PASSED cues that lie ahead. A halted scheduler takes
none of these. The model's choices: the scheduler before Cue Outputs before the locks (log entry 13), a late element's action before
its LATE_FIRE (log entry 14), a reference in HOLD with an absent frozen position as no position at
a re-derivation (log entry 40). -/
def Obligations.BoundariesAndReportsMoveTheCues : Prop :=
  [Element.spanStart, .lightOn, .punchIn, .beep1, .beep2, .beep3, .beep4, .punchOut, .lightOff, .spanEnd].map Element.place =
    [0, 1, 2, 3, 3, 3, 3, 4, 5, 6] ∧
  ∀ (r : BRec) (x : Report) (s : State), s.ctb.entries.length = 32 →
    let again := fun (q : Option Int) (d : CueDef) (y : RunPart) =>
      if y.state = .passed ∧ armedState q d = .armed then { y with state := .armed, fired := 0 }
      else if y.state = .armed ∧ armedState q d = .passed then { y with state := .passed }
      else y
    let rederived := fun (q : Option Int) => { s with
      ctb := { s.ctb with entries := s.withRuns (again q) }
      csh := { s.csh with due := s.dueWithout fun e => decide (e.run.state = .armed ∧ armedState q e.cue = .passed) } }
    let without := fun (d : Due) (v : State) => { v with csh := { v.csh with
      due := v.csh.due.filter fun y => !decide (y.entry = d.entry ∧ y.element = d.element) } }
    let start := r.b * 256
    let last := start + 255
    deliverReport x s = lockReport x .b (lockReport x .a
      { schedulerReport x s with cou := { (schedulerReport x s).cou with tally := [] } }) ∧
    (s.csh.halted = true → takeBoundary r s = s ∧ takeHold s = s ∧ schedulerReport x s = s) ∧
    (s.csh.halted = false →
      takeHold s = rederived s.here ∧
      (x = .playable true → schedulerReport x s = s) ∧
      (x ≠ .playable true → schedulerReport x s = { s.runsEnded .passed fun _ => true with
        ctb := { s.ctb with entries := s.withRuns fun d y => again s.here d (y.interrupted .passed) }
        csh := { s.csh with due := [] } }) ∧
      (¬(r.dir = .forward ∧ s.ptr.motion = .forward) → takeBoundary r s = rederived (some start)) ∧
      (r.dir = .forward → s.ptr.motion = .forward → ∀ late, s.lists (fun p => decide (p < start)) (fun _ => 0) late = true →
        let fires := fun (v : State) (d : Due) =>
          match v.entry d.entry with
          | some e =>
            if e.run.state = firesIn d.element then
              let w := fireElement (some start) d.entry d.element (without d v)
              recordFault { kind := .lateFire, pos := some start, cue := some (e.cue.reel, e.cue.id) }
                { w with csh := { w.csh with late := if w.csh.late < 65535 then w.csh.late + 1 else w.csh.late } }
            else without d v
          | none => without d v
        let v := late.foldl fires s
        let back := fun (w : State) => { w with ctb := { w.ctb with entries := w.withRuns fun d y =>
          if y.state = .passed ∧ last < d.ps then { y with state := .armed, fired := 0 } else y } }
        (s.ptr.playable = false ∨ s.ptr.interval = none → takeBoundary r s = back { v with
          ctb := { v.ctb with entries := v.withRuns fun d y => if y.state = .armed ∧ d.ps ≤ last then
            { y with state := .passed, outcome := .missed, punched := false, punchOpen := false, lightOpen := false, punch := .none,
                     passes := if y.passes < 255 then y.passes + 1 else y.passes } else y }
          csh := { v.csh with due := v.dueWithout fun e => decide (e.run.state = .armed ∧ e.cue.ps ≤ last) } }) ∧
        (∀ i, s.ptr.interval = some i → s.ptr.playable = true → ∀ found,
          v.lists (fun p => decide (start ≤ p ∧ p ≤ last)) (fun p => later r.stamp (((p - start).toNat * i + 255) / 256)) found = true →
          let due := v.csh.due ++ found.take (24 - v.csh.due.length)
          takeBoundary r s = back (due.foldl (fun w d =>
            if d ∈ w.csh.due ∧ reached w.timebase d.fire = true then fireElement w.here d.entry d.element (without d w) else w)
            { v with csh := { v.csh with due := due } }))))

/-- DISARM and DISARMALL (R108): an ARMED or PASSED entry becomes IDLE and its listed elements are removed; a RUNNING one is ended as
an interruption first; an IDLE one, and a reel and id with no entry, are left. -/
def Obligations.DisarmOrders : Prop :=
  ∀ (t stamp : Time) (sender : BitVec 5) (p : ControlArgs) (s : State), s.takes sender → s.targeted p.target = true →
    (∀ i, s.isCue i p.reel p.id = true → ∀ e, s.entry i = some e →
      (e.run.state = .running → exec (.disarm t stamp sender p) s = .next (endRun .idle i (s.heard t))) ∧
      (e.run.state ≠ .running → exec (.disarm t stamp sender p) s = .next { s.heard t with
        ctb := { s.ctb with entries := s.ctb.entries.set i (some { e with run := { e.run with state := .idle } }) }
        csh := { s.csh with due := s.csh.due.filter fun d => decide (d.entry ≠ i) } })) ∧
    (s.noCue p.reel p.id = true → exec (.disarm t stamp sender p) s = .next (s.heard t)) ∧
    (s.ctb.entries.length = 32 → exec (.disarmall t stamp sender p) s = .next { (s.heard t).runsEnded .idle fun _ => true with
      ctb := { s.ctb with entries := s.withRuns fun _ r => { r.interrupted .idle with state := .idle } }
      csh := { s.csh with due := s.dueWithout fun _ => true } })

/-- DROP, DROPREEL and DROPALL (R93 to R97): each entry that the order names becomes EMPTY with its listed elements removed, a RUNNING
one from the state that the end of its run as an interruption leaves (punch closed with ABORT, lights and tally released, CUE_DONE:
R125), in increasing index order; each staged header that the order names leaves the set; and the replacement pointer stays. -/
def Obligations.DropOrders : Prop :=
  ∀ (t stamp : Time) (sender : BitVec 5) (p : ControlArgs) (s : State), s.takes sender → s.targeted p.target = true →
    s.ctb.entries.length = 32 →
    let drops := fun (named : CueEntry → Bool) (staged : CueHead → Bool) =>
      .next { (s.heard t).runsEnded .passed named with
        ctb := { s.ctb with
          entries := s.ctb.entries.map fun o => if o.any named then none else o
          staging := s.ctb.staging.filter fun x => !staged x.head }
        csh := { s.csh with due := s.dueWithout named } }
    exec (.drop t stamp sender p) s =
      drops (fun e => decide (e.cue.reel = p.reel ∧ e.cue.id = p.id)) (fun h => decide (h.reel = p.reel ∧ h.id = p.id)) ∧
    exec (.dropreel t stamp sender p) s =
      drops (fun e => decide (e.cue.reel = p.reel) && !e.cue.global) (fun h => decide (h.reel = p.reel ∧ h.global = 0)) ∧
    exec (.dropall t stamp sender p) s = drops (fun _ => true) (fun _ => true)

/-- MODE (R109): arg1 0 gives REHEARSE and 1 RECORD; the present mode changes nothing, a change is a status change, a change to
REHEARSE closes every open punch with ABORT, in increasing index order and in runs that continue; any other arg1 records
CONTROL_UNKNOWN. That the status change, and with it its STATUS frame, comes before the PUNCH frames the model deduces (log entry
17). -/
def Obligations.ModeOrder : Prop :=
  ∀ (t stamp : Time) (sender : BitVec 5) (p : ControlArgs) (s : State), s.takes sender → s.targeted p.target = true →
    s.clp.room →
    let names := fun (m : Mode) => p.arg1.toNat = if m = .rehearse then 0 else 1
    let changed := fun (m : Mode) => ({ s.heard t with csh := { s.csh with mode := m }, clp := (s.heard t).clp.statusChanged } : State)
    (names s.csh.mode → exec (.mode t stamp sender p) s = .next (s.heard t)) ∧
    (p.arg1.toNat = 1 → s.csh.mode = .rehearse → exec (.mode t stamp sender p) s = .next (changed .record)) ∧
    (p.arg1.toNat = 0 → s.csh.mode = .record → s.ctb.entries.length = 32 →
      let closed := (List.range 32).foldl (fun v i => match s.entry i with
        | some e => if e.run.state = .running ∧ e.run.punchOpen = true then closeCuePunch e.cue reasonAbort (s.ptr.position t) v else v
        | none => v) (changed .rehearse)
      exec (.mode t stamp sender p) s = .next { closed with ctb := { s.ctb with entries := s.withRuns fun _ r =>
        if r.state = .running ∧ r.punchOpen = true then { r with punchOpen := false, punch := .aborted } else r } }) ∧
    (2 ≤ p.arg1.toNat → exec (.mode t stamp sender p) s = .next ((s.heard t).faulted { kind := .controlUnknown, sender := some sender }))

/-- WRAP (R29) and an op that names no order (R196): the wrap pair of each counting channel that follows, enabled when S is not above
E; the CONTROL_UNKNOWN fault with the frame's sender. Nothing else changes. -/
def Obligations.WrapAndUnknownOrders : Prop :=
  ∀ (t stamp : Time) (sender : BitVec 5) (op : BitVec 4) (p : ControlArgs) (s : State), s.takes sender → s.targeted p.target = true →
    let follows := fun (g : ChanSettings) => g.role ≠ .none ∧ (g.follow = .on ∨ g.follow = .byRole ∧ g.role = .picture)
    let pair := fun (g : ChanSettings) (ch : Channel) =>
      if follows g then { ch with wrap := { enabled := decide (p.arg1.toInt ≤ p.arg2.toInt), s := p.arg1.toInt, e := p.arg2.toInt } } else ch
    exec (.wrap t stamp sender p) s = .next { s.heard t with chA := pair s.settings.a s.chA, chB := pair s.settings.b s.chB } ∧
    (10 ≤ op.toNat → s.clp.room → exec (.controlUnknown t stamp sender op p) s =
      .next ((s.heard t).faulted { kind := .controlUnknown, sender := some sender }))

/-- ATTENTION (R200): at the station it names, or every station by 31, it sets the ATTN cause and changes nothing else; naming another
station or none it has no effect, and in CONFIG and DUPLICATE it is not applied; the station that sends it takes it when it hears it
back. -/
def Obligations.AttentionOrder : Prop :=
  ∀ (t stamp : Time) (sender : BitVec 5) (p : ControlArgs) (s : State),
    (s.takes sender → exec (.attention t stamp sender p) s =
      .next (if p.target = s.own ∨ p.target = 31 then (s.heard t).alerted causeAttn else s.heard t)) ∧
    (s.resetActive = false → s.clp.rx ≠ .hunt → sender.toNat < 24 → s.clp.line = .config ∨ s.clp.line = .duplicate →
      exec (.attention t stamp sender p) s = .next (s.heard t)) ∧
    (∀ src : TxSource, s.resetActive = false → s.clp.inFlight = some { frame := .control 9 p, source := src } →
      let u := { s with
        timebase := t
        clp := { s.clp.left { frame := .control 9 p, source := src } t with rx := .ready, rxCount := 0 } }
      exec (.transmitComplete t) s = .next (if p.target = s.own ∨ p.target = 31 then u.alerted causeAttn else u))

/-! ## Cue loading -/

/-- CUEHEAD (R82, R83): cue id 0 is discarded with CUE_FIELD; a sender's second header replaces its first at the newest place; a new
sender's header joins while fewer than 4 are staged, and else evicts the oldest with STAGE_EVICT, so that at most 4 stand, one a
sender. The fields are kept as the frame carried them, and nothing else changes. -/
def Obligations.HeadersAreStaged : Prop :=
  ∀ (t stamp : Time) (sender : BitVec 5) (h : CueHead) (s : State), s.takes sender → s.clp.room →
    let new : Staged := { sender := sender.toNat, head := h }
    let staged := fun (l : List Staged) => ({ s.heard t with ctb := { s.ctb with staging := l } } : State)
    let others := s.ctb.staging.filter fun x => decide (x.sender ≠ sender.toNat)
    (h.id = 0 → exec (.cueheadFrame t stamp sender h) s =
      .next ((s.heard t).faulted { kind := .cueField, cue := some (h.reel, 0), sender := some sender })) ∧
    (h.id ≠ 0 → others ≠ s.ctb.staging → exec (.cueheadFrame t stamp sender h) s = .next (staged (others ++ [new]))) ∧
    (h.id ≠ 0 → others = s.ctb.staging → s.ctb.staging.length < 4 →
      exec (.cueheadFrame t stamp sender h) s = .next (staged (s.ctb.staging ++ [new]))) ∧
    (∀ old rest, s.ctb.staging = old :: rest → h.id ≠ 0 → others = s.ctb.staging → 4 ≤ s.ctb.staging.length →
      exec (.cueheadFrame t stamp sender h) s = .next ((staged (rest ++ [new])).faulted
        { kind := .stageEvict, cue := some (old.head.reel, old.head.id), sender := some (BitVec.ofNat 5 old.sender) })) ∧
    ((s.ctb.staging.map fun x => x.sender).Nodup → s.ctb.staging.length ≤ 4 → ∃ u, exec (.cueheadFrame t stamp sender h) s = .next u ∧
      (u.ctb.staging.map fun x => x.sender).Nodup ∧ u.ctb.staging.length ≤ 4)

/-- CUEBODY (R84 to R92): without its own header it is an orphan; with it the header leaves the staging set and the definition,
corrected, with one CUE_FIELD for each correction first, is committed: an update in place of an entry that is not RUNNING, else the
lowest EMPTY entry, else the first IDLE one from the replacement pointer, else TABLE_FULL; a RUNNING entry is CUE_BUSY and corrects
nothing; a definition not for this station withdraws its entry. An update that leaves its entry PASSED keeps the fired set, which is the model's choice (log entry 28), and so is that a reference
in HOLD with an absent frozen position counts as no position when an update re-derives its entry (log entry 40). -/
def Obligations.BodiesCommitTheirCues : Prop :=
  ∀ (t stamp : Time) (sender : BitVec 5) (b : CueBody) (s : State), s.takes sender → s.clp.room → s.ctb.entries.length = 32 →
    let mine := s.ctb.staging.filter fun x => decide (x.sender = sender.toNat)
    let name := some (b.reel, b.id)
    let u := { s.heard t with ctb := { s.ctb with staging := s.ctb.staging.filter fun x => decide (x.sender ≠ sender.toNat) } }
    let run := exec (.cuebodyFrame t stamp sender b) s
    ((mine.all fun x => !decide (x.head.reel = b.reel ∧ x.head.id = b.id)) = true →
      run = .next ((s.heard t).faulted { kind := .orphanBody, cue := name, sender := some sender })) ∧
    (∀ x, mine = [x] → x.head.reel = b.reel → x.head.id = b.id →
      let h := x.head
      let d : CueDef :=
        { id := b.id, reel := b.reel, global := decide (h.global = 1), mask := h.mask, frame := h.frame.toInt, phase := h.phase.toNat,
          group := if h.group.toNat ≤ 15 then some h.group.toNat else none, streamer := b.streamer.toNat, colour := b.colour,
          beeps := min 4 b.beeps.toNat, spacing := if b.beeps = 0 then b.spacing.toNat else max 1 (min 96 b.spacing.toNat),
          light := decide (b.light = 1), lightLead := b.lightLead.toNat, punchLead := b.punchLead.toNat, outOffset := b.outOffset.toNat,
          lightHold := if b.lightHold = 0 ∧ b.light = 1 ∧ b.outOffset = 0 then 1 else b.lightHold.toNat }
      let fixes := [decide (4 < b.beeps.toNat), decide (d.spacing ≠ b.spacing.toNat), decide (16 ≤ h.group.toNat ∧ h.group.toNat ≤ 30),
        decide (d.lightHold ≠ b.lightHold.toNat)].count true
      let noted := (List.range fixes).foldl (fun v _ => recordFault { kind := .cueField, cue := name, sender := some sender } v) u
      let wanted := (s.settings.served.any fun pos => h.mask.getLsbD pos) = true ∨
        h.group.toNat ≤ 15 ∧ (s.settings.recorder (some h.group.toNat)).isSome = true
      let entered := fun (i pointer : Nat) => .next { noted with ctb := { u.ctb with
        entries := s.ctb.entries.set i (some { cue := d, run := RunPart.start }), pointer := pointer } }
      let named := s.noCue b.reel b.id = true
      let rerun := fun (r : RunPart) => if r.state = .idle then r
        else if armedState (s.ptr.position t) d = .armed then { r with state := .armed, fired := 0 }
        else { r with state := .passed }
      (named → ¬wanted → run = .next u) ∧
      (∀ i, s.isCue i b.reel b.id = true → ∀ e, s.entry i = some e →
        (e.run.state = .running → run = .next (u.faulted { kind := .cueBusy, cue := name, sender := some sender })) ∧
        (e.run.state ≠ .running → ¬wanted → run = .next { u with
          ctb := { u.ctb with entries := s.ctb.entries.set i none }
          csh := { s.csh with due := s.csh.due.filter fun y => decide (y.entry ≠ i) } }) ∧
        (e.run.state ≠ .running → wanted → run = .next { noted with
          ctb := { u.ctb with entries := s.ctb.entries.set i (some { cue := d, run := rerun e.run }) }
          csh := { s.csh with due := s.csh.due.filter fun y => decide (y.entry ≠ i) } })) ∧
      (∀ i, i < 32 → s.entry i = none → (∀ j < i, (s.entry j).isSome = true) → named → wanted →
        run = entered i s.ctb.pointer) ∧
      ((∀ i < 32, (s.entry i).isSome = true) → named → wanted →
        (∀ k, k < 32 → s.inState ((s.ctb.pointer + k) % 32) .idle = true →
          (∀ j < k, s.inState ((s.ctb.pointer + j) % 32) .idle = false) →
          run = entered ((s.ctb.pointer + k) % 32) (((s.ctb.pointer + k) % 32 + 1) % 32)) ∧
        ((∀ k < 32, s.inState ((s.ctb.pointer + k) % 32) .idle = false) →
          run = .next (recordFault { kind := .tableFull, cue := name, sender := some sender } noted))) ∧
      (fixes = 0 → noted = u) ∧
      (s.flt.ok = true → noted.ctb = u.ctb ∧ noted.csh = s.csh ∧ noted.flt.counts.getD 10 0 = min 255 (s.flt.counts.getD 10 0 + fixes) ∧
        (fixes ≠ 0 → s.flt.first = none → noted.flt.first =
          some { kind := .cueField, stamp := t, pos := s.ptr.position t, chan := none, cue := name, sender := some sender })))

/-! ## Punch, mark and status frames -/

/-- PUNCH with edge IN (R123, R140): with the reference running forward, a cue of the frame's reel and id whose mask holds a served
position, and no equal entry, a tally entry joins at the newest place, the oldest of 8 leaving first, and a RUNNING cue's PUNCHED
flag is set; in any other case the frame is ignored. -/
def Obligations.PunchInFrames : Prop :=
  ∀ (t stamp : Time) (sender : BitVec 5) (p : PunchArgs) (s : State), s.takes sender → s.ctb.entries.length = 32 →
    let equal := fun (x : Tally) => decide (x.station = sender.toNat ∧ x.reel = p.reel ∧ x.id = p.id)
    let new : Tally := { station := sender.toNat, group := p.group, reel := p.reel, id := p.id, pos := p.frame.toInt * 256 + p.phase.toNat }
    let run := exec (.punchInFrame t stamp sender p) s
    (s.noCue p.reel p.id = true ∨ s.ptr.motion ≠ .forward ∨ s.cou.tally.any equal = true → run = .next (s.heard t)) ∧
    (∀ i, s.isCue i p.reel p.id = true → ∀ e, s.entry i = some e →
      ((s.settings.served.any fun pos => e.cue.mask.getLsbD pos) = false → run = .next (s.heard t)) ∧
      ((s.settings.served.any fun pos => e.cue.mask.getLsbD pos) = true → s.ptr.motion = .forward → s.cou.tally.any equal = false →
        run = .next { s.heard t with
          cou := { s.cou with tally := (if s.cou.tally.length < 8 then s.cou.tally else s.cou.tally.tail) ++ [new] }
          ctb := { s.ctb with entries := if e.run.state = .running then
              s.ctb.entries.set i (some { e with run := { e.run with punched := true } }) else s.ctb.entries } }))

/-- PUNCH with edge OUT (R141): the tally entry equal in record station, reel tag and cue id leaves the set, the others keeping their
order, whatever the reason and the reference; with none equal nothing changes. -/
def Obligations.PunchOutFrames : Prop :=
  ∀ (t stamp : Time) (sender : BitVec 5) (p : PunchArgs) (s : State), s.takes sender →
    exec (.punchOutFrame t stamp sender p) s = .next { s.heard t with
      cou := { s.cou with tally := s.cou.tally.filter fun x => !decide (x.station = sender.toNat ∧ x.reel = p.reel ∧ x.id = p.id) } }

/-- STATUS of a peer (R20, R204) writes its peer table entry with the frame's stamp, and is discarded where a code names no value.
MARK of a peer (R171, R173) is ignored when collect marks is OFF or a code names no value, and else joins the log, discarding the
oldest of 8 with MARK_OVERRUN, and sets the MARK cause. -/
def Obligations.MarkAndStatusFrames : Prop :=
  ∀ (t stamp : Time) (sender : BitVec 5) (m : Mark) (p : Status) (s : State), s.takes sender → s.clp.room →
    (p.refState = 3 ∨ p.lockA = 3 ∨ p.lockB = 3 → exec (.statusFrame t stamp sender p) s = .next (s.heard t)) ∧
    (∀ r a b, refStateOf p.refState = some r → lockStateOf p.lockA = some a → lockStateOf p.lockB = some b →
      exec (.statusFrame t stamp sender p) s = .next { s.heard t with clp := { (s.heard t).clp with
        peers := s.clp.peers.set sender.toNat
          { heard := true, refState := r, motion := motionOf p.motion, mode := if p.mode = 0 then .rehearse else .record, lockA := a,
            lockB := b, fault := decide (p.fault = 1), last := stamp } } }) ∧
    (s.settings.collect = false ∨ m.refState = 3 ∨ 2 ≤ m.mode.toNat → exec (.markFrame t stamp sender m) s = .next (s.heard t)) ∧
    (∀ r, refStateOf m.refState = some r → s.settings.collect = true → m.mode.toNat < 2 →
      let rec_ : MarkRec := { serial := m.serial, station := sender.toNat, latch :=
        { pos := if m.absent = 1 then none else some (m.frame.toInt * 256 + m.phase.toNat), refState := r, motion := motionOf m.motion,
          mode := if m.mode = 0 then .rehearse else .record, cue := if m.id = 0 then none else some (m.reel, m.id) } }
      (s.mkl.log.length < 8 → exec (.markFrame t stamp sender m) s =
        .next ({ s.heard t with mkl := { s.mkl with log := s.mkl.log ++ [rec_] } }.alerted causeMark)) ∧
      (∀ old rest, s.mkl.log = old :: rest → 8 ≤ s.mkl.log.length → exec (.markFrame t stamp sender m) s =
        .next (({ s.heard t with mkl := { s.mkl with log := rest ++ [rec_], overrun := true } }.faulted
          { kind := .markOverrun, cue := old.latch.cue, sender := some (BitVec.ofNat 5 old.station) }).alerted causeMark)))

/-! ## The reference -/

/-- A beacon of a sender without an entry (R42, R43, R45, R50, R58): with an index free it joins at the lowest, and where it is preferred
to every entry the reference enters TRACKING on it, with a JUMP that empties the tally set; where it is not, nothing else changes.
In a full list it takes the place of the REMOTE entry of numerically highest rank, with the same choice then, if its own rank is
lower, and is ignored otherwise. The model's choices at the change of source: the status changes come before the reports (log entry
17), and STOP is among the reports where the new source stands (log entry 37). -/
def Obligations.BeaconsFillTheSourceList : Prop :=
  ∀ (t stamp : Time) (sender : BitVec 5) (p : Beacon) (s : State), s.takes sender → s.sourcesOk = true → s.ptr.sources.length = 8 →
    s.ptr.motion = s.ptr.derivedMotion → s.ptr.playable = s.ptr.isPlayable → s.ptr.remote sender.toNat = none →
    let boundary := p.kind = 0 ∧ p.motion ≠ 0
    let dir : Dir := if p.motion = 1 then .forward else if p.motion = 2 then .reverse else .none
    let e : Source :=
      { sender := sender.toNat, isLocal := false, rank := p.rank.toNat, motion := if boundary then motionOf p.motion else .stopped,
        record := if boundary then some { b := p.frame.toInt, stamp := stamp - p.age.setWidth 32, dir := dir, wrap := decide (p.wrap = 1) } else none,
        interval := if p.interval = 0 then none else some p.interval.toNat,
        hold := if p.kind = 1 then some (p.frame.toInt * 256 + p.phase.toNat) else none, lastBeacon := stamp,
        aging := some (later stamp 500000) }
    let list := s.ptr.sources.filterMap id
    let better := fun (x : Source) => decide (e.rank < x.rank ∨ e.rank = x.rank ∧ e.sender < x.sender)
    let joins := fun (k : Nat) =>
      let q : Ptr := { s.ptr with
        sources := s.ptr.sources.set k (some e), state := .tracking, motion := e.motion, chosen := some sender.toNat,
        recNew := e.record, recOld := none, interval := none, fastDiff := false, hold := e.hold, frozen := none, playable := false }
      (list.all better = true → ∃ u, exec (.beaconFrame t stamp sender p) s = .next u ∧ u.ptr = q ∧ u.cou.tally = [] ∧
        u = (if p.kind = 1 then takeHold else id) ((s.heard t).moved q true false)) ∧
      (list.all better = false → exec (.beaconFrame t stamp sender p) s =
        .next { s.heard t with ptr := { s.ptr with sources := s.ptr.sources.set k (some e) } })
    (∀ k, k < 8 → s.ptr.sources.getD k none = none → (∀ j, j < k → (s.ptr.sources.getD j none).isSome = true) → joins k) ∧
    (∀ k, k < 8 → ∀ c, s.ptr.sources.getD k none = some c → s.ptr.sources.all (fun o => o.isSome) = true → c.isLocal = false →
      (list.all fun x => x.isLocal || decide (x.rank < c.rank ∨ x.rank = c.rank ∧ x.sender ≤ c.sender)) = true →
      (c.rank ≤ p.rank.toNat → exec (.beaconFrame t stamp sender p) s = .next (s.heard t)) ∧
      (p.rank.toNat < c.rank → joins k))

/-- A beacon of a sender with an entry (R42, R45, R50, R52 to R55, R58 to R61). Its entry takes the rank, stamp, timer and interval of
every beacon, motion and record of a BOUNDARY beacon that is not STOPPED, and hold position and motion STOPPED of a HOLD beacon. While
the choice of R45 stays, nothing else changes but by a beacon of the chosen source: a BOUNDARY beacon that is not STOPPED gives the
reference a new record; from it come the interval, the fast difference flag, the motion and playable, and a report empties the tally
set; a HOLD beacon gives the reference its hold position, and moving it over a frame from a standstill is a JUMP. Where a change of
rank changes the choice, the reference enters the preferred entry, with a JUMP. The model's choices: the choice comes first, and the
beacon passes on only where the choice stays (log entry 12); a HOLD beacon leaves the reference FAST while the fast difference flag
is set (log entry 19); status changes come first (log entry 17), then the reports, STOP for every cause (log entry 37), then the
boundary or hold update (R62). -/
def Obligations.ChosenBeaconsMoveTheReference : Prop :=
  ∀ (t stamp : Time) (sender : BitVec 5) (p : Beacon) (s : State), s.takes sender → s.sourcesOk = true →
    s.ptr.motion = s.ptr.derivedMotion → s.ptr.playable = s.ptr.isPlayable → ∀ e, s.ptr.remote sender.toNat = some e →
    let dir : Dir := if p.motion = 1 then .forward else if p.motion = 2 then .reverse else .none
    let r : BRec := { b := p.frame.toInt, stamp := stamp - p.age.setWidth 32, dir := dir, wrap := decide (p.wrap = 1) }
    let h := p.frame.toInt * 256 + p.phase.toNat
    let records := p.kind = 0 ∧ p.motion ≠ 0
    let sources := s.ptr.sources.map fun o => if o = some e then some { e with
        rank := p.rank.toNat, lastBeacon := stamp, aging := some (later stamp 500000)
        interval := if p.interval = 0 then none else some p.interval.toNat
        motion := if records then motionOf p.motion else if p.kind = 1 then .stopped else e.motion
        record := if records then some r else e.record
        hold := if p.kind = 1 then some h else e.hold }
      else o
    let preferred := fun (x : Source) =>
      ((sources.filterMap id).all fun y => decide (x.rank < y.rank ∨ x.rank = y.rank ∧ x.sender ≤ y.sender)) = true
    ∀ k x, sources.getD k none = some x → preferred x →
    (s.ptr.chosen = some x.sender → x.sender ≠ sender.toNat ∨ p.kind = 0 ∧ p.motion = 0 →
      exec (.beaconFrame t stamp sender p) s = .next { s.heard t with ptr := { s.ptr with sources := sources } }) ∧
    (s.ptr.chosen ≠ some x.sender →
      let q : Ptr := { s.ptr with
        sources := sources, motion := x.motion, chosen := some x.sender, recNew := x.record, recOld := none, interval := none,
        fastDiff := false, hold := x.hold, frozen := none, playable := false }
      ∃ u, exec (.beaconFrame t stamp sender p) s = .next u ∧ u.ptr = q ∧ u.cou.tally = [] ∧
        u = (if x.hold.isSome then takeHold else id) ((s.heard t).moved q true false)) ∧
    (s.ptr.chosen = some x.sender → x.sender = sender.toNat → records →
      let steps := consecutive r s.ptr.recNew
      let d := recordGap r s.ptr.recNew
      let fast := steps && decide (d < 8000)
      let motion := if p.motion = 3 ∨ fast = true then Motion.fast else motionOf p.motion
      let turns := turned s.ptr.motion motion || (decide (motion = .fast) && decide (s.ptr.motion ≠ .fast))
      let interval := if turns = false ∧ steps = true ∧ 8000 ≤ d ∧ d ≤ 1000000 then some d else none
      let playable := decide (motion = .forward) && interval.any fun i => decide (16000 ≤ i ∧ i ≤ 125000)
      let jump := sameRun r s.ptr.recNew && !steps
      let q : Ptr := { s.ptr with
        sources := sources, recNew := some r, recOld := s.ptr.recNew,
        interval := interval, fastDiff := fast, motion := motion, playable := playable }
      ∃ u, exec (.beaconFrame t stamp sender p) s = .next u ∧ u.ptr = q ∧ u = takeBoundary r ((s.heard t).moved q jump r.wrap) ∧
        (turns = true ∨ r.wrap = true ∨ playable ≠ s.ptr.playable ∨ jump = true → u.cou.tally = []) ∧
        u.settings = s.settings ∧ u.mkl = s.mkl ∧ u.svc = s.svc ∧ u.ovl = s.ovl) ∧
    (s.ptr.chosen = some x.sender → x.sender = sender.toNat → p.kind = 1 →
      let jump := decide (s.ptr.motion = .stopped) && s.ptr.hold.any fun o => decide (256 < (h - o).natAbs)
      let motion := if s.ptr.fastDiff then Motion.fast else .stopped
      let q : Ptr := { s.ptr with
        sources := sources, hold := some h, motion := motion, playable := false,
        interval := if jump = true ∨ motion = .fast ∧ s.ptr.motion ≠ .fast then none else s.ptr.interval }
      ∃ u, exec (.beaconFrame t stamp sender p) s = .next u ∧ u.ptr = q ∧ u = takeHold ((s.heard t).moved q jump false) ∧
        (jump = true ∨ motion = .stopped ∧ s.ptr.motion ≠ .stopped → u.cou.tally = []) ∧
        u.settings = s.settings ∧ u.mkl = s.mkl ∧ u.svc = s.svc ∧ u.ovl = s.ovl)

/-- The end of a source and the beacons of a standing picture channel (R44, R49, R51, R55). An aged entry leaves the list; where it was
the chosen one the preferred of the others is chosen, with a JUMP; where it was the only one the position predicted at that moment is frozen, the reference goes to HOLD, SOURCE_LOST is recorded and LOSS empties
the tally set. At each expiry of its timer the hold position goes into the LOCAL entry and, in ACTIVE, into the beacon slot. The
model's choices at the change of source: the status changes come before the reports (log entry 17), and STOP is among the reports
where the new source stands (log entry 37). -/
def Obligations.SourcesAgeAndHoldBeaconsRepeat : Prop :=
  ∀ (t : Time) (s : State), s.resetActive = false → s.sourcesOk = true → s.ptr.motion = s.ptr.derivedMotion →
    s.ptr.playable = s.ptr.isPlayable →
    let list := s.ptr.sources.filterMap id
    let s₀ := s.advance t
    (∀ n : BitVec 5, ∀ e, s.ptr.remote n.toNat = some e → expired t e.aging = true →
      let sources := s.ptr.sources.map fun o => if o = some e then none else o
      (s.ptr.chosen ≠ some n.toNat →
        exec (.sourceAgingExpiry t n) s = .next { s₀ with ptr := { s.ptr with sources := sources } }) ∧
      (∀ k x, s.ptr.sources.getD k none = some x → x ≠ e → s.ptr.chosen = some n.toNat →
        (list.all fun y => decide (y = e) || decide (x.rank < y.rank ∨ x.rank = y.rank ∧ x.sender ≤ y.sender)) = true →
        let q : Ptr := { s.ptr with
          sources := sources, motion := x.motion, chosen := some x.sender, recNew := x.record, recOld := none, interval := none,
          fastDiff := false, hold := x.hold, frozen := none, playable := false }
        ∃ u, exec (.sourceAgingExpiry t n) s = .next u ∧ u.ptr = q ∧ u.cou.tally = [] ∧
          u = (if x.hold.isSome then takeHold else id) (s₀.moved q true false)) ∧
      (list = [e] → s.clp.room → s.flt.ok = true → ∃ u, exec (.sourceAgingExpiry t n) s = .next u ∧
        let q := s.ptr.position t
        u.ptr = { s.ptr with
          sources := sources, state := .hold, motion := .stopped, chosen := none, interval := none, fastDiff := false, hold := q,
          frozen := q, playable := false } ∧
        u.flt.counts.getD 9 0 = min 255 (s.flt.counts.getD 9 0 + 1) ∧
        (s.flt.first = none →
          u.flt.first = some { kind := .sourceLost, stamp := t, pos := q, chan := none, cue := none, sender := some n }) ∧
        u.cou.tally = [])) ∧
    (∀ c, s.settings.picture = some c → (s.chan c).motion = .stopped → expired t s.ptr.holdTimer = true →
      let h := holdPosition (s.settings.chan c) (s.chan c)
      let sources := s.ptr.sources.map fun o => o.map fun e => if e.isLocal then { e with hold := some h } else e
      ∃ u, exec (.holdBeaconTimerExpiry t) s = .next u ∧
        u.clp.slot = (if s.clp.line = .active then some { beacon := s.holdBeaconOf h, stamp := t } else s.clp.slot) ∧
        u.ptr.sources = sources ∧ u.ptr.lastBeacon = some t ∧ u.ptr.holdTimer = some (later t 200000) ∧
        u.ptr.hold = (if s.ptr.followsLocal then some h else s.ptr.hold) ∧
        (s.ptr.followsLocal = false → s.clp.line ≠ .active →
          u = { s₀ with ptr := { s.ptr with sources := sources, lastBeacon := some t, holdTimer := some (later t 200000) } }))

/-- The local PICTURE channel at the tracker (R46 to R49, R53, R62). A boundary record of the moving channel gives the channel interval
and the LOCAL entry its record; a BOUNDARY beacon carries it, one in 40 ms with motion FAST while records come under 8 ms apart; and
a reference that follows the LOCAL entry takes the record. A record of the STOPPED channel, an index pulse after a stall, places no
beacon, leaves timer and last beacon, and gives the hold position as well. A change of motion clears the channel interval, and with
STOPPED gives the LOCAL entry and the reference that follows it the hold position, and a HOLD beacon. The model's choices: the
reference stays FAST at a stall while the fast difference flag is set (log entry 19), a STOPPED channel places no FAST beacon either
(log entry 18), status changes come before the reports (log entry 17), and a record comes before the hold update (log entry 11). -/
def Obligations.PictureRecordsAndMotion : Prop :=
  ∀ (c : Chan) (s : State), s.ptr.motion = s.ptr.derivedMotion → s.ptr.playable = s.ptr.isPlayable →
    let ch := s.chan c
    let withLocal := fun (f : Source → Source) => s.ptr.sources.map fun o => o.map fun e => if e.isLocal then f e else e
    let fits := fun (i : Option Nat) (m : Motion) => decide (m = .forward) && i.any fun n => decide (16000 ≤ n ∧ n ≤ 125000)
    let turns := fun (m : Motion) => turned s.ptr.motion m || (decide (m = .fast) && decide (s.ptr.motion ≠ .fast))
    (∀ r, ch.recNew = some r → ch.motion ≠ .stopped →
      let gap := recordGap r ch.recOld
      let interval := if consecutive r ch.recOld = true ∧ gap ≤ 1000000 then some gap else none
      let fast := consecutive r ch.recOld && decide (gap < 8000)
      let due := !fast || s.ptr.lastBeacon.all fun last => decide (40000 ≤ since r.stamp last)
      let b : Beacon :=
        { rank := s.straps.rank, motion := if fast then 3 else if r.dir = .reverse then 2 else 1, kind := 0, wrap := if r.wrap then 1 else 0,
          frame := BitVec.ofInt 24 r.b, phase := 0, interval := BitVec.ofNat 20 (interval.getD 0), age := 0 }
      let v := if due then s.beaconed b r.stamp else s
      let p : Ptr := { s.ptr with
        sources := withLocal fun e => { e with record := some r, interval := interval, motion := if fast then .fast else ch.motion }
        chanInterval := interval
        lastBeacon := if due then some r.stamp else s.ptr.lastBeacon }
      (s.ptr.followsLocal = false → pictureRecord c r s = { v with ptr := p }) ∧
      (s.ptr.followsLocal = true →
        let steps := consecutive r s.ptr.recNew
        let d := recordGap r s.ptr.recNew
        let fast₁ := steps && decide (d < 8000)
        let m := if fast = true ∨ fast₁ = true then Motion.fast else ch.motion
        let i := if turns m = false ∧ steps = true ∧ 8000 ≤ d ∧ d ≤ 1000000 then some d else none
        let q : Ptr := { p with recNew := some r, recOld := s.ptr.recNew, interval := i, fastDiff := fast₁, motion := m, playable := fits i m }
        (pictureRecord c r s).ptr = q ∧
        pictureRecord c r s = takeBoundary r ({ v with ptr := p }.moved q (sameRun r s.ptr.recNew && !steps) r.wrap))) ∧
    (∀ r, ch.recNew = some r → ch.motion = .stopped →
      let gap := recordGap r ch.recOld
      let interval := if consecutive r ch.recOld = true ∧ gap ≤ 1000000 then some gap else none
      let h := holdPosition (s.settings.chan c) ch
      let p : Ptr := { s.ptr with
        sources := withLocal fun e => { e with record := some r, interval := interval, motion := .stopped, hold := some h }
        chanInterval := interval }
      (s.ptr.followsLocal = false → pictureRecord c r s = { s with ptr := p }) ∧
      (s.ptr.followsLocal = true →
        let steps := consecutive r s.ptr.recNew
        let d := recordGap r s.ptr.recNew
        let fast₁ := steps && decide (d < 8000)
        let m := if fast₁ then Motion.fast else .stopped
        let leaps := decide (s.ptr.motion = .stopped) && s.ptr.hold.any fun o => decide (256 < (h - o).natAbs)
        let i := if leaps = false ∧ turns m = false ∧ steps = true ∧ 8000 ≤ d ∧ d ≤ 1000000 then some d else none
        let q : Ptr := { p with
          recNew := some r, recOld := s.ptr.recNew, interval := i, fastDiff := fast₁, motion := m, playable := false, hold := some h }
        (pictureRecord c r s).ptr = q ∧
        pictureRecord c r s = takeHold (takeBoundary r ({ s with ptr := p }.moved q (sameRun r s.ptr.recNew && !steps || leaps) r.wrap)))) ∧
    (let h := holdPosition (s.settings.chan c) ch
     let stands := decide (ch.motion = .stopped)
     let v := if stands then s.beaconed (s.holdBeaconOf h) s.timebase else s
     let p : Ptr := { s.ptr with
       sources := withLocal fun e => { e with motion := ch.motion, interval := none, hold := if stands then some h else e.hold }
       chanInterval := none
       lastBeacon := if stands then some s.timebase else s.ptr.lastBeacon
       holdTimer := if stands then some (later s.timebase 200000) else none }
     (s.ptr.followsLocal = false → pictureMotion c s = { v with ptr := p }) ∧
     (s.ptr.followsLocal = true →
       let jump := stands && decide (s.ptr.motion = .stopped) && s.ptr.hold.any fun o => decide (256 < (h - o).natAbs)
       let m := if s.ptr.fastDiff then Motion.fast else ch.motion
       let i := if jump = true ∨ turns m = true then none else s.ptr.interval
       let q : Ptr := { p with hold := if stands then some h else s.ptr.hold, interval := i, motion := m, playable := fits i m }
       (pictureMotion c s).ptr = q ∧
       pictureMotion c s = (if stands then takeHold else id) ({ v with ptr := p }.moved q jump false)))

/-! ## The tach channels -/

/-- An edge of P1 or P2 (R23 to R27, R30 to R34): where the pin does not change level, or the channel does not count, or the edge
returns the pin to the recorded level, only the pin follows; within G of the last accepted edge it is a glitch; accepted, it is
recorded, and is a unit by the decode mode, which the channel counts. A change of motion goes to the tracker or the lock first; where
the frame is full a boundary step then goes there as well, or is COUNT_RANGE. Nothing else changes. The model's choices: an edge to
the level the pin has changes nothing (log entry 4), and G is compared with the difference of the readings modulo 2³² after any time
(log entry 36). -/
def Obligations.TachEdgesCountUnits : Prop :=
  ∀ (t : Time) (c : Chan) (line : TachLine) (level : Bool) (s : State), s.resetActive = false →
    let g := s.settings.chan c
    let ch := s.chan c
    let l := ch.line line
    let s₁ := { s.advance t with pins := setPin s.pins c line level }
    let run := exec (.tachEdge t c line level) s
    let examined := pinOf s.pins c line ≠ level ∧ s.clp.line ≠ .config ∧ g.role ≠ .none ∧ l.level ≠ some level
    let free := (g.glitch = 0 ∨ (l.edge.all fun e => decide (g.glitch ≤ since t e)) = true)
    (pinOf s.pins c line = level → run = .next (s.advance t)) ∧
    (pinOf s.pins c line ≠ level → ¬examined → run = .next s₁) ∧
    (examined → ¬free → run = .next (s₁.withChan c { ch with glitches := (ch.glitches + 1) % 65536 })) ∧
    (examined → free →
      let ch₁ := ch.setLine line { level := some level, edge := some t }
      let same := decide (ch₁.p1.level.getD false = ch₁.p2.level.getD false)
      let unit := if g.pulse then decide (line = .p1) && level else true
      let forward := if g.pulse then ch.p2.level.getD false else if line = .p1 then !same else same
      (unit = false → run = .next (s₁.withChan c ch₁)) ∧
      (unit = true → ∃ u, run = .next u ∧ u.chan c = ch₁.counted g forward t ∧ u.chan (otherChan c) = s.chan (otherChan c) ∧
        u.pins = s₁.pins ∧ u.settings = s.settings ∧ u.mkl = s.mkl ∧ u.ovl = s.ovl ∧ u.svc = s.svc ∧
        let marked := s₁.withChan c (ch₁.markUnit forward t)
        let v := if ch.motion = (if forward then .forward else .reverse) then marked
          else if g.role = .picture then pictureMotion c marked else lockMotion c marked
        let w := v.withChan c (ch₁.counted g forward t)
        (ch₁.atBoundary g forward = false → u = w) ∧
        (ch₁.atBoundary g forward = true → ch₁.mayStep g.offset forward = false →
          u = recordFault { kind := .countRange, chan := some c } w) ∧
        (ch₁.atBoundary g forward = true → ch₁.mayStep g.offset forward = true → ∀ r, (ch₁.counted g forward t).recNew = some r →
          r.stamp = t ∧ u = if g.role = .picture then pictureRecord c r w else lockBoundary c r w)))

/-- An edge of IX (R23, R35 to R37) with index use ON: a rising one is a pulse in the last unit direction, which slips when the unit
counter is not at the frame's end, with TACH_SLIP, and takes a boundary step either way, which goes to the tracker or the lock or is
COUNT_RANGE; a falling one, and one before any unit, is only recorded. The stall timer's expiry (R27) gives STOPPED, delivered to
the channel's block. The model's choices: an edge to the level the pin has changes nothing (log entry 4), and G is compared with the
difference of the readings modulo 2³² after any time (log entry 36). -/
def Obligations.IndexPulsesAndStalls : Prop :=
  ∀ (t : Time) (c : Chan) (level : Bool) (s : State), s.resetActive = false → s.flt.ok = true →
    let g := s.settings.chan c
    let ch := s.chan c
    let u₀ := if g.units = 0 then 1 else g.units
    let s₁ := { s.advance t with pins := setIndexPin s.pins c level }
    let run := exec (.indexPulse t c level) s
    let examined := indexPinOf s.pins c ≠ level ∧ s.clp.line ≠ .config ∧ g.role ≠ .none ∧ g.index = true ∧ ch.ix.level ≠ some level
    let free := (g.glitch = 0 ∨ (ch.ix.edge.all fun e => decide (g.glitch ≤ since t e)) = true)
    let ch₁ := { ch with ix := { level := some level, edge := some t } }
    (indexPinOf s.pins c = level → run = .next (s.advance t)) ∧
    (indexPinOf s.pins c ≠ level → ¬examined → run = .next s₁) ∧
    (examined → ¬free → run = .next (s₁.withChan c { ch with glitches := (ch.glitches + 1) % 65536 })) ∧
    (examined → free → level = false ∨ ch.lastDir = none → run = .next (s₁.withChan c ch₁)) ∧
    (examined → free → level = true → ∀ forward, ch.lastDir = some forward →
      let slips := if forward then decide (ch.unit ≠ u₀) else decide (ch.unit ≠ 0)
      let ch₂ := { ch₁ with slips := if slips = true ∧ ch.slips < 255 then ch.slips + 1 else ch.slips }
      ∃ u, run = .next u ∧ u.chan c = ch₂.boundary g.offset forward t (if forward then 0 else u₀ - 1) ch.unit ∧
        u.chan (otherChan c) = s.chan (otherChan c) ∧ u.pins = s₁.pins ∧ u.settings = s.settings ∧ u.mkl = s.mkl ∧ u.ovl = s.ovl ∧
        u.flt.counts.getD 7 0 = (if slips then min 255 (s.flt.counts.getD 7 0 + 1) else s.flt.counts.getD 7 0) ∧
        u.flt.counts.getD 8 0 =
          (if ch.mayStep g.offset forward then s.flt.counts.getD 8 0 else min 255 (s.flt.counts.getD 8 0 + 1)) ∧
        let v := s₁.withChan c ch₂
        let w := (if slips then recordFault { kind := .tachSlip, chan := some c } v else v).withChan c (u.chan c)
        (ch.mayStep g.offset forward = false → u = recordFault { kind := .countRange, chan := some c } w) ∧
        (ch.mayStep g.offset forward = true → ∀ r, (u.chan c).recNew = some r →
          u = if g.role = .picture then pictureRecord c r w else lockBoundary c r w)) ∧
    (expired t ch.stall = true → ∃ u, exec (.tachStallExpiry t c) s = .next u ∧ u.chan c = { ch with motion := .stopped, stall := none } ∧
      (let v := (s.advance t).withChan c (u.chan c)
       u = if g.role = .picture then pictureMotion c v else if g.role = .record then lockMotion c v else v) ∧
      u.chan (otherChan c) = s.chan (otherChan c) ∧ u.pins = s.pins ∧ u.settings = s.settings ∧ u.mkl = s.mkl ∧ u.ovl = s.ovl ∧
      (g.role = .record → (u.lock c).state = .unlocked ∧ u.ptr = s.ptr) ∧
      (g.role = .picture → u.ptr.holdTimer = some (later t 200000) ∧ u.ptr.lastBeacon = some t ∧ u.ptr.chanInterval = none))

/-- Boundaries, motion changes and reports at a lock (R66 to R75): no boundary counts while the channel stands; one against the
reference's motion, or at a reference that does not move, gives UNLOCKED; else the error to the predicted position at the
boundary's stamp is measured, three good ones in a row give SYNC and two bad ones take it away. STOP, FAST and LOSS give UNLOCKED,
JUMP and WRAP at most CHASING, REVERSAL and PLAYABLE-CHANGE nothing. A change of state sets the LOCK cause and is a status change;
leaving SYNC then closes the open punches of the channel in increasing index order (R75, R135): the run part gets result DROPPED, the
punch closes with a PUNCH OUT frame of reason DROPOUT and the PUNCH cause, and PUNCH_DROPOUT is recorded with channel, cue and
position. -/
def Obligations.LocksMeasureBoundaries : Prop :=
  ∀ (c : Chan) (r : BRec) (s : State), s.clp.room → s.clp.queue.length < 8 → s.ctb.entries.length = 32 →
    let l := s.lock c
    let moved := fun (x : Lock) =>
      { (s.withLock c x).alerted causeLock with clp := s.clp.statusChanged }
    let open_ := fun (d : CueDef) (x : RunPart) => decide (x.state = .running ∧ x.punchOpen = true ∧ s.settings.recorder d.group = some c)
    let leaves := fun (x : Lock) (v : State) =>
      v.lock c = x ∧ v.lock (otherChan c) = s.lock (otherChan c) ∧ v.flt.causes.getLsbD 3 = true ∧
      v.ctb = { s.ctb with entries := s.withRuns fun d y => if open_ d y then { y with punchOpen := false, punch := .dropped } else y } ∧
      v.cou.punch c = s.cou.punch c - s.runningCount (fun e => e.run.punchOpen && decide (s.settings.recorder e.cue.group = some c)) ∧
      v.ptr = s.ptr ∧ v.csh = s.csh ∧ v.settings = s.settings ∧
      v = { (List.range 32).foldl (fun w i => match s.entry i with
          | some e => if open_ e.cue e.run then
              recordFault { kind := .punchDropout, pos := s.here, chan := some c, cue := some (e.cue.reel, e.cue.id) }
                (closePunch c e.cue 1 s.here w)
            else w
          | none => w) (moved x) with ctb := v.ctb } ∧
      (s.noneRunning (fun e => open_ e.cue e.run) = true → v = moved x)
    let unlocks := fun (v : State) =>
      (l.state = .unlocked → v = s) ∧ (l.state = .chasing → v = moved ⟨.unlocked, l.err, 0, 0⟩) ∧
      (l.state = .sync → leaves ⟨.unlocked, l.err, 0, 0⟩ v)
    let moving := s.ptr.state = .tracking ∧ (s.ptr.motion = .forward ∨ s.ptr.motion = .reverse)
    let along := s.ptr.motion = .forward ∧ r.dir = .forward ∨ s.ptr.motion = .reverse ∧ r.dir = .reverse
    let stands := (s.chan c).motion = .stopped
    (∀ (d : CueDef) (reason : BitVec 2) (q : Option Int),
      (s.cou.punch c = 0 → closePunch c d reason q s = s) ∧
      (0 < s.cou.punch c → s.listening = true → closePunch c d reason q s = { s.alerted causePunch with
        cou := s.cou.setPunch c (s.cou.punch c - 1)
        clp := { s.clp with queue := s.clp.queue ++ [.frame (.punch 1 (punchOf d reason q))] } })) ∧
    (stands → lockBoundary c r s = s) ∧
    (¬stands → ¬(moving ∧ along) → unlocks (lockBoundary c r s)) ∧
    (¬stands → moving → along → s.ptr.interval = none ∨ s.ptr.position r.stamp = none → lockBoundary c r s = s) ∧
    (¬stands → moving → along → s.ptr.interval.isSome = true → ∀ p, s.ptr.position r.stamp = some p →
      let err := max (-32767) (min 32767 (r.b * 256 - p))
      let good := err.natAbs ≤ s.settings.tolerance
      let bad₁ := if l.bad < 255 then l.bad + 1 else l.bad
      let v := lockBoundary c r s
      (l.state = .unlocked → v = moved ⟨.chasing, err, if good then 1 else 0, if good then 0 else 1⟩) ∧
      (l.state = .chasing → ¬good → v = s.withLock c ⟨.chasing, err, 0, bad₁⟩) ∧
      (l.state = .chasing → good → l.good < 2 → v = s.withLock c ⟨.chasing, err, l.good + 1, 0⟩) ∧
      (l.state = .chasing → good → 2 ≤ l.good → v = moved ⟨.sync, err, 0, 0⟩) ∧
      (l.state = .sync → good → v = s.withLock c ⟨.sync, err, if l.good < 255 then l.good + 1 else l.good, 0⟩) ∧
      (l.state = .sync → ¬good → l.bad = 0 → v = s.withLock c ⟨.sync, err, 0, 1⟩) ∧
      (l.state = .sync → ¬good → l.bad ≠ 0 → leaves ⟨.chasing, err, 0, 0⟩ v)) ∧
    (stands ∨ moving ∧ (s.chan c).motion ≠ s.ptr.motion → unlocks (lockMotion c s)) ∧
    (¬(stands ∨ moving ∧ (s.chan c).motion ≠ s.ptr.motion) → lockMotion c s = s) ∧
    (s.lockActs c = true →
      (∀ x : Report, x = .stop ∨ x = .fast ∨ x = .loss → unlocks (lockReport x c s)) ∧
      (∀ x : Report, x = .jump ∨ x = .wrap →
        (l.state = .unlocked → lockReport x c s = s) ∧
        (l.state = .chasing → lockReport x c s = s.withLock c ⟨.chasing, l.err, 0, 0⟩) ∧
        (l.state = .sync → leaves ⟨.chasing, l.err, 0, 0⟩ (lockReport x c s))) ∧
      lockReport .reversal c s = s ∧ ∀ b, lockReport (.playable b) c s = s)

/-! ## Elements and tone -/

/-- The element timer (R112 to R122) and the tone gate (R139). The first listed element leaves the list when its fire time is
reached, and not before; on an entry in the run state that it acts in, it joins the fired set and acts: on the run part, the punch
lines with their PUNCH frames, the cue lights and the tone gate. PUNCH_IN without SYNC is PUNCH_NOSYNC. The gate closes at its end. The model's choices: the row fires the first of the list (log entry
21), a row before its time does nothing (log entry 3), and an element met in another run state does not join the fired set (log
entry 28). -/
def Obligations.ElementsFireOnTime : Prop :=
  ∀ (t : Time) (s : State), s.resetActive = false →
    let s₀ := s.advance t
    let q := s.ptr.position t
    (s.csh.due = [] → exec (.elementTimerExpiry t) s = .next s₀) ∧
    (∀ d rest, s.csh.due = d :: rest →
      let el := d.element
      let run := exec (.elementTimerExpiry t) s
      let others := s.csh.due.filter fun x => !decide (x.entry = d.entry ∧ x.element = el)
      (reached t d.fire = false → run = .next s₀) ∧
      (reached t d.fire = true → run = .next (fireElement q d.entry el { s₀ with csh := { s.csh with due := others } })) ∧
      (reached t d.fire = true → ∀ e, s.entry d.entry = some e →
        (e.run.state ≠ firesIn el → run = .next { s₀ with csh := { s.csh with due := others } }) ∧
        (e.run.state = firesIn el → s.listening = true → s.clp.queue.length < 8 → d.entry < s.ctb.entries.length →
          let leavesRun := el = .spanEnd ∨ el = .spanStart ∧ s.ptr.playable = false
          let edge := (s.punches el e .a).or (s.punches el e .b)
          let frames := match edge with
            | some true => [QFrame.frame (.punch 0 (punchOf e.cue 0 q))]
            | some false => [QFrame.frame (.punch 1 (punchOf e.cue 0 q))]
            | none => []
          let u := { s₀ with
            csh := { s.csh with due := if leavesRun then s.csh.due.filter fun x => decide (x.entry ≠ d.entry) else others }
            ctb := { s.ctb with entries := s.ctb.entries.set d.entry (some { e with run := s.runAfter el e }) }
            cou := s.couAfter t el e
            clp := { s₀.clp with queue := s.clp.queue ++ frames }
            flt := { s.flt with causes := s.flt.causes ||| (if frames = [] then 0 else causePunch) ||| (if el = .spanEnd then causeCueDone else 0) } }
          (∀ c, el = .punchIn → s.opensOn e.cue = some c → (s.lock c).state ≠ .sync →
            run = .next (u.faulted { kind := .punchNosync, pos := q, chan := some c, cue := some (e.cue.reel, e.cue.id) })) ∧
          (¬(el = .punchIn ∧ (s.opensOn e.cue).any fun c => decide ((s.lock c).state ≠ .sync)) → run = .next u)))) ∧
    (∀ g, s.cou.gate = some g → exec (.toneGateEnd t) s =
      .next (if reached t g.finish then { s₀ with cou := { s.cou with gate := none } } else s₀))

/-! ## The overlay and the key -/

/-- A VSYNC edge (R145 to R149, R152): the field is measured and moves the raster state; the fourth field that matches settles, and is
tested against a frozen geometry; the watch restarts. Its expiry loses the signal, and FRONT_LIST_SWAP (R155) moves the back list
to the front. Before its deadline SIGNAL_WATCH_EXPIRY changes nothing, the model's choice (log entry 3). -/
def Obligations.FieldsMeasureTheRaster : Prop :=
  ∀ (t : Time) (lines : Nat) (pixels : List Nat) (s : State), s.resetActive = false → s.flt.ok = true →
    let s₀ := s.advance t
    let m := fieldMeasured lines pixels
    let o₁ := { s.ovl with watch := some (later t 100000), last := some m }
    let run := s.ovl.run.joined m
    let settles : Settled := { total := run.total, least := run.least, greatest := run.greatest }
    let within := fun (n : Nat) (g : Geometry) => n = g.lines ∨ n = g.lines + 1
    let captured : Geometry := { total := run.total, start := run.total / 8, width := run.total * 3 / 4, lines := run.least,
                                 first := run.least / 12, active := run.least * 5 / 6 }
    (∃ u, exec (.vsyncEdge t lines pixels) s = .next u ∧
      let o := { u.ovl with back := s.ovl.back }
      (u.ovl.frozen = none → u.ovl.back = s.ovl.back) ∧ (u.ovl.raster ≠ .mismatch → u = { s₀ with ovl := u.ovl }) ∧
      (s.ovl.raster = .noSignal → o = { s.ovl with watch := some (later t 100000), raster := .acquiring, run := ⟨0, 0, 0, 0⟩ }) ∧
      (s.ovl.raster = .acquiring →
        (run.count ≠ 4 → o = { o₁ with run := run }) ∧
        (run.count = 4 → s.ovl.frozen = none → o = { o₁ with
          run := run, settled := some settles, raster := .stable
          frozen := if s.clp.line ≠ .config ∧ s.settings.programmed = false then some captured else none }) ∧
        (∀ g, s.ovl.frozen = some g → run.count = 4 →
          let agrees := run.total = g.total ∧ within run.least g ∧ within run.greatest g
          o = { o₁ with run := run, settled := some settles, raster := if agrees then .stable else .mismatch } ∧
          u.flt.counts.getD 19 0 = (if agrees then s.flt.counts.getD 19 0 else min 255 (s.flt.counts.getD 19 0 + 1)))) ∧
      (∀ d, s.ovl.settled = some d → s.ovl.raster = .stable ∨ s.ovl.raster = .mismatch →
        let holds := match s.ovl.raster, s.ovl.frozen with
          | .stable, some g => decide (m.total = some g.total ∧ within m.lines g)
          | _, _ => decide (m.total = some d.total ∧ d.greatest ≤ m.lines + 1 ∧ m.lines ≤ d.least + 1)
        (holds = true → o = o₁) ∧
        (holds = false → o = { o₁ with raster := .acquiring, settled := none, run := match m.total with
          | some p => ⟨1, p, m.lines, m.lines⟩
          | none => ⟨0, 0, 0, 0⟩ }))) ∧
    exec (.signalWatchExpiry t) s = .next (if expired t s.ovl.watch then
      { s₀ with ovl := { s.ovl with
          raster := .noSignal, watch := none, run := ⟨0, 0, 0, 0⟩, settled := none, back := .empty, front := .empty } } else s₀) ∧
    exec (.frontListSwap t) s = .next (if s.ovl.frozen.isSome then
      { s₀ with ovl := { s.ovl with front := s.ovl.back, back := .empty } } else s₀)

/-- The back list that a VSYNC edge builds for a frozen geometry (R154, R157, R158, R160, R161): the streamers of the RUNNING cues with a
served position whose cue point lies ahead of the reference within their length, the nearest 4, nearest first, each at its pixel;
a flash of a cue point within the last two frames, the latest, then the lower index; the border while there is a tally or an open
punch. In STABLE with a frozen geometry KEY and COL0 to COL2 draw the front list over the active area, the flash over the streamers,
the first listed streamer over the others, and the border below them; else they are inactive (R150, R153, R159, R162). -/
def Obligations.FieldListsShowTheCues : Prop :=
  (∀ (t : Time) (lines : Nat) (pixels : List Nat) (s : State), s.resetActive = false → s.ctb.entries.length = 32 →
    ∃ u, exec (.vsyncEdge t lines pixels) s = .next u ∧ ∀ g, u.ovl.frozen = some g →
      let list := u.ovl.back
      (list.border = true ↔ s.cou.tally ≠ [] ∨ s.noneRunning (fun e =>
        e.run.punchOpen && s.settings.served.any fun p => e.cue.mask.getLsbD p) = false) ∧
      (s.ptr.position t = none → list.streamers = [] ∧ list.flash = none) ∧
      (∀ p, s.ptr.position t = some p →
        list.streamers.length = min 4 ((s.ctb.entries.filterMap id).countP fun e => s.streams p e) ∧
        (list.streamers.all fun x => (s.entry x.entry).any fun e => s.streams p e && decide (x.r = e.cue.point - p ∧ x.colour = e.cue.colour ∧
          x.x = g.start + (g.width * (e.cue.streamer * 256 - x.r).toNat) / (e.cue.streamer * 256))) = true ∧
        list.streamers.Pairwise (fun x y => x.r < y.r ∨ x.r = y.r ∧ x.entry < y.entry) ∧
        (∀ i, ∀ e, s.entry i = some e → s.streams p e = true → (list.streamers.any fun x => decide (x.entry = i)) = true ∨
          (list.streamers.all fun x => decide (x.r < e.cue.point - p ∨ x.r = e.cue.point - p ∧ x.entry < i)) = true) ∧
        let flashes := fun (e : CueEntry) => s.drawn e && decide (0 ≤ p - e.cue.point ∧ p - e.cue.point < 512)
        (∀ i, list.flash = some i → ((s.entry i).any fun e => flashes e && (List.range 32).all fun j => (s.entry j).all fun x =>
          !flashes x || decide (x.cue.point < e.cue.point ∨ x.cue.point = e.cue.point ∧ i ≤ j)) = true) ∧
        (list.flash = none → (s.ctb.entries.all fun o => !o.any flashes) = true))) ∧
  ∀ (line pixel : Nat) (s : State),
    let key := s.keyPixel line pixel
    (s.ovl.raster ≠ .stable ∨ s.ovl.frozen = none → key = none) ∧
    (∀ g, s.ovl.frozen = some g → s.ovl.raster = .stable →
      let l := s.ovl.front
      let inside := g.start ≤ pixel ∧ pixel < g.start + g.width ∧ g.first ≤ line ∧ line < g.first + g.active
      let x := g.start + (g.width - g.width / 4) / 2
      let y := g.first + (g.active - g.active / 4) / 2
      let flash := l.flash.isSome = true ∧ x ≤ pixel ∧ pixel < x + g.width / 4 ∧ y ≤ line ∧ line < y + g.active / 4
      let covers := fun (z : Streamer) => decide (z.x ≤ pixel ∧ pixel < z.x + s.settings.streamerWidth)
      let edge := pixel ≤ g.start + 7 ∨ g.start + g.width ≤ pixel + 8 ∨ line ≤ g.first + 3 ∨ g.first + g.active ≤ line + 4
      (¬inside → key = none) ∧
      (inside → flash → key = some 4) ∧
      (inside → ¬flash → ∀ k z, l.streamers[k]? = some z → covers z = true → (l.streamers.take k).any covers = false →
        key = some (z.colour.setWidth 3)) ∧
      (inside → ¬flash → l.streamers.any covers = false → key = if l.border = true ∧ edge then some 5 else none))

/-- The key (R165 to R170). A falling edge in ARMED latches the moment: the position, the reference, the mode and the RUNNING cue
whose span holds the position, the nearest of several; the debounce timer's expiry makes it a mark, logged, sent and alerted; in
DUPLICATE it is not sent, and with 8 frames queued it is TX_OVERFLOW in its place. A rising edge before that gives it up; a release
is debounced too. Before its deadline KEY_DEBOUNCE_EXPIRY changes nothing, the model's choice (log entry 3). -/
def Obligations.KeyPressesMakeMarks : Prop :=
  ∀ (t : Time) (s : State), s.resetActive = false →
    let s₀ := s.advance t
    let down := { s₀ with pins := { s.pins with markn := false } }
    let up := { s₀ with pins := { s.pins with markn := true } }
    let key := fun (v : State) (k : KeyState) (timer : Option Time) (l : Option Latch) => { v with mkl := { s.mkl with key := k, timer := timer, latch := l } }
    let q := s.ptr.position t
    let held := fun (p : Int) (e : CueEntry) => decide (e.run.state = .running ∧ e.cue.ps ≤ p ∧ p ≤ e.cue.pe)
    let latch := fun (c : Option (BitVec 6 × BitVec 12)) => ({ pos := q, refState := s.ptr.state, motion := s.ptr.motion, mode := s.csh.mode, cue := c } : Latch)
    let falls := fun (c : Option (BitVec 6 × BitVec 12)) =>
      exec (.marknFallingEdge t) s = .next (key down .pressing (some (later t 20000)) (some (latch c)))
    (s.pins.markn = false → exec (.marknFallingEdge t) s = .next s₀) ∧ (s.pins.markn = true → exec (.marknRisingEdge t) s = .next s₀) ∧
    (s.pins.markn = true →
      (s.mkl.key = .armed → q = none → falls none) ∧
      (∀ p, q = some p → s.mkl.key = .armed →
        ((s.ctb.entries.all fun o => !o.any (held p)) = true → falls none) ∧
        (∀ i, ∀ e, s.entry i = some e → i < 32 → held p e = true →
          (∀ j < 32, ((s.entry j).all fun x => !held p x || decide ((e.cue.point - p).natAbs < (x.cue.point - p).natAbs ∨
            (e.cue.point - p).natAbs = (x.cue.point - p).natAbs ∧ i ≤ j)) = true) →
          falls (some (e.cue.reel, e.cue.id)))) ∧
      (s.mkl.key = .releasing → exec (.marknFallingEdge t) s = .next (key down .held none s.mkl.latch)) ∧
      (s.mkl.key = .off ∨ s.mkl.key = .pressing ∨ s.mkl.key = .held → exec (.marknFallingEdge t) s = .next down)) ∧
    (s.pins.markn = false →
      (s.mkl.key = .pressing → exec (.marknRisingEdge t) s = .next (key up .armed none none)) ∧
      (s.mkl.key = .held → exec (.marknRisingEdge t) s = .next (key up .releasing (some (later t 20000)) s.mkl.latch)) ∧
      (s.mkl.key = .off ∨ s.mkl.key = .armed ∨ s.mkl.key = .releasing → exec (.marknRisingEdge t) s = .next up)) ∧
    (expired t s.mkl.timer = false → exec (.keyDebounceExpiry t) s = .next s₀) ∧
    (expired t s.mkl.timer = true → s.mkl.key = .releasing → exec (.keyDebounceExpiry t) s = .next (key s₀ .armed none s.mkl.latch)) ∧
    (∀ l, s.mkl.latch = some l → s.mkl.key = .pressing → expired t s.mkl.timer = true →
      let mark : MarkRec := { serial := s.mkl.serial, station := s.own.toNat, latch := l }
      let sent : Mark :=
        { serial := s.mkl.serial, absent := if l.pos = none then 1 else 0, frame := frameField (l.pos.getD 0), phase := posPhase (l.pos.getD 0),
          refState := BitVec.ofNat 2 l.refState.code, motion := BitVec.ofNat 2 l.motion.code, mode := BitVec.ofNat 2 l.mode.code,
          reel := (l.cue.getD (0, 0)).1, id := (l.cue.getD (0, 0)).2 }
      let made := fun (log : List MarkRec) (lost : Bool) (v : State) => { v with mkl := { s.mkl with
        key := .held, timer := none, latch := none, serial := s.mkl.serial + 1, log := log ++ [mark], overrun := lost } }
      let sends := fun (v : State) =>
        (if s.listening = false then v
         else if v.clp.queue.length < 8 then { v with clp := { v.clp with queue := v.clp.queue ++ [.frame (.mark sent)] } }
         else recordFault { kind := .txOverflow } v).alerted causeMark
      (s.mkl.log.length < 8 → exec (.keyDebounceExpiry t) s = .next (sends (made s.mkl.log s.mkl.overrun s₀))) ∧
      (∀ old rest, s.mkl.log = old :: rest → 8 ≤ s.mkl.log.length → exec (.keyDebounceExpiry t) s =
        .next (sends (made rest true (recordFault
          { kind := .markOverrun, cue := old.latch.cue, sender := some (BitVec.ofNat 5 old.station) } s₀)))))

end
end

