-- ==== Sys2Proof/Laws/Codec.lean ====
section
/-! SUPPORT. Fields and payloads: what is written most significant bit first reads back. -/

namespace Sys2Proof.Machine
open Sys2Proof

@[simp] theorem fieldBits_length {w : Nat} (v : BitVec w) : (fieldBits v).length = w := by simp [fieldBits]

/-- The number that the bits of a field spell is the field. -/
theorem bitsNat_append (a b : List Bool) : bitsNat (a ++ b) = b.foldl (fun n x => 2 * n + x.toNat) (bitsNat a) := by
  simp [bitsNat, List.foldl_append]

theorem bitsNat_range {w : Nat} (v : BitVec w) (n : Nat) (h : n ≤ w) :
    bitsNat ((List.range n).map v.getMsbD) = v.toNat / 2 ^ (w - n) := by
  induction n with
  | zero => simp [bitsNat]; exact (Nat.div_eq_of_lt v.isLt).symm
  | succ k ih =>
    rw [List.range_succ, List.map_append, bitsNat_append, ih (by omega)]
    simp only [List.map_cons, List.map_nil, List.foldl_cons, List.foldl_nil]
    have hk : w - k = (w - (k + 1)) + 1 := by omega
    rw [BitVec.getMsbD, show decide (k < w) = true from decide_eq_true (by omega), Bool.true_and, hk, Nat.pow_succ, ← Nat.div_div_eq_div_mul,
      BitVec.getLsbD, show w - 1 - k = w - (k + 1) by omega, Nat.testBit_eq_decide_div_mod_eq]
    have := Nat.mod_two_eq_zero_or_one (v.toNat / 2 ^ (w - (k + 1)))
    rcases this with h | h <;> simp [h] <;> omega

theorem bitsNat_fieldBits {w : Nat} (v : BitVec w) : bitsNat (fieldBits v) = v.toNat := by
  rw [fieldBits, bitsNat_range v w (Nat.le_refl w)]; simp

/-- The field at the front of a sequence reads back. -/
@[simp] theorem headField_append {w : Nat} (v : BitVec w) (l : List Bool) : headField w (fieldBits v ++ l) = v := by
  rw [headField, List.take_left' (fieldBits_length v), bitsNat_fieldBits, BitVec.ofNat_toNat, BitVec.setWidth_eq]

@[simp] theorem headField_fieldBits {w : Nat} (v : BitVec w) : headField w (fieldBits v) = v := by
  simpa using headField_append v []

/-- Dropping bits beyond a field. -/
theorem drop_field {w : Nat} (v : BitVec w) (l : List Bool) (n : Nat) (h : w ≤ n) : (fieldBits v ++ l).drop n = l.drop (n - w) := by
  rw [List.drop_append, List.drop_eq_nil_of_le (by simp; omega), fieldBits_length, List.nil_append]

@[simp] theorem framePayload_length (f : LineFrame) : (framePayload f).length = payloadLength (frameClass f) := by
  cases f <;> simp [framePayload, frameClass, payloadLength]

/-- A payload decodes to its frame, whatever follows it. -/
theorem decodePayload_append (f : LineFrame) (l : List Bool) : decodePayload (frameClass f) (framePayload f ++ l) = some f := by
  cases f <;>
    simp [decodePayload, frameClass, framePayload, List.append_assoc, drop_field]

theorem decodePayload_payload (f : LineFrame) : decodePayload (frameClass f) (framePayload f) = some f := by
  simpa using decodePayload_append f []

/-- The words that a frame's payload fills spell the frame. -/
theorem frameOfWords_payload (f : LineFrame) (words : List DataWord) (l : List Bool)
    (h : words.flatMap fieldBits = framePayload f ++ l) : frameOfWords (frameClass f) words = some f := by
  rw [frameOfWords, h, List.take_left' (framePayload_length f), decodePayload_payload]

end Sys2Proof.Machine
end

