-- ==== Sys2Proof/Laws/State.lean ====
section
/-! SUPPORT. Every field after every block update. -/

namespace Sys2Proof.Machine
open Sys2Proof

variable (s : State)

section modClp
variable (f : Clp → Clp)
@[simp] theorem State.modClp_timebase : (s.modClp f).timebase = s.timebase := rfl
@[simp] theorem State.modClp_pins : (s.modClp f).pins = s.pins := rfl
@[simp] theorem State.modClp_resetActive : (s.modClp f).resetActive = s.resetActive := rfl
@[simp] theorem State.modClp_straps : (s.modClp f).straps = s.straps := rfl
@[simp] theorem State.modClp_settings : (s.modClp f).settings = s.settings := rfl
@[simp] theorem State.modClp_clp : (s.modClp f).clp = f s.clp := rfl
@[simp] theorem State.modClp_chA : (s.modClp f).chA = s.chA := rfl
@[simp] theorem State.modClp_chB : (s.modClp f).chB = s.chB := rfl
@[simp] theorem State.modClp_ptr : (s.modClp f).ptr = s.ptr := rfl
@[simp] theorem State.modClp_lockA : (s.modClp f).lockA = s.lockA := rfl
@[simp] theorem State.modClp_lockB : (s.modClp f).lockB = s.lockB := rfl
@[simp] theorem State.modClp_ctb : (s.modClp f).ctb = s.ctb := rfl
@[simp] theorem State.modClp_csh : (s.modClp f).csh = s.csh := rfl
@[simp] theorem State.modClp_cou : (s.modClp f).cou = s.cou := rfl
@[simp] theorem State.modClp_ovl : (s.modClp f).ovl = s.ovl := rfl
@[simp] theorem State.modClp_mkl : (s.modClp f).mkl = s.mkl := rfl
@[simp] theorem State.modClp_svc : (s.modClp f).svc = s.svc := rfl
@[simp] theorem State.modClp_flt : (s.modClp f).flt = s.flt := rfl
@[simp] theorem State.modClp_freeCount : (s.modClp f).freeCount = s.freeCount := rfl
@[simp] theorem State.modClp_pending : (s.modClp f).pending = s.pending := rfl
@[simp] theorem State.modClp_chan (c : Chan) : (s.modClp f).chan c = s.chan c := by cases c <;> rfl
@[simp] theorem State.modClp_lock (c : Chan) : (s.modClp f).lock c = s.lock c := by cases c <;> rfl
end modClp

section modPtr
variable (f : Ptr → Ptr)
@[simp] theorem State.modPtr_timebase : (s.modPtr f).timebase = s.timebase := rfl
@[simp] theorem State.modPtr_pins : (s.modPtr f).pins = s.pins := rfl
@[simp] theorem State.modPtr_resetActive : (s.modPtr f).resetActive = s.resetActive := rfl
@[simp] theorem State.modPtr_straps : (s.modPtr f).straps = s.straps := rfl
@[simp] theorem State.modPtr_settings : (s.modPtr f).settings = s.settings := rfl
@[simp] theorem State.modPtr_clp : (s.modPtr f).clp = s.clp := rfl
@[simp] theorem State.modPtr_chA : (s.modPtr f).chA = s.chA := rfl
@[simp] theorem State.modPtr_chB : (s.modPtr f).chB = s.chB := rfl
@[simp] theorem State.modPtr_ptr : (s.modPtr f).ptr = f s.ptr := rfl
@[simp] theorem State.modPtr_lockA : (s.modPtr f).lockA = s.lockA := rfl
@[simp] theorem State.modPtr_lockB : (s.modPtr f).lockB = s.lockB := rfl
@[simp] theorem State.modPtr_ctb : (s.modPtr f).ctb = s.ctb := rfl
@[simp] theorem State.modPtr_csh : (s.modPtr f).csh = s.csh := rfl
@[simp] theorem State.modPtr_cou : (s.modPtr f).cou = s.cou := rfl
@[simp] theorem State.modPtr_ovl : (s.modPtr f).ovl = s.ovl := rfl
@[simp] theorem State.modPtr_mkl : (s.modPtr f).mkl = s.mkl := rfl
@[simp] theorem State.modPtr_svc : (s.modPtr f).svc = s.svc := rfl
@[simp] theorem State.modPtr_flt : (s.modPtr f).flt = s.flt := rfl
@[simp] theorem State.modPtr_freeCount : (s.modPtr f).freeCount = s.freeCount := rfl
@[simp] theorem State.modPtr_pending : (s.modPtr f).pending = s.pending := rfl
@[simp] theorem State.modPtr_chan (c : Chan) : (s.modPtr f).chan c = s.chan c := by cases c <;> rfl
@[simp] theorem State.modPtr_lock (c : Chan) : (s.modPtr f).lock c = s.lock c := by cases c <;> rfl
end modPtr

section modCtb
variable (f : Ctb → Ctb)
@[simp] theorem State.modCtb_timebase : (s.modCtb f).timebase = s.timebase := rfl
@[simp] theorem State.modCtb_pins : (s.modCtb f).pins = s.pins := rfl
@[simp] theorem State.modCtb_resetActive : (s.modCtb f).resetActive = s.resetActive := rfl
@[simp] theorem State.modCtb_straps : (s.modCtb f).straps = s.straps := rfl
@[simp] theorem State.modCtb_settings : (s.modCtb f).settings = s.settings := rfl
@[simp] theorem State.modCtb_clp : (s.modCtb f).clp = s.clp := rfl
@[simp] theorem State.modCtb_chA : (s.modCtb f).chA = s.chA := rfl
@[simp] theorem State.modCtb_chB : (s.modCtb f).chB = s.chB := rfl
@[simp] theorem State.modCtb_ptr : (s.modCtb f).ptr = s.ptr := rfl
@[simp] theorem State.modCtb_lockA : (s.modCtb f).lockA = s.lockA := rfl
@[simp] theorem State.modCtb_lockB : (s.modCtb f).lockB = s.lockB := rfl
@[simp] theorem State.modCtb_ctb : (s.modCtb f).ctb = f s.ctb := rfl
@[simp] theorem State.modCtb_csh : (s.modCtb f).csh = s.csh := rfl
@[simp] theorem State.modCtb_cou : (s.modCtb f).cou = s.cou := rfl
@[simp] theorem State.modCtb_ovl : (s.modCtb f).ovl = s.ovl := rfl
@[simp] theorem State.modCtb_mkl : (s.modCtb f).mkl = s.mkl := rfl
@[simp] theorem State.modCtb_svc : (s.modCtb f).svc = s.svc := rfl
@[simp] theorem State.modCtb_flt : (s.modCtb f).flt = s.flt := rfl
@[simp] theorem State.modCtb_freeCount : (s.modCtb f).freeCount = s.freeCount := rfl
@[simp] theorem State.modCtb_pending : (s.modCtb f).pending = s.pending := rfl
@[simp] theorem State.modCtb_chan (c : Chan) : (s.modCtb f).chan c = s.chan c := by cases c <;> rfl
@[simp] theorem State.modCtb_lock (c : Chan) : (s.modCtb f).lock c = s.lock c := by cases c <;> rfl
end modCtb

section modCsh
variable (f : Csh → Csh)
@[simp] theorem State.modCsh_timebase : (s.modCsh f).timebase = s.timebase := rfl
@[simp] theorem State.modCsh_pins : (s.modCsh f).pins = s.pins := rfl
@[simp] theorem State.modCsh_resetActive : (s.modCsh f).resetActive = s.resetActive := rfl
@[simp] theorem State.modCsh_straps : (s.modCsh f).straps = s.straps := rfl
@[simp] theorem State.modCsh_settings : (s.modCsh f).settings = s.settings := rfl
@[simp] theorem State.modCsh_clp : (s.modCsh f).clp = s.clp := rfl
@[simp] theorem State.modCsh_chA : (s.modCsh f).chA = s.chA := rfl
@[simp] theorem State.modCsh_chB : (s.modCsh f).chB = s.chB := rfl
@[simp] theorem State.modCsh_ptr : (s.modCsh f).ptr = s.ptr := rfl
@[simp] theorem State.modCsh_lockA : (s.modCsh f).lockA = s.lockA := rfl
@[simp] theorem State.modCsh_lockB : (s.modCsh f).lockB = s.lockB := rfl
@[simp] theorem State.modCsh_ctb : (s.modCsh f).ctb = s.ctb := rfl
@[simp] theorem State.modCsh_csh : (s.modCsh f).csh = f s.csh := rfl
@[simp] theorem State.modCsh_cou : (s.modCsh f).cou = s.cou := rfl
@[simp] theorem State.modCsh_ovl : (s.modCsh f).ovl = s.ovl := rfl
@[simp] theorem State.modCsh_mkl : (s.modCsh f).mkl = s.mkl := rfl
@[simp] theorem State.modCsh_svc : (s.modCsh f).svc = s.svc := rfl
@[simp] theorem State.modCsh_flt : (s.modCsh f).flt = s.flt := rfl
@[simp] theorem State.modCsh_freeCount : (s.modCsh f).freeCount = s.freeCount := rfl
@[simp] theorem State.modCsh_pending : (s.modCsh f).pending = s.pending := rfl
@[simp] theorem State.modCsh_chan (c : Chan) : (s.modCsh f).chan c = s.chan c := by cases c <;> rfl
@[simp] theorem State.modCsh_lock (c : Chan) : (s.modCsh f).lock c = s.lock c := by cases c <;> rfl
end modCsh

section modCou
variable (f : Cou → Cou)
@[simp] theorem State.modCou_timebase : (s.modCou f).timebase = s.timebase := rfl
@[simp] theorem State.modCou_pins : (s.modCou f).pins = s.pins := rfl
@[simp] theorem State.modCou_resetActive : (s.modCou f).resetActive = s.resetActive := rfl
@[simp] theorem State.modCou_straps : (s.modCou f).straps = s.straps := rfl
@[simp] theorem State.modCou_settings : (s.modCou f).settings = s.settings := rfl
@[simp] theorem State.modCou_clp : (s.modCou f).clp = s.clp := rfl
@[simp] theorem State.modCou_chA : (s.modCou f).chA = s.chA := rfl
@[simp] theorem State.modCou_chB : (s.modCou f).chB = s.chB := rfl
@[simp] theorem State.modCou_ptr : (s.modCou f).ptr = s.ptr := rfl
@[simp] theorem State.modCou_lockA : (s.modCou f).lockA = s.lockA := rfl
@[simp] theorem State.modCou_lockB : (s.modCou f).lockB = s.lockB := rfl
@[simp] theorem State.modCou_ctb : (s.modCou f).ctb = s.ctb := rfl
@[simp] theorem State.modCou_csh : (s.modCou f).csh = s.csh := rfl
@[simp] theorem State.modCou_cou : (s.modCou f).cou = f s.cou := rfl
@[simp] theorem State.modCou_ovl : (s.modCou f).ovl = s.ovl := rfl
@[simp] theorem State.modCou_mkl : (s.modCou f).mkl = s.mkl := rfl
@[simp] theorem State.modCou_svc : (s.modCou f).svc = s.svc := rfl
@[simp] theorem State.modCou_flt : (s.modCou f).flt = s.flt := rfl
@[simp] theorem State.modCou_freeCount : (s.modCou f).freeCount = s.freeCount := rfl
@[simp] theorem State.modCou_pending : (s.modCou f).pending = s.pending := rfl
@[simp] theorem State.modCou_chan (c : Chan) : (s.modCou f).chan c = s.chan c := by cases c <;> rfl
@[simp] theorem State.modCou_lock (c : Chan) : (s.modCou f).lock c = s.lock c := by cases c <;> rfl
end modCou

section modOvl
variable (f : Ovl → Ovl)
@[simp] theorem State.modOvl_timebase : (s.modOvl f).timebase = s.timebase := rfl
@[simp] theorem State.modOvl_pins : (s.modOvl f).pins = s.pins := rfl
@[simp] theorem State.modOvl_resetActive : (s.modOvl f).resetActive = s.resetActive := rfl
@[simp] theorem State.modOvl_straps : (s.modOvl f).straps = s.straps := rfl
@[simp] theorem State.modOvl_settings : (s.modOvl f).settings = s.settings := rfl
@[simp] theorem State.modOvl_clp : (s.modOvl f).clp = s.clp := rfl
@[simp] theorem State.modOvl_chA : (s.modOvl f).chA = s.chA := rfl
@[simp] theorem State.modOvl_chB : (s.modOvl f).chB = s.chB := rfl
@[simp] theorem State.modOvl_ptr : (s.modOvl f).ptr = s.ptr := rfl
@[simp] theorem State.modOvl_lockA : (s.modOvl f).lockA = s.lockA := rfl
@[simp] theorem State.modOvl_lockB : (s.modOvl f).lockB = s.lockB := rfl
@[simp] theorem State.modOvl_ctb : (s.modOvl f).ctb = s.ctb := rfl
@[simp] theorem State.modOvl_csh : (s.modOvl f).csh = s.csh := rfl
@[simp] theorem State.modOvl_cou : (s.modOvl f).cou = s.cou := rfl
@[simp] theorem State.modOvl_ovl : (s.modOvl f).ovl = f s.ovl := rfl
@[simp] theorem State.modOvl_mkl : (s.modOvl f).mkl = s.mkl := rfl
@[simp] theorem State.modOvl_svc : (s.modOvl f).svc = s.svc := rfl
@[simp] theorem State.modOvl_flt : (s.modOvl f).flt = s.flt := rfl
@[simp] theorem State.modOvl_freeCount : (s.modOvl f).freeCount = s.freeCount := rfl
@[simp] theorem State.modOvl_pending : (s.modOvl f).pending = s.pending := rfl
@[simp] theorem State.modOvl_chan (c : Chan) : (s.modOvl f).chan c = s.chan c := by cases c <;> rfl
@[simp] theorem State.modOvl_lock (c : Chan) : (s.modOvl f).lock c = s.lock c := by cases c <;> rfl
end modOvl

section modMkl
variable (f : Mkl → Mkl)
@[simp] theorem State.modMkl_timebase : (s.modMkl f).timebase = s.timebase := rfl
@[simp] theorem State.modMkl_pins : (s.modMkl f).pins = s.pins := rfl
@[simp] theorem State.modMkl_resetActive : (s.modMkl f).resetActive = s.resetActive := rfl
@[simp] theorem State.modMkl_straps : (s.modMkl f).straps = s.straps := rfl
@[simp] theorem State.modMkl_settings : (s.modMkl f).settings = s.settings := rfl
@[simp] theorem State.modMkl_clp : (s.modMkl f).clp = s.clp := rfl
@[simp] theorem State.modMkl_chA : (s.modMkl f).chA = s.chA := rfl
@[simp] theorem State.modMkl_chB : (s.modMkl f).chB = s.chB := rfl
@[simp] theorem State.modMkl_ptr : (s.modMkl f).ptr = s.ptr := rfl
@[simp] theorem State.modMkl_lockA : (s.modMkl f).lockA = s.lockA := rfl
@[simp] theorem State.modMkl_lockB : (s.modMkl f).lockB = s.lockB := rfl
@[simp] theorem State.modMkl_ctb : (s.modMkl f).ctb = s.ctb := rfl
@[simp] theorem State.modMkl_csh : (s.modMkl f).csh = s.csh := rfl
@[simp] theorem State.modMkl_cou : (s.modMkl f).cou = s.cou := rfl
@[simp] theorem State.modMkl_ovl : (s.modMkl f).ovl = s.ovl := rfl
@[simp] theorem State.modMkl_mkl : (s.modMkl f).mkl = f s.mkl := rfl
@[simp] theorem State.modMkl_svc : (s.modMkl f).svc = s.svc := rfl
@[simp] theorem State.modMkl_flt : (s.modMkl f).flt = s.flt := rfl
@[simp] theorem State.modMkl_freeCount : (s.modMkl f).freeCount = s.freeCount := rfl
@[simp] theorem State.modMkl_pending : (s.modMkl f).pending = s.pending := rfl
@[simp] theorem State.modMkl_chan (c : Chan) : (s.modMkl f).chan c = s.chan c := by cases c <;> rfl
@[simp] theorem State.modMkl_lock (c : Chan) : (s.modMkl f).lock c = s.lock c := by cases c <;> rfl
end modMkl

section modSvc
variable (f : Svc → Svc)
@[simp] theorem State.modSvc_timebase : (s.modSvc f).timebase = s.timebase := rfl
@[simp] theorem State.modSvc_pins : (s.modSvc f).pins = s.pins := rfl
@[simp] theorem State.modSvc_resetActive : (s.modSvc f).resetActive = s.resetActive := rfl
@[simp] theorem State.modSvc_straps : (s.modSvc f).straps = s.straps := rfl
@[simp] theorem State.modSvc_settings : (s.modSvc f).settings = s.settings := rfl
@[simp] theorem State.modSvc_clp : (s.modSvc f).clp = s.clp := rfl
@[simp] theorem State.modSvc_chA : (s.modSvc f).chA = s.chA := rfl
@[simp] theorem State.modSvc_chB : (s.modSvc f).chB = s.chB := rfl
@[simp] theorem State.modSvc_ptr : (s.modSvc f).ptr = s.ptr := rfl
@[simp] theorem State.modSvc_lockA : (s.modSvc f).lockA = s.lockA := rfl
@[simp] theorem State.modSvc_lockB : (s.modSvc f).lockB = s.lockB := rfl
@[simp] theorem State.modSvc_ctb : (s.modSvc f).ctb = s.ctb := rfl
@[simp] theorem State.modSvc_csh : (s.modSvc f).csh = s.csh := rfl
@[simp] theorem State.modSvc_cou : (s.modSvc f).cou = s.cou := rfl
@[simp] theorem State.modSvc_ovl : (s.modSvc f).ovl = s.ovl := rfl
@[simp] theorem State.modSvc_mkl : (s.modSvc f).mkl = s.mkl := rfl
@[simp] theorem State.modSvc_svc : (s.modSvc f).svc = f s.svc := rfl
@[simp] theorem State.modSvc_flt : (s.modSvc f).flt = s.flt := rfl
@[simp] theorem State.modSvc_freeCount : (s.modSvc f).freeCount = s.freeCount := rfl
@[simp] theorem State.modSvc_pending : (s.modSvc f).pending = s.pending := rfl
@[simp] theorem State.modSvc_chan (c : Chan) : (s.modSvc f).chan c = s.chan c := by cases c <;> rfl
@[simp] theorem State.modSvc_lock (c : Chan) : (s.modSvc f).lock c = s.lock c := by cases c <;> rfl
end modSvc

section modFlt
variable (f : Flt → Flt)
@[simp] theorem State.modFlt_timebase : (s.modFlt f).timebase = s.timebase := rfl
@[simp] theorem State.modFlt_pins : (s.modFlt f).pins = s.pins := rfl
@[simp] theorem State.modFlt_resetActive : (s.modFlt f).resetActive = s.resetActive := rfl
@[simp] theorem State.modFlt_straps : (s.modFlt f).straps = s.straps := rfl
@[simp] theorem State.modFlt_settings : (s.modFlt f).settings = s.settings := rfl
@[simp] theorem State.modFlt_clp : (s.modFlt f).clp = s.clp := rfl
@[simp] theorem State.modFlt_chA : (s.modFlt f).chA = s.chA := rfl
@[simp] theorem State.modFlt_chB : (s.modFlt f).chB = s.chB := rfl
@[simp] theorem State.modFlt_ptr : (s.modFlt f).ptr = s.ptr := rfl
@[simp] theorem State.modFlt_lockA : (s.modFlt f).lockA = s.lockA := rfl
@[simp] theorem State.modFlt_lockB : (s.modFlt f).lockB = s.lockB := rfl
@[simp] theorem State.modFlt_ctb : (s.modFlt f).ctb = s.ctb := rfl
@[simp] theorem State.modFlt_csh : (s.modFlt f).csh = s.csh := rfl
@[simp] theorem State.modFlt_cou : (s.modFlt f).cou = s.cou := rfl
@[simp] theorem State.modFlt_ovl : (s.modFlt f).ovl = s.ovl := rfl
@[simp] theorem State.modFlt_mkl : (s.modFlt f).mkl = s.mkl := rfl
@[simp] theorem State.modFlt_svc : (s.modFlt f).svc = s.svc := rfl
@[simp] theorem State.modFlt_flt : (s.modFlt f).flt = f s.flt := rfl
@[simp] theorem State.modFlt_freeCount : (s.modFlt f).freeCount = s.freeCount := rfl
@[simp] theorem State.modFlt_pending : (s.modFlt f).pending = s.pending := rfl
@[simp] theorem State.modFlt_chan (c : Chan) : (s.modFlt f).chan c = s.chan c := by cases c <;> rfl
@[simp] theorem State.modFlt_lock (c : Chan) : (s.modFlt f).lock c = s.lock c := by cases c <;> rfl
end modFlt

section modSettings
variable (f : Settings → Settings)
@[simp] theorem State.modSettings_timebase : (s.modSettings f).timebase = s.timebase := rfl
@[simp] theorem State.modSettings_pins : (s.modSettings f).pins = s.pins := rfl
@[simp] theorem State.modSettings_resetActive : (s.modSettings f).resetActive = s.resetActive := rfl
@[simp] theorem State.modSettings_straps : (s.modSettings f).straps = s.straps := rfl
@[simp] theorem State.modSettings_settings : (s.modSettings f).settings = f s.settings := rfl
@[simp] theorem State.modSettings_clp : (s.modSettings f).clp = s.clp := rfl
@[simp] theorem State.modSettings_chA : (s.modSettings f).chA = s.chA := rfl
@[simp] theorem State.modSettings_chB : (s.modSettings f).chB = s.chB := rfl
@[simp] theorem State.modSettings_ptr : (s.modSettings f).ptr = s.ptr := rfl
@[simp] theorem State.modSettings_lockA : (s.modSettings f).lockA = s.lockA := rfl
@[simp] theorem State.modSettings_lockB : (s.modSettings f).lockB = s.lockB := rfl
@[simp] theorem State.modSettings_ctb : (s.modSettings f).ctb = s.ctb := rfl
@[simp] theorem State.modSettings_csh : (s.modSettings f).csh = s.csh := rfl
@[simp] theorem State.modSettings_cou : (s.modSettings f).cou = s.cou := rfl
@[simp] theorem State.modSettings_ovl : (s.modSettings f).ovl = s.ovl := rfl
@[simp] theorem State.modSettings_mkl : (s.modSettings f).mkl = s.mkl := rfl
@[simp] theorem State.modSettings_svc : (s.modSettings f).svc = s.svc := rfl
@[simp] theorem State.modSettings_flt : (s.modSettings f).flt = s.flt := rfl
@[simp] theorem State.modSettings_freeCount : (s.modSettings f).freeCount = s.freeCount := rfl
@[simp] theorem State.modSettings_pending : (s.modSettings f).pending = s.pending := rfl
@[simp] theorem State.modSettings_chan (c : Chan) : (s.modSettings f).chan c = s.chan c := by cases c <;> rfl
@[simp] theorem State.modSettings_lock (c : Chan) : (s.modSettings f).lock c = s.lock c := by cases c <;> rfl
end modSettings

section modPins
variable (f : Levels → Levels)
@[simp] theorem State.modPins_timebase : (s.modPins f).timebase = s.timebase := rfl
@[simp] theorem State.modPins_pins : (s.modPins f).pins = f s.pins := rfl
@[simp] theorem State.modPins_resetActive : (s.modPins f).resetActive = s.resetActive := rfl
@[simp] theorem State.modPins_straps : (s.modPins f).straps = s.straps := rfl
@[simp] theorem State.modPins_settings : (s.modPins f).settings = s.settings := rfl
@[simp] theorem State.modPins_clp : (s.modPins f).clp = s.clp := rfl
@[simp] theorem State.modPins_chA : (s.modPins f).chA = s.chA := rfl
@[simp] theorem State.modPins_chB : (s.modPins f).chB = s.chB := rfl
@[simp] theorem State.modPins_ptr : (s.modPins f).ptr = s.ptr := rfl
@[simp] theorem State.modPins_lockA : (s.modPins f).lockA = s.lockA := rfl
@[simp] theorem State.modPins_lockB : (s.modPins f).lockB = s.lockB := rfl
@[simp] theorem State.modPins_ctb : (s.modPins f).ctb = s.ctb := rfl
@[simp] theorem State.modPins_csh : (s.modPins f).csh = s.csh := rfl
@[simp] theorem State.modPins_cou : (s.modPins f).cou = s.cou := rfl
@[simp] theorem State.modPins_ovl : (s.modPins f).ovl = s.ovl := rfl
@[simp] theorem State.modPins_mkl : (s.modPins f).mkl = s.mkl := rfl
@[simp] theorem State.modPins_svc : (s.modPins f).svc = s.svc := rfl
@[simp] theorem State.modPins_flt : (s.modPins f).flt = s.flt := rfl
@[simp] theorem State.modPins_freeCount : (s.modPins f).freeCount = s.freeCount := rfl
@[simp] theorem State.modPins_pending : (s.modPins f).pending = s.pending := rfl
@[simp] theorem State.modPins_chan (c : Chan) : (s.modPins f).chan c = s.chan c := by cases c <;> rfl
@[simp] theorem State.modPins_lock (c : Chan) : (s.modPins f).lock c = s.lock c := by cases c <;> rfl
end modPins

section modChan
variable (c : Chan) (f : Channel → Channel)
@[simp] theorem State.modChan_timebase : (s.modChan c f).timebase = s.timebase := by cases c <;> rfl
@[simp] theorem State.modChan_pins : (s.modChan c f).pins = s.pins := by cases c <;> rfl
@[simp] theorem State.modChan_resetActive : (s.modChan c f).resetActive = s.resetActive := by cases c <;> rfl
@[simp] theorem State.modChan_straps : (s.modChan c f).straps = s.straps := by cases c <;> rfl
@[simp] theorem State.modChan_settings : (s.modChan c f).settings = s.settings := by cases c <;> rfl
@[simp] theorem State.modChan_clp : (s.modChan c f).clp = s.clp := by cases c <;> rfl
@[simp] theorem State.modChan_ptr : (s.modChan c f).ptr = s.ptr := by cases c <;> rfl
@[simp] theorem State.modChan_lockA : (s.modChan c f).lockA = s.lockA := by cases c <;> rfl
@[simp] theorem State.modChan_lockB : (s.modChan c f).lockB = s.lockB := by cases c <;> rfl
@[simp] theorem State.modChan_ctb : (s.modChan c f).ctb = s.ctb := by cases c <;> rfl
@[simp] theorem State.modChan_csh : (s.modChan c f).csh = s.csh := by cases c <;> rfl
@[simp] theorem State.modChan_cou : (s.modChan c f).cou = s.cou := by cases c <;> rfl
@[simp] theorem State.modChan_ovl : (s.modChan c f).ovl = s.ovl := by cases c <;> rfl
@[simp] theorem State.modChan_mkl : (s.modChan c f).mkl = s.mkl := by cases c <;> rfl
@[simp] theorem State.modChan_svc : (s.modChan c f).svc = s.svc := by cases c <;> rfl
@[simp] theorem State.modChan_flt : (s.modChan c f).flt = s.flt := by cases c <;> rfl
@[simp] theorem State.modChan_freeCount : (s.modChan c f).freeCount = s.freeCount := by cases c <;> rfl
@[simp] theorem State.modChan_pending : (s.modChan c f).pending = s.pending := by cases c <;> rfl
@[simp] theorem State.modChan_chan : (s.modChan c f).chan c = f (s.chan c) := by cases c <;> rfl
@[simp] theorem State.modChan_a_b : (s.modChan .a f).chan .b = s.chan .b := rfl
@[simp] theorem State.modChan_b_a : (s.modChan .b f).chan .a = s.chan .a := rfl
@[simp] theorem State.modChan_lock (d : Chan) : (s.modChan c f).lock d = s.lock d := by cases c <;> cases d <;> rfl
end modChan

section modLock
variable (c : Chan) (f : Lock → Lock)
@[simp] theorem State.modLock_timebase : (s.modLock c f).timebase = s.timebase := by cases c <;> rfl
@[simp] theorem State.modLock_pins : (s.modLock c f).pins = s.pins := by cases c <;> rfl
@[simp] theorem State.modLock_resetActive : (s.modLock c f).resetActive = s.resetActive := by cases c <;> rfl
@[simp] theorem State.modLock_straps : (s.modLock c f).straps = s.straps := by cases c <;> rfl
@[simp] theorem State.modLock_settings : (s.modLock c f).settings = s.settings := by cases c <;> rfl
@[simp] theorem State.modLock_clp : (s.modLock c f).clp = s.clp := by cases c <;> rfl
@[simp] theorem State.modLock_chA : (s.modLock c f).chA = s.chA := by cases c <;> rfl
@[simp] theorem State.modLock_chB : (s.modLock c f).chB = s.chB := by cases c <;> rfl
@[simp] theorem State.modLock_ptr : (s.modLock c f).ptr = s.ptr := by cases c <;> rfl
@[simp] theorem State.modLock_ctb : (s.modLock c f).ctb = s.ctb := by cases c <;> rfl
@[simp] theorem State.modLock_csh : (s.modLock c f).csh = s.csh := by cases c <;> rfl
@[simp] theorem State.modLock_cou : (s.modLock c f).cou = s.cou := by cases c <;> rfl
@[simp] theorem State.modLock_ovl : (s.modLock c f).ovl = s.ovl := by cases c <;> rfl
@[simp] theorem State.modLock_mkl : (s.modLock c f).mkl = s.mkl := by cases c <;> rfl
@[simp] theorem State.modLock_svc : (s.modLock c f).svc = s.svc := by cases c <;> rfl
@[simp] theorem State.modLock_flt : (s.modLock c f).flt = s.flt := by cases c <;> rfl
@[simp] theorem State.modLock_freeCount : (s.modLock c f).freeCount = s.freeCount := by cases c <;> rfl
@[simp] theorem State.modLock_pending : (s.modLock c f).pending = s.pending := by cases c <;> rfl
@[simp] theorem State.modLock_lock : (s.modLock c f).lock c = f (s.lock c) := by cases c <;> rfl
@[simp] theorem State.modLock_a_b : (s.modLock .a f).lock .b = s.lock .b := rfl
@[simp] theorem State.modLock_b_a : (s.modLock .b f).lock .a = s.lock .a := rfl
@[simp] theorem State.modLock_chan (d : Chan) : (s.modLock c f).chan d = s.chan d := by cases c <;> cases d <;> rfl
end modLock

/-! ## Time -/

@[simp] theorem State.advance_pins (t : Time) : (s.advance t).pins = s.pins := rfl
@[simp] theorem State.advance_resetActive (t : Time) : (s.advance t).resetActive = s.resetActive := rfl
@[simp] theorem State.advance_straps (t : Time) : (s.advance t).straps = s.straps := rfl
@[simp] theorem State.advance_settings (t : Time) : (s.advance t).settings = s.settings := rfl
@[simp] theorem State.advance_chA (t : Time) : (s.advance t).chA = s.chA := rfl
@[simp] theorem State.advance_chB (t : Time) : (s.advance t).chB = s.chB := rfl
@[simp] theorem State.advance_ptr (t : Time) : (s.advance t).ptr = s.ptr := rfl
@[simp] theorem State.advance_lockA (t : Time) : (s.advance t).lockA = s.lockA := rfl
@[simp] theorem State.advance_lockB (t : Time) : (s.advance t).lockB = s.lockB := rfl
@[simp] theorem State.advance_ctb (t : Time) : (s.advance t).ctb = s.ctb := rfl
@[simp] theorem State.advance_csh (t : Time) : (s.advance t).csh = s.csh := rfl
@[simp] theorem State.advance_cou (t : Time) : (s.advance t).cou = s.cou := rfl
@[simp] theorem State.advance_ovl (t : Time) : (s.advance t).ovl = s.ovl := rfl
@[simp] theorem State.advance_mkl (t : Time) : (s.advance t).mkl = s.mkl := rfl
@[simp] theorem State.advance_svc (t : Time) : (s.advance t).svc = s.svc := rfl
@[simp] theorem State.advance_flt (t : Time) : (s.advance t).flt = s.flt := rfl
@[simp] theorem State.advance_freeCount (t : Time) : (s.advance t).freeCount = s.freeCount := rfl
@[simp] theorem State.advance_pending (t : Time) : (s.advance t).pending = s.pending := rfl
@[simp] theorem State.advance_timebase (t : Time) : (s.advance t).timebase = t := rfl

/-- Time passing touches the Cue Line Port only in the recessive count. -/
theorem State.advance_clp (t : Time) : ∃ n, (s.advance t).clp = { s.clp with rxCount := n } := by
  unfold State.advance
  by_cases h : s.resetActive ∨ s.clp.rx = .receiving
  · exact ⟨s.clp.rxCount, if_pos h⟩
  · exact ⟨_, if_neg h⟩

/-- A part that RESETN holds is changed by time in its timebase alone (R191). -/
theorem State.advance_held (t : Time) (h : s.resetActive = true) : s.advance t = { s with timebase := t } := by
  simp [State.advance, h]

/-- The recessive count of a part that runs (R3). -/
theorem State.advance_running (t : Time) (h : s.resetActive = false) : s.advance t = { s with
    timebase := t
    clp := if s.clp.rx = .receiving then s.clp else { s.clp with rxCount := min 11 (s.clp.rxCount + since t s.timebase) } } := by
  simp [State.advance, h]

@[simp] theorem State.advance_clp_line (t : Time) : (s.advance t).clp.line = s.clp.line := by
  obtain ⟨n, h⟩ := s.advance_clp t; rw [h]
@[simp] theorem State.advance_clp_rx (t : Time) : (s.advance t).clp.rx = s.clp.rx := by
  obtain ⟨n, h⟩ := s.advance_clp t; rw [h]
@[simp] theorem State.advance_clp_rxStamp (t : Time) : (s.advance t).clp.rxStamp = s.clp.rxStamp := by
  obtain ⟨n, h⟩ := s.advance_clp t; rw [h]
@[simp] theorem State.advance_clp_inFlight (t : Time) : (s.advance t).clp.inFlight = s.clp.inFlight := by
  obtain ⟨n, h⟩ := s.advance_clp t; rw [h]
@[simp] theorem State.advance_clp_queue (t : Time) : (s.advance t).clp.queue = s.clp.queue := by
  obtain ⟨n, h⟩ := s.advance_clp t; rw [h]
@[simp] theorem State.advance_clp_slot (t : Time) : (s.advance t).clp.slot = s.clp.slot := by
  obtain ⟨n, h⟩ := s.advance_clp t; rw [h]
@[simp] theorem State.advance_clp_joinTimer (t : Time) : (s.advance t).clp.joinTimer = s.clp.joinTimer := by
  obtain ⟨n, h⟩ := s.advance_clp t; rw [h]
@[simp] theorem State.advance_clp_spacingTimer (t : Time) : (s.advance t).clp.spacingTimer = s.clp.spacingTimer := by
  obtain ⟨n, h⟩ := s.advance_clp t; rw [h]
@[simp] theorem State.advance_clp_statusDue (t : Time) : (s.advance t).clp.statusDue = s.clp.statusDue := by
  obtain ⟨n, h⟩ := s.advance_clp t; rw [h]
@[simp] theorem State.advance_clp_peers (t : Time) : (s.advance t).clp.peers = s.clp.peers := by
  obtain ⟨n, h⟩ := s.advance_clp t; rw [h]

/-- An event always answers a next state. -/
theorem State.event_next (t : Time) (f : State → State) (h : s.resetActive = false) :
    s.event t f = .next (f (s.advance t)) := by simp [State.event, h]

end Sys2Proof.Machine
end

