-- ==== Sys2Proof/Laws/Frames.lean ====
section
/-! SUPPORT. What each shared operation leaves unchanged, block by block: each theorem is a conjunction that `simp` takes apart
into one rewriting lemma for a block. -/

namespace Sys2Proof.Machine
open Sys2Proof

/-! ## Loops -/

/-- A view of the state that no turn of a loop changes is unchanged by the loop. -/
theorem foldl_same {α β : Type} (g : State → β) (f : State → α → State) (h : ∀ s x, g (f s x) = g s) (l : List α) (s : State) :
    g (l.foldl f s) = g s := by
  induction l generalizing s with
  | nil => rfl
  | cons x xs ih => rw [List.foldl_cons, ih, h]

theorem forIndexes_same {β : Type} (g : State → β) (f : Nat → State → State) (h : ∀ i s, g (f i s) = g s) (n : Nat) (s : State) :
    g (forIndexes n f s) = g s := foldl_same g (fun s i => f i s) (fun s i => h i s) (List.range n) s

theorem guarded_same {β : Type} (g : State → β) (p : Bool) (f : State → State) (s : State) (h : g (f s) = g s) :
    g (guarded p f s) = g s := by unfold guarded; split <;> simp [h]

variable (s : State)

/-! ## Fault and Alert, the transmit queue -/

@[simp] theorem setCause_keeps (c : BitVec 6) :
    (setCause c s).timebase = s.timebase ∧ (setCause c s).pins = s.pins ∧ (setCause c s).resetActive = s.resetActive ∧
    (setCause c s).straps = s.straps ∧ (setCause c s).settings = s.settings ∧ (setCause c s).clp = s.clp ∧
    (setCause c s).chA = s.chA ∧ (setCause c s).chB = s.chB ∧ (setCause c s).ptr = s.ptr ∧ (setCause c s).lockA = s.lockA ∧
    (setCause c s).lockB = s.lockB ∧ (setCause c s).ctb = s.ctb ∧ (setCause c s).csh = s.csh ∧ (setCause c s).cou = s.cou ∧
    (setCause c s).ovl = s.ovl ∧ (setCause c s).mkl = s.mkl ∧ (setCause c s).svc = s.svc ∧
    (setCause c s).freeCount = s.freeCount ∧ (setCause c s).pending = s.pending := by
  simp [setCause]

@[simp] theorem bumpFault_keeps (i : FaultInfo) :
    (bumpFault i s).timebase = s.timebase ∧ (bumpFault i s).pins = s.pins ∧ (bumpFault i s).resetActive = s.resetActive ∧
    (bumpFault i s).straps = s.straps ∧ (bumpFault i s).settings = s.settings ∧ (bumpFault i s).clp = s.clp ∧
    (bumpFault i s).chA = s.chA ∧ (bumpFault i s).chB = s.chB ∧ (bumpFault i s).ptr = s.ptr ∧
    (bumpFault i s).lockA = s.lockA ∧ (bumpFault i s).lockB = s.lockB ∧ (bumpFault i s).ctb = s.ctb ∧
    (bumpFault i s).csh = s.csh ∧ (bumpFault i s).cou = s.cou ∧ (bumpFault i s).ovl = s.ovl ∧ (bumpFault i s).mkl = s.mkl ∧
    (bumpFault i s).svc = s.svc ∧ (bumpFault i s).freeCount = s.freeCount ∧ (bumpFault i s).pending = s.pending := by
  simp [bumpFault]

@[simp] theorem placeStatus_bump_keeps (i : FaultInfo) :
    (placeStatus (bumpFault i) s).timebase = s.timebase ∧ (placeStatus (bumpFault i) s).pins = s.pins ∧
    (placeStatus (bumpFault i) s).resetActive = s.resetActive ∧ (placeStatus (bumpFault i) s).straps = s.straps ∧
    (placeStatus (bumpFault i) s).settings = s.settings ∧ (placeStatus (bumpFault i) s).chA = s.chA ∧
    (placeStatus (bumpFault i) s).chB = s.chB ∧ (placeStatus (bumpFault i) s).ptr = s.ptr ∧
    (placeStatus (bumpFault i) s).lockA = s.lockA ∧ (placeStatus (bumpFault i) s).lockB = s.lockB ∧
    (placeStatus (bumpFault i) s).ctb = s.ctb ∧ (placeStatus (bumpFault i) s).csh = s.csh ∧
    (placeStatus (bumpFault i) s).cou = s.cou ∧ (placeStatus (bumpFault i) s).ovl = s.ovl ∧
    (placeStatus (bumpFault i) s).mkl = s.mkl ∧ (placeStatus (bumpFault i) s).svc = s.svc ∧
    (placeStatus (bumpFault i) s).freeCount = s.freeCount ∧ (placeStatus (bumpFault i) s).pending = s.pending := by
  unfold placeStatus
  split <;> simp

@[simp] theorem statusEffect_bump_keeps (i : FaultInfo) :
    (statusEffect (bumpFault i) s).timebase = s.timebase ∧ (statusEffect (bumpFault i) s).pins = s.pins ∧
    (statusEffect (bumpFault i) s).resetActive = s.resetActive ∧ (statusEffect (bumpFault i) s).straps = s.straps ∧
    (statusEffect (bumpFault i) s).settings = s.settings ∧ (statusEffect (bumpFault i) s).chA = s.chA ∧
    (statusEffect (bumpFault i) s).chB = s.chB ∧ (statusEffect (bumpFault i) s).ptr = s.ptr ∧
    (statusEffect (bumpFault i) s).lockA = s.lockA ∧ (statusEffect (bumpFault i) s).lockB = s.lockB ∧
    (statusEffect (bumpFault i) s).ctb = s.ctb ∧ (statusEffect (bumpFault i) s).csh = s.csh ∧
    (statusEffect (bumpFault i) s).cou = s.cou ∧ (statusEffect (bumpFault i) s).ovl = s.ovl ∧
    (statusEffect (bumpFault i) s).mkl = s.mkl ∧ (statusEffect (bumpFault i) s).svc = s.svc ∧
    (statusEffect (bumpFault i) s).freeCount = s.freeCount ∧ (statusEffect (bumpFault i) s).pending = s.pending := by
  unfold statusEffect
  (repeat' split) <;> simp

@[simp] theorem recordFault_keeps (i : FaultInfo) :
    (recordFault i s).timebase = s.timebase ∧ (recordFault i s).pins = s.pins ∧
    (recordFault i s).resetActive = s.resetActive ∧ (recordFault i s).straps = s.straps ∧
    (recordFault i s).settings = s.settings ∧ (recordFault i s).chA = s.chA ∧ (recordFault i s).chB = s.chB ∧
    (recordFault i s).ptr = s.ptr ∧ (recordFault i s).lockA = s.lockA ∧ (recordFault i s).lockB = s.lockB ∧
    (recordFault i s).ctb = s.ctb ∧ (recordFault i s).csh = s.csh ∧ (recordFault i s).cou = s.cou ∧
    (recordFault i s).ovl = s.ovl ∧ (recordFault i s).mkl = s.mkl ∧ (recordFault i s).svc = s.svc ∧
    (recordFault i s).freeCount = s.freeCount ∧ (recordFault i s).pending = s.pending := by
  unfold recordFault
  split <;> simp

@[simp] theorem statusOverflow_keeps :
    (statusOverflow s).timebase = s.timebase ∧ (statusOverflow s).pins = s.pins ∧
    (statusOverflow s).resetActive = s.resetActive ∧ (statusOverflow s).straps = s.straps ∧
    (statusOverflow s).settings = s.settings ∧ (statusOverflow s).chA = s.chA ∧ (statusOverflow s).chB = s.chB ∧
    (statusOverflow s).ptr = s.ptr ∧ (statusOverflow s).lockA = s.lockA ∧ (statusOverflow s).lockB = s.lockB ∧
    (statusOverflow s).ctb = s.ctb ∧ (statusOverflow s).csh = s.csh ∧ (statusOverflow s).cou = s.cou ∧
    (statusOverflow s).ovl = s.ovl ∧ (statusOverflow s).mkl = s.mkl ∧ (statusOverflow s).svc = s.svc ∧
    (statusOverflow s).freeCount = s.freeCount ∧ (statusOverflow s).pending = s.pending := by
  simp [statusOverflow]

@[simp] theorem placeStatus_overflow_keeps :
    (placeStatus statusOverflow s).timebase = s.timebase ∧ (placeStatus statusOverflow s).pins = s.pins ∧
    (placeStatus statusOverflow s).resetActive = s.resetActive ∧ (placeStatus statusOverflow s).straps = s.straps ∧
    (placeStatus statusOverflow s).settings = s.settings ∧ (placeStatus statusOverflow s).chA = s.chA ∧
    (placeStatus statusOverflow s).chB = s.chB ∧ (placeStatus statusOverflow s).ptr = s.ptr ∧
    (placeStatus statusOverflow s).lockA = s.lockA ∧ (placeStatus statusOverflow s).lockB = s.lockB ∧
    (placeStatus statusOverflow s).ctb = s.ctb ∧ (placeStatus statusOverflow s).csh = s.csh ∧
    (placeStatus statusOverflow s).cou = s.cou ∧ (placeStatus statusOverflow s).ovl = s.ovl ∧
    (placeStatus statusOverflow s).mkl = s.mkl ∧ (placeStatus statusOverflow s).svc = s.svc ∧
    (placeStatus statusOverflow s).freeCount = s.freeCount ∧ (placeStatus statusOverflow s).pending = s.pending := by
  unfold placeStatus
  split <;> simp

@[simp] theorem statusChange_keeps :
    (statusChange s).timebase = s.timebase ∧ (statusChange s).pins = s.pins ∧ (statusChange s).resetActive = s.resetActive ∧
    (statusChange s).straps = s.straps ∧ (statusChange s).settings = s.settings ∧ (statusChange s).chA = s.chA ∧
    (statusChange s).chB = s.chB ∧ (statusChange s).ptr = s.ptr ∧ (statusChange s).lockA = s.lockA ∧
    (statusChange s).lockB = s.lockB ∧ (statusChange s).ctb = s.ctb ∧ (statusChange s).csh = s.csh ∧
    (statusChange s).cou = s.cou ∧ (statusChange s).ovl = s.ovl ∧ (statusChange s).mkl = s.mkl ∧
    (statusChange s).svc = s.svc ∧ (statusChange s).freeCount = s.freeCount ∧ (statusChange s).pending = s.pending := by
  simp only [statusChange, statusEffect]
  (repeat' split) <;> simp

@[simp] theorem clearRecord_keeps :
    (clearRecord s).timebase = s.timebase ∧ (clearRecord s).pins = s.pins ∧ (clearRecord s).resetActive = s.resetActive ∧
    (clearRecord s).straps = s.straps ∧ (clearRecord s).settings = s.settings ∧ (clearRecord s).chA = s.chA ∧
    (clearRecord s).chB = s.chB ∧ (clearRecord s).ptr = s.ptr ∧ (clearRecord s).lockA = s.lockA ∧
    (clearRecord s).lockB = s.lockB ∧ (clearRecord s).ctb = s.ctb ∧ (clearRecord s).csh = s.csh ∧
    (clearRecord s).cou = s.cou ∧ (clearRecord s).ovl = s.ovl ∧ (clearRecord s).mkl = s.mkl ∧ (clearRecord s).svc = s.svc ∧
    (clearRecord s).freeCount = s.freeCount ∧ (clearRecord s).pending = s.pending := by
  simp only [clearRecord, guarded]
  split <;> simp

@[simp] theorem placeFrame_keeps (f : LineFrame) (c : Option (BitVec 6 × BitVec 12)) :
    (placeFrame f c s).timebase = s.timebase ∧ (placeFrame f c s).pins = s.pins ∧
    (placeFrame f c s).resetActive = s.resetActive ∧ (placeFrame f c s).straps = s.straps ∧
    (placeFrame f c s).settings = s.settings ∧ (placeFrame f c s).chA = s.chA ∧ (placeFrame f c s).chB = s.chB ∧
    (placeFrame f c s).ptr = s.ptr ∧ (placeFrame f c s).lockA = s.lockA ∧ (placeFrame f c s).lockB = s.lockB ∧
    (placeFrame f c s).ctb = s.ctb ∧ (placeFrame f c s).csh = s.csh ∧ (placeFrame f c s).cou = s.cou ∧
    (placeFrame f c s).ovl = s.ovl ∧ (placeFrame f c s).mkl = s.mkl ∧ (placeFrame f c s).svc = s.svc ∧
    (placeFrame f c s).freeCount = s.freeCount ∧ (placeFrame f c s).pending = s.pending := by
  unfold placeFrame
  (repeat' split) <;> simp

/-! ## Cue entries and Cue Outputs -/

@[simp] theorem setEntry_keeps (i : Nat) (e : Option CueEntry) :
    (setEntry i e s).timebase = s.timebase ∧ (setEntry i e s).pins = s.pins ∧ (setEntry i e s).resetActive = s.resetActive ∧
    (setEntry i e s).straps = s.straps ∧ (setEntry i e s).settings = s.settings ∧ (setEntry i e s).clp = s.clp ∧
    (setEntry i e s).chA = s.chA ∧ (setEntry i e s).chB = s.chB ∧ (setEntry i e s).ptr = s.ptr ∧
    (setEntry i e s).lockA = s.lockA ∧ (setEntry i e s).lockB = s.lockB ∧ (setEntry i e s).csh = s.csh ∧
    (setEntry i e s).cou = s.cou ∧ (setEntry i e s).ovl = s.ovl ∧ (setEntry i e s).mkl = s.mkl ∧
    (setEntry i e s).svc = s.svc ∧ (setEntry i e s).flt = s.flt ∧ (setEntry i e s).freeCount = s.freeCount ∧
    (setEntry i e s).pending = s.pending := by
  simp [setEntry]

@[simp] theorem modRun_keeps (i : Nat) (f : RunPart → RunPart) :
    (modRun i f s).timebase = s.timebase ∧ (modRun i f s).pins = s.pins ∧ (modRun i f s).resetActive = s.resetActive ∧
    (modRun i f s).straps = s.straps ∧ (modRun i f s).settings = s.settings ∧ (modRun i f s).clp = s.clp ∧
    (modRun i f s).chA = s.chA ∧ (modRun i f s).chB = s.chB ∧ (modRun i f s).ptr = s.ptr ∧ (modRun i f s).lockA = s.lockA ∧
    (modRun i f s).lockB = s.lockB ∧ (modRun i f s).csh = s.csh ∧ (modRun i f s).cou = s.cou ∧ (modRun i f s).ovl = s.ovl ∧
    (modRun i f s).mkl = s.mkl ∧ (modRun i f s).svc = s.svc ∧ (modRun i f s).flt = s.flt ∧
    (modRun i f s).freeCount = s.freeCount ∧ (modRun i f s).pending = s.pending := by
  simp [modRun]

@[simp] theorem placePunch_keeps (e : BitVec 1) (d : CueDef) (r : BitVec 2) (q : Option Int) :
    (placePunch e d r q s).timebase = s.timebase ∧ (placePunch e d r q s).pins = s.pins ∧
    (placePunch e d r q s).resetActive = s.resetActive ∧ (placePunch e d r q s).straps = s.straps ∧
    (placePunch e d r q s).settings = s.settings ∧ (placePunch e d r q s).chA = s.chA ∧ (placePunch e d r q s).chB = s.chB ∧
    (placePunch e d r q s).ptr = s.ptr ∧ (placePunch e d r q s).lockA = s.lockA ∧ (placePunch e d r q s).lockB = s.lockB ∧
    (placePunch e d r q s).ctb = s.ctb ∧ (placePunch e d r q s).csh = s.csh ∧ (placePunch e d r q s).cou = s.cou ∧
    (placePunch e d r q s).ovl = s.ovl ∧ (placePunch e d r q s).mkl = s.mkl ∧ (placePunch e d r q s).svc = s.svc ∧
    (placePunch e d r q s).freeCount = s.freeCount ∧ (placePunch e d r q s).pending = s.pending := by
  simp [placePunch]

@[simp] theorem openPunch_keeps (c : Chan) (d : CueDef) (q : Option Int) :
    (openPunch c d q s).timebase = s.timebase ∧ (openPunch c d q s).pins = s.pins ∧
    (openPunch c d q s).resetActive = s.resetActive ∧ (openPunch c d q s).straps = s.straps ∧
    (openPunch c d q s).settings = s.settings ∧ (openPunch c d q s).chA = s.chA ∧ (openPunch c d q s).chB = s.chB ∧
    (openPunch c d q s).ptr = s.ptr ∧ (openPunch c d q s).lockA = s.lockA ∧ (openPunch c d q s).lockB = s.lockB ∧
    (openPunch c d q s).ctb = s.ctb ∧ (openPunch c d q s).csh = s.csh ∧ (openPunch c d q s).ovl = s.ovl ∧
    (openPunch c d q s).mkl = s.mkl ∧ (openPunch c d q s).svc = s.svc ∧ (openPunch c d q s).freeCount = s.freeCount ∧
    (openPunch c d q s).pending = s.pending := by
  unfold openPunch
  split <;> simp

@[simp] theorem closePunch_keeps (c : Chan) (d : CueDef) (r : BitVec 2) (q : Option Int) :
    (closePunch c d r q s).timebase = s.timebase ∧ (closePunch c d r q s).pins = s.pins ∧
    (closePunch c d r q s).resetActive = s.resetActive ∧ (closePunch c d r q s).straps = s.straps ∧
    (closePunch c d r q s).settings = s.settings ∧ (closePunch c d r q s).chA = s.chA ∧ (closePunch c d r q s).chB = s.chB ∧
    (closePunch c d r q s).ptr = s.ptr ∧ (closePunch c d r q s).lockA = s.lockA ∧ (closePunch c d r q s).lockB = s.lockB ∧
    (closePunch c d r q s).ctb = s.ctb ∧ (closePunch c d r q s).csh = s.csh ∧ (closePunch c d r q s).ovl = s.ovl ∧
    (closePunch c d r q s).mkl = s.mkl ∧ (closePunch c d r q s).svc = s.svc ∧
    (closePunch c d r q s).freeCount = s.freeCount ∧ (closePunch c d r q s).pending = s.pending := by
  unfold closePunch
  split <;> simp

@[simp] theorem closeCuePunch_keeps (d : CueDef) (r : BitVec 2) (q : Option Int) :
    (closeCuePunch d r q s).timebase = s.timebase ∧ (closeCuePunch d r q s).pins = s.pins ∧
    (closeCuePunch d r q s).resetActive = s.resetActive ∧ (closeCuePunch d r q s).straps = s.straps ∧
    (closeCuePunch d r q s).settings = s.settings ∧ (closeCuePunch d r q s).chA = s.chA ∧
    (closeCuePunch d r q s).chB = s.chB ∧ (closeCuePunch d r q s).ptr = s.ptr ∧ (closeCuePunch d r q s).lockA = s.lockA ∧
    (closeCuePunch d r q s).lockB = s.lockB ∧ (closeCuePunch d r q s).ctb = s.ctb ∧ (closeCuePunch d r q s).csh = s.csh ∧
    (closeCuePunch d r q s).ovl = s.ovl ∧ (closeCuePunch d r q s).mkl = s.mkl ∧ (closeCuePunch d r q s).svc = s.svc ∧
    (closeCuePunch d r q s).freeCount = s.freeCount ∧ (closeCuePunch d r q s).pending = s.pending := by
  unfold closeCuePunch
  split <;> simp

@[simp] theorem modHolds_keeps (m : BitVec 16) (f : Nat → Nat) :
    (modHolds m f s).timebase = s.timebase ∧ (modHolds m f s).pins = s.pins ∧ (modHolds m f s).resetActive = s.resetActive ∧
    (modHolds m f s).straps = s.straps ∧ (modHolds m f s).settings = s.settings ∧ (modHolds m f s).clp = s.clp ∧
    (modHolds m f s).chA = s.chA ∧ (modHolds m f s).chB = s.chB ∧ (modHolds m f s).ptr = s.ptr ∧
    (modHolds m f s).lockA = s.lockA ∧ (modHolds m f s).lockB = s.lockB ∧ (modHolds m f s).ctb = s.ctb ∧
    (modHolds m f s).csh = s.csh ∧ (modHolds m f s).ovl = s.ovl ∧ (modHolds m f s).mkl = s.mkl ∧
    (modHolds m f s).svc = s.svc ∧ (modHolds m f s).flt = s.flt ∧ (modHolds m f s).freeCount = s.freeCount ∧
    (modHolds m f s).pending = s.pending := by
  simp [modHolds]

@[simp] theorem openLight_keeps (m : BitVec 16) :
    (openLight m s).timebase = s.timebase ∧ (openLight m s).pins = s.pins ∧ (openLight m s).resetActive = s.resetActive ∧
    (openLight m s).straps = s.straps ∧ (openLight m s).settings = s.settings ∧ (openLight m s).clp = s.clp ∧
    (openLight m s).chA = s.chA ∧ (openLight m s).chB = s.chB ∧ (openLight m s).ptr = s.ptr ∧
    (openLight m s).lockA = s.lockA ∧ (openLight m s).lockB = s.lockB ∧ (openLight m s).ctb = s.ctb ∧
    (openLight m s).csh = s.csh ∧ (openLight m s).ovl = s.ovl ∧ (openLight m s).mkl = s.mkl ∧ (openLight m s).svc = s.svc ∧
    (openLight m s).flt = s.flt ∧ (openLight m s).freeCount = s.freeCount ∧ (openLight m s).pending = s.pending := by
  unfold openLight
  split <;> simp

@[simp] theorem releaseLight_keeps (m : BitVec 16) :
    (releaseLight m s).timebase = s.timebase ∧ (releaseLight m s).pins = s.pins ∧
    (releaseLight m s).resetActive = s.resetActive ∧ (releaseLight m s).straps = s.straps ∧
    (releaseLight m s).settings = s.settings ∧ (releaseLight m s).clp = s.clp ∧ (releaseLight m s).chA = s.chA ∧
    (releaseLight m s).chB = s.chB ∧ (releaseLight m s).ptr = s.ptr ∧ (releaseLight m s).lockA = s.lockA ∧
    (releaseLight m s).lockB = s.lockB ∧ (releaseLight m s).ctb = s.ctb ∧ (releaseLight m s).csh = s.csh ∧
    (releaseLight m s).ovl = s.ovl ∧ (releaseLight m s).mkl = s.mkl ∧ (releaseLight m s).svc = s.svc ∧
    (releaseLight m s).flt = s.flt ∧ (releaseLight m s).freeCount = s.freeCount ∧ (releaseLight m s).pending = s.pending := by
  simp [releaseLight]

@[simp] theorem beep_keeps :
    (beep s).timebase = s.timebase ∧ (beep s).pins = s.pins ∧ (beep s).resetActive = s.resetActive ∧
    (beep s).straps = s.straps ∧ (beep s).settings = s.settings ∧ (beep s).clp = s.clp ∧ (beep s).chA = s.chA ∧
    (beep s).chB = s.chB ∧ (beep s).ptr = s.ptr ∧ (beep s).lockA = s.lockA ∧ (beep s).lockB = s.lockB ∧
    (beep s).ctb = s.ctb ∧ (beep s).csh = s.csh ∧ (beep s).ovl = s.ovl ∧ (beep s).mkl = s.mkl ∧ (beep s).svc = s.svc ∧
    (beep s).flt = s.flt ∧ (beep s).freeCount = s.freeCount ∧ (beep s).pending = s.pending := by
  unfold beep
  split <;> simp

@[simp] theorem dropTally_keeps (n : BitVec 6 × BitVec 12) :
    (dropTally n s).timebase = s.timebase ∧ (dropTally n s).pins = s.pins ∧ (dropTally n s).resetActive = s.resetActive ∧
    (dropTally n s).straps = s.straps ∧ (dropTally n s).settings = s.settings ∧ (dropTally n s).clp = s.clp ∧
    (dropTally n s).chA = s.chA ∧ (dropTally n s).chB = s.chB ∧ (dropTally n s).ptr = s.ptr ∧
    (dropTally n s).lockA = s.lockA ∧ (dropTally n s).lockB = s.lockB ∧ (dropTally n s).ctb = s.ctb ∧
    (dropTally n s).csh = s.csh ∧ (dropTally n s).ovl = s.ovl ∧ (dropTally n s).mkl = s.mkl ∧ (dropTally n s).svc = s.svc ∧
    (dropTally n s).flt = s.flt ∧ (dropTally n s).freeCount = s.freeCount ∧ (dropTally n s).pending = s.pending := by
  simp [dropTally]

@[simp] theorem clearTally_keeps :
    (clearTally s).timebase = s.timebase ∧ (clearTally s).pins = s.pins ∧ (clearTally s).resetActive = s.resetActive ∧
    (clearTally s).straps = s.straps ∧ (clearTally s).settings = s.settings ∧ (clearTally s).clp = s.clp ∧
    (clearTally s).chA = s.chA ∧ (clearTally s).chB = s.chB ∧ (clearTally s).ptr = s.ptr ∧ (clearTally s).lockA = s.lockA ∧
    (clearTally s).lockB = s.lockB ∧ (clearTally s).ctb = s.ctb ∧ (clearTally s).csh = s.csh ∧ (clearTally s).ovl = s.ovl ∧
    (clearTally s).mkl = s.mkl ∧ (clearTally s).svc = s.svc ∧ (clearTally s).flt = s.flt ∧
    (clearTally s).freeCount = s.freeCount ∧ (clearTally s).pending = s.pending := by
  simp [clearTally]

@[simp] theorem tallyIn_keeps (n : BitVec 5) (p : PunchArgs) :
    (tallyIn n p s).timebase = s.timebase ∧ (tallyIn n p s).pins = s.pins ∧ (tallyIn n p s).resetActive = s.resetActive ∧
    (tallyIn n p s).straps = s.straps ∧ (tallyIn n p s).settings = s.settings ∧ (tallyIn n p s).clp = s.clp ∧
    (tallyIn n p s).chA = s.chA ∧ (tallyIn n p s).chB = s.chB ∧ (tallyIn n p s).ptr = s.ptr ∧
    (tallyIn n p s).lockA = s.lockA ∧ (tallyIn n p s).lockB = s.lockB ∧ (tallyIn n p s).csh = s.csh ∧
    (tallyIn n p s).ovl = s.ovl ∧ (tallyIn n p s).mkl = s.mkl ∧ (tallyIn n p s).svc = s.svc ∧ (tallyIn n p s).flt = s.flt ∧
    (tallyIn n p s).freeCount = s.freeCount ∧ (tallyIn n p s).pending = s.pending := by
  simp only [tallyIn]
  (repeat' split) <;> simp

@[simp] theorem tallyOut_keeps (n : BitVec 5) (p : PunchArgs) :
    (tallyOut n p s).timebase = s.timebase ∧ (tallyOut n p s).pins = s.pins ∧ (tallyOut n p s).resetActive = s.resetActive ∧
    (tallyOut n p s).straps = s.straps ∧ (tallyOut n p s).settings = s.settings ∧ (tallyOut n p s).clp = s.clp ∧
    (tallyOut n p s).chA = s.chA ∧ (tallyOut n p s).chB = s.chB ∧ (tallyOut n p s).ptr = s.ptr ∧
    (tallyOut n p s).lockA = s.lockA ∧ (tallyOut n p s).lockB = s.lockB ∧ (tallyOut n p s).ctb = s.ctb ∧
    (tallyOut n p s).csh = s.csh ∧ (tallyOut n p s).ovl = s.ovl ∧ (tallyOut n p s).mkl = s.mkl ∧
    (tallyOut n p s).svc = s.svc ∧ (tallyOut n p s).flt = s.flt ∧ (tallyOut n p s).freeCount = s.freeCount ∧
    (tallyOut n p s).pending = s.pending := by
  simp [tallyOut]

@[simp] theorem applyPunch_keeps (n : BitVec 5) (e : BitVec 1) (p : PunchArgs) :
    (applyPunch n e p s).timebase = s.timebase ∧ (applyPunch n e p s).pins = s.pins ∧
    (applyPunch n e p s).resetActive = s.resetActive ∧ (applyPunch n e p s).straps = s.straps ∧
    (applyPunch n e p s).settings = s.settings ∧ (applyPunch n e p s).clp = s.clp ∧ (applyPunch n e p s).chA = s.chA ∧
    (applyPunch n e p s).chB = s.chB ∧ (applyPunch n e p s).ptr = s.ptr ∧ (applyPunch n e p s).lockA = s.lockA ∧
    (applyPunch n e p s).lockB = s.lockB ∧ (applyPunch n e p s).csh = s.csh ∧ (applyPunch n e p s).ovl = s.ovl ∧
    (applyPunch n e p s).mkl = s.mkl ∧ (applyPunch n e p s).svc = s.svc ∧ (applyPunch n e p s).flt = s.flt ∧
    (applyPunch n e p s).freeCount = s.freeCount ∧ (applyPunch n e p s).pending = s.pending := by
  unfold applyPunch
  split <;> simp

@[simp] theorem dropPunch_keeps (c : Chan) (i : Nat) :
    (dropPunch c i s).timebase = s.timebase ∧ (dropPunch c i s).pins = s.pins ∧
    (dropPunch c i s).resetActive = s.resetActive ∧ (dropPunch c i s).straps = s.straps ∧
    (dropPunch c i s).settings = s.settings ∧ (dropPunch c i s).chA = s.chA ∧ (dropPunch c i s).chB = s.chB ∧
    (dropPunch c i s).ptr = s.ptr ∧ (dropPunch c i s).lockA = s.lockA ∧ (dropPunch c i s).lockB = s.lockB ∧
    (dropPunch c i s).csh = s.csh ∧ (dropPunch c i s).ovl = s.ovl ∧ (dropPunch c i s).mkl = s.mkl ∧
    (dropPunch c i s).svc = s.svc ∧ (dropPunch c i s).freeCount = s.freeCount ∧ (dropPunch c i s).pending = s.pending := by
  unfold dropPunch
  (repeat' split) <;> simp

@[simp] theorem syncLost_keeps (c : Chan) :
    (syncLost c s).timebase = s.timebase ∧ (syncLost c s).pins = s.pins ∧ (syncLost c s).resetActive = s.resetActive ∧
    (syncLost c s).straps = s.straps ∧ (syncLost c s).settings = s.settings ∧ (syncLost c s).chA = s.chA ∧
    (syncLost c s).chB = s.chB ∧ (syncLost c s).ptr = s.ptr ∧ (syncLost c s).lockA = s.lockA ∧
    (syncLost c s).lockB = s.lockB ∧ (syncLost c s).csh = s.csh ∧ (syncLost c s).ovl = s.ovl ∧ (syncLost c s).mkl = s.mkl ∧
    (syncLost c s).svc = s.svc ∧ (syncLost c s).freeCount = s.freeCount ∧ (syncLost c s).pending = s.pending := by
  unfold syncLost
  refine ⟨forIndexes_same State.timebase _ (by simp) _ _, forIndexes_same State.pins _ (by simp) _ _, forIndexes_same State.resetActive _ (by simp) _ _, forIndexes_same State.straps _ (by simp) _ _, forIndexes_same State.settings _ (by simp) _ _, forIndexes_same State.chA _ (by simp) _ _, forIndexes_same State.chB _ (by simp) _ _, forIndexes_same State.ptr _ (by simp) _ _, forIndexes_same State.lockA _ (by simp) _ _, forIndexes_same State.lockB _ (by simp) _ _, forIndexes_same State.csh _ (by simp) _ _, forIndexes_same State.ovl _ (by simp) _ _, forIndexes_same State.mkl _ (by simp) _ _, forIndexes_same State.svc _ (by simp) _ _, forIndexes_same State.freeCount _ (by simp) _ _, forIndexes_same State.pending _ (by simp) _ _⟩

@[simp] theorem releaseOutputs_keeps :
    (releaseOutputs s).timebase = s.timebase ∧ (releaseOutputs s).pins = s.pins ∧
    (releaseOutputs s).resetActive = s.resetActive ∧ (releaseOutputs s).straps = s.straps ∧
    (releaseOutputs s).settings = s.settings ∧ (releaseOutputs s).clp = s.clp ∧ (releaseOutputs s).chA = s.chA ∧
    (releaseOutputs s).chB = s.chB ∧ (releaseOutputs s).ptr = s.ptr ∧ (releaseOutputs s).lockA = s.lockA ∧
    (releaseOutputs s).lockB = s.lockB ∧ (releaseOutputs s).ctb = s.ctb ∧ (releaseOutputs s).csh = s.csh ∧
    (releaseOutputs s).ovl = s.ovl ∧ (releaseOutputs s).mkl = s.mkl ∧ (releaseOutputs s).svc = s.svc ∧
    (releaseOutputs s).freeCount = s.freeCount ∧ (releaseOutputs s).pending = s.pending := by
  simp only [releaseOutputs, guarded]
  split <;> simp

/-! ## The Cue Scheduler -/

@[simp] theorem unlistEntry_keeps (i : Nat) :
    (unlistEntry i s).timebase = s.timebase ∧ (unlistEntry i s).pins = s.pins ∧
    (unlistEntry i s).resetActive = s.resetActive ∧ (unlistEntry i s).straps = s.straps ∧
    (unlistEntry i s).settings = s.settings ∧ (unlistEntry i s).clp = s.clp ∧ (unlistEntry i s).chA = s.chA ∧
    (unlistEntry i s).chB = s.chB ∧ (unlistEntry i s).ptr = s.ptr ∧ (unlistEntry i s).lockA = s.lockA ∧
    (unlistEntry i s).lockB = s.lockB ∧ (unlistEntry i s).ctb = s.ctb ∧ (unlistEntry i s).cou = s.cou ∧
    (unlistEntry i s).ovl = s.ovl ∧ (unlistEntry i s).mkl = s.mkl ∧ (unlistEntry i s).svc = s.svc ∧
    (unlistEntry i s).flt = s.flt ∧ (unlistEntry i s).freeCount = s.freeCount ∧ (unlistEntry i s).pending = s.pending := by
  simp [unlistEntry]

@[simp] theorem unlist_keeps (i : Nat) (el : Element) :
    (unlist i el s).timebase = s.timebase ∧ (unlist i el s).pins = s.pins ∧ (unlist i el s).resetActive = s.resetActive ∧
    (unlist i el s).straps = s.straps ∧ (unlist i el s).settings = s.settings ∧ (unlist i el s).clp = s.clp ∧
    (unlist i el s).chA = s.chA ∧ (unlist i el s).chB = s.chB ∧ (unlist i el s).ptr = s.ptr ∧
    (unlist i el s).lockA = s.lockA ∧ (unlist i el s).lockB = s.lockB ∧ (unlist i el s).ctb = s.ctb ∧
    (unlist i el s).cou = s.cou ∧ (unlist i el s).ovl = s.ovl ∧ (unlist i el s).mkl = s.mkl ∧ (unlist i el s).svc = s.svc ∧
    (unlist i el s).flt = s.flt ∧ (unlist i el s).freeCount = s.freeCount ∧ (unlist i el s).pending = s.pending := by
  simp [unlist]

@[simp] theorem emptyDue_keeps :
    (emptyDue s).timebase = s.timebase ∧ (emptyDue s).pins = s.pins ∧ (emptyDue s).resetActive = s.resetActive ∧
    (emptyDue s).straps = s.straps ∧ (emptyDue s).settings = s.settings ∧ (emptyDue s).clp = s.clp ∧
    (emptyDue s).chA = s.chA ∧ (emptyDue s).chB = s.chB ∧ (emptyDue s).ptr = s.ptr ∧ (emptyDue s).lockA = s.lockA ∧
    (emptyDue s).lockB = s.lockB ∧ (emptyDue s).ctb = s.ctb ∧ (emptyDue s).cou = s.cou ∧ (emptyDue s).ovl = s.ovl ∧
    (emptyDue s).mkl = s.mkl ∧ (emptyDue s).svc = s.svc ∧ (emptyDue s).flt = s.flt ∧ (emptyDue s).freeCount = s.freeCount ∧
    (emptyDue s).pending = s.pending := by
  simp [emptyDue]

@[simp] theorem rederive_keeps (q : Option Int) (i : Nat) :
    (rederive q i s).timebase = s.timebase ∧ (rederive q i s).pins = s.pins ∧ (rederive q i s).resetActive = s.resetActive ∧
    (rederive q i s).straps = s.straps ∧ (rederive q i s).settings = s.settings ∧ (rederive q i s).clp = s.clp ∧
    (rederive q i s).chA = s.chA ∧ (rederive q i s).chB = s.chB ∧ (rederive q i s).ptr = s.ptr ∧
    (rederive q i s).lockA = s.lockA ∧ (rederive q i s).lockB = s.lockB ∧ (rederive q i s).cou = s.cou ∧
    (rederive q i s).ovl = s.ovl ∧ (rederive q i s).mkl = s.mkl ∧ (rederive q i s).svc = s.svc ∧
    (rederive q i s).flt = s.flt ∧ (rederive q i s).freeCount = s.freeCount ∧ (rederive q i s).pending = s.pending := by
  unfold rederive
  (repeat' split) <;> simp

@[simp] theorem rederiveAll_keeps (q : Option Int) :
    (rederiveAll q s).timebase = s.timebase ∧ (rederiveAll q s).pins = s.pins ∧
    (rederiveAll q s).resetActive = s.resetActive ∧ (rederiveAll q s).straps = s.straps ∧
    (rederiveAll q s).settings = s.settings ∧ (rederiveAll q s).clp = s.clp ∧ (rederiveAll q s).chA = s.chA ∧
    (rederiveAll q s).chB = s.chB ∧ (rederiveAll q s).ptr = s.ptr ∧ (rederiveAll q s).lockA = s.lockA ∧
    (rederiveAll q s).lockB = s.lockB ∧ (rederiveAll q s).cou = s.cou ∧ (rederiveAll q s).ovl = s.ovl ∧
    (rederiveAll q s).mkl = s.mkl ∧ (rederiveAll q s).svc = s.svc ∧ (rederiveAll q s).flt = s.flt ∧
    (rederiveAll q s).freeCount = s.freeCount ∧ (rederiveAll q s).pending = s.pending := by
  unfold rederiveAll
  refine ⟨forIndexes_same State.timebase _ (by simp) _ _, forIndexes_same State.pins _ (by simp) _ _, forIndexes_same State.resetActive _ (by simp) _ _, forIndexes_same State.straps _ (by simp) _ _, forIndexes_same State.settings _ (by simp) _ _, forIndexes_same State.clp _ (by simp) _ _, forIndexes_same State.chA _ (by simp) _ _, forIndexes_same State.chB _ (by simp) _ _, forIndexes_same State.ptr _ (by simp) _ _, forIndexes_same State.lockA _ (by simp) _ _, forIndexes_same State.lockB _ (by simp) _ _, forIndexes_same State.cou _ (by simp) _ _, forIndexes_same State.ovl _ (by simp) _ _, forIndexes_same State.mkl _ (by simp) _ _, forIndexes_same State.svc _ (by simp) _ _, forIndexes_same State.flt _ (by simp) _ _, forIndexes_same State.freeCount _ (by simp) _ _, forIndexes_same State.pending _ (by simp) _ _⟩

@[simp] theorem armEntry_keeps (q : Option Int) (i : Nat) :
    (armEntry q i s).timebase = s.timebase ∧ (armEntry q i s).pins = s.pins ∧ (armEntry q i s).resetActive = s.resetActive ∧
    (armEntry q i s).straps = s.straps ∧ (armEntry q i s).settings = s.settings ∧ (armEntry q i s).clp = s.clp ∧
    (armEntry q i s).chA = s.chA ∧ (armEntry q i s).chB = s.chB ∧ (armEntry q i s).ptr = s.ptr ∧
    (armEntry q i s).lockA = s.lockA ∧ (armEntry q i s).lockB = s.lockB ∧ (armEntry q i s).csh = s.csh ∧
    (armEntry q i s).cou = s.cou ∧ (armEntry q i s).ovl = s.ovl ∧ (armEntry q i s).mkl = s.mkl ∧
    (armEntry q i s).svc = s.svc ∧ (armEntry q i s).flt = s.flt ∧ (armEntry q i s).freeCount = s.freeCount ∧
    (armEntry q i s).pending = s.pending := by
  unfold armEntry
  (repeat' split) <;> simp

@[simp] theorem endRun_keeps (r : RunState) (i : Nat) :
    (endRun r i s).timebase = s.timebase ∧ (endRun r i s).pins = s.pins ∧ (endRun r i s).resetActive = s.resetActive ∧
    (endRun r i s).straps = s.straps ∧ (endRun r i s).settings = s.settings ∧ (endRun r i s).chA = s.chA ∧
    (endRun r i s).chB = s.chB ∧ (endRun r i s).ptr = s.ptr ∧ (endRun r i s).lockA = s.lockA ∧
    (endRun r i s).lockB = s.lockB ∧ (endRun r i s).ovl = s.ovl ∧ (endRun r i s).mkl = s.mkl ∧ (endRun r i s).svc = s.svc ∧
    (endRun r i s).freeCount = s.freeCount ∧ (endRun r i s).pending = s.pending := by
  unfold endRun
  (repeat' split) <;> simp

@[simp] theorem interruptAll_keeps :
    (interruptAll s).timebase = s.timebase ∧ (interruptAll s).pins = s.pins ∧ (interruptAll s).resetActive = s.resetActive ∧
    (interruptAll s).straps = s.straps ∧ (interruptAll s).settings = s.settings ∧ (interruptAll s).chA = s.chA ∧
    (interruptAll s).chB = s.chB ∧ (interruptAll s).ptr = s.ptr ∧ (interruptAll s).lockA = s.lockA ∧
    (interruptAll s).lockB = s.lockB ∧ (interruptAll s).ovl = s.ovl ∧ (interruptAll s).mkl = s.mkl ∧
    (interruptAll s).svc = s.svc ∧ (interruptAll s).freeCount = s.freeCount ∧ (interruptAll s).pending = s.pending := by
  unfold interruptAll
  refine ⟨forIndexes_same State.timebase _ (by simp) _ _, forIndexes_same State.pins _ (by simp) _ _, forIndexes_same State.resetActive _ (by simp) _ _, forIndexes_same State.straps _ (by simp) _ _, forIndexes_same State.settings _ (by simp) _ _, forIndexes_same State.chA _ (by simp) _ _, forIndexes_same State.chB _ (by simp) _ _, forIndexes_same State.ptr _ (by simp) _ _, forIndexes_same State.lockA _ (by simp) _ _, forIndexes_same State.lockB _ (by simp) _ _, forIndexes_same State.ovl _ (by simp) _ _, forIndexes_same State.mkl _ (by simp) _ _, forIndexes_same State.svc _ (by simp) _ _, forIndexes_same State.freeCount _ (by simp) _ _, forIndexes_same State.pending _ (by simp) _ _⟩

@[simp] theorem disarmEntry_keeps (i : Nat) :
    (disarmEntry i s).timebase = s.timebase ∧ (disarmEntry i s).pins = s.pins ∧
    (disarmEntry i s).resetActive = s.resetActive ∧ (disarmEntry i s).straps = s.straps ∧
    (disarmEntry i s).settings = s.settings ∧ (disarmEntry i s).chA = s.chA ∧ (disarmEntry i s).chB = s.chB ∧
    (disarmEntry i s).ptr = s.ptr ∧ (disarmEntry i s).lockA = s.lockA ∧ (disarmEntry i s).lockB = s.lockB ∧
    (disarmEntry i s).ovl = s.ovl ∧ (disarmEntry i s).mkl = s.mkl ∧ (disarmEntry i s).svc = s.svc ∧
    (disarmEntry i s).freeCount = s.freeCount ∧ (disarmEntry i s).pending = s.pending := by
  unfold disarmEntry
  (repeat' split) <;> simp

@[simp] theorem fireSpanStart_keeps (i : Nat) :
    (fireSpanStart i s).timebase = s.timebase ∧ (fireSpanStart i s).pins = s.pins ∧
    (fireSpanStart i s).resetActive = s.resetActive ∧ (fireSpanStart i s).straps = s.straps ∧
    (fireSpanStart i s).settings = s.settings ∧ (fireSpanStart i s).clp = s.clp ∧ (fireSpanStart i s).chA = s.chA ∧
    (fireSpanStart i s).chB = s.chB ∧ (fireSpanStart i s).ptr = s.ptr ∧ (fireSpanStart i s).lockA = s.lockA ∧
    (fireSpanStart i s).lockB = s.lockB ∧ (fireSpanStart i s).cou = s.cou ∧ (fireSpanStart i s).ovl = s.ovl ∧
    (fireSpanStart i s).mkl = s.mkl ∧ (fireSpanStart i s).svc = s.svc ∧ (fireSpanStart i s).flt = s.flt ∧
    (fireSpanStart i s).freeCount = s.freeCount ∧ (fireSpanStart i s).pending = s.pending := by
  unfold fireSpanStart
  split <;> simp

@[simp] theorem fireLightOn_keeps (i : Nat) (d : CueDef) :
    (fireLightOn i d s).timebase = s.timebase ∧ (fireLightOn i d s).pins = s.pins ∧
    (fireLightOn i d s).resetActive = s.resetActive ∧ (fireLightOn i d s).straps = s.straps ∧
    (fireLightOn i d s).settings = s.settings ∧ (fireLightOn i d s).clp = s.clp ∧ (fireLightOn i d s).chA = s.chA ∧
    (fireLightOn i d s).chB = s.chB ∧ (fireLightOn i d s).ptr = s.ptr ∧ (fireLightOn i d s).lockA = s.lockA ∧
    (fireLightOn i d s).lockB = s.lockB ∧ (fireLightOn i d s).csh = s.csh ∧ (fireLightOn i d s).ovl = s.ovl ∧
    (fireLightOn i d s).mkl = s.mkl ∧ (fireLightOn i d s).svc = s.svc ∧ (fireLightOn i d s).flt = s.flt ∧
    (fireLightOn i d s).freeCount = s.freeCount ∧ (fireLightOn i d s).pending = s.pending := by
  simp [fireLightOn]

@[simp] theorem fireLightOff_keeps (i : Nat) (e : CueEntry) :
    (fireLightOff i e s).timebase = s.timebase ∧ (fireLightOff i e s).pins = s.pins ∧
    (fireLightOff i e s).resetActive = s.resetActive ∧ (fireLightOff i e s).straps = s.straps ∧
    (fireLightOff i e s).settings = s.settings ∧ (fireLightOff i e s).clp = s.clp ∧ (fireLightOff i e s).chA = s.chA ∧
    (fireLightOff i e s).chB = s.chB ∧ (fireLightOff i e s).ptr = s.ptr ∧ (fireLightOff i e s).lockA = s.lockA ∧
    (fireLightOff i e s).lockB = s.lockB ∧ (fireLightOff i e s).csh = s.csh ∧ (fireLightOff i e s).ovl = s.ovl ∧
    (fireLightOff i e s).mkl = s.mkl ∧ (fireLightOff i e s).svc = s.svc ∧ (fireLightOff i e s).flt = s.flt ∧
    (fireLightOff i e s).freeCount = s.freeCount ∧ (fireLightOff i e s).pending = s.pending := by
  unfold fireLightOff
  split <;> simp

@[simp] theorem firePunchIn_keeps (q : Option Int) (i : Nat) (d : CueDef) :
    (firePunchIn q i d s).timebase = s.timebase ∧ (firePunchIn q i d s).pins = s.pins ∧
    (firePunchIn q i d s).resetActive = s.resetActive ∧ (firePunchIn q i d s).straps = s.straps ∧
    (firePunchIn q i d s).settings = s.settings ∧ (firePunchIn q i d s).chA = s.chA ∧ (firePunchIn q i d s).chB = s.chB ∧
    (firePunchIn q i d s).ptr = s.ptr ∧ (firePunchIn q i d s).lockA = s.lockA ∧ (firePunchIn q i d s).lockB = s.lockB ∧
    (firePunchIn q i d s).csh = s.csh ∧ (firePunchIn q i d s).ovl = s.ovl ∧ (firePunchIn q i d s).mkl = s.mkl ∧
    (firePunchIn q i d s).svc = s.svc ∧ (firePunchIn q i d s).freeCount = s.freeCount ∧
    (firePunchIn q i d s).pending = s.pending := by
  unfold firePunchIn
  (repeat' split) <;> simp

@[simp] theorem firePunchOut_keeps (q : Option Int) (i : Nat) (e : CueEntry) :
    (firePunchOut q i e s).timebase = s.timebase ∧ (firePunchOut q i e s).pins = s.pins ∧
    (firePunchOut q i e s).resetActive = s.resetActive ∧ (firePunchOut q i e s).straps = s.straps ∧
    (firePunchOut q i e s).settings = s.settings ∧ (firePunchOut q i e s).chA = s.chA ∧ (firePunchOut q i e s).chB = s.chB ∧
    (firePunchOut q i e s).ptr = s.ptr ∧ (firePunchOut q i e s).lockA = s.lockA ∧ (firePunchOut q i e s).lockB = s.lockB ∧
    (firePunchOut q i e s).csh = s.csh ∧ (firePunchOut q i e s).ovl = s.ovl ∧ (firePunchOut q i e s).mkl = s.mkl ∧
    (firePunchOut q i e s).svc = s.svc ∧ (firePunchOut q i e s).freeCount = s.freeCount ∧
    (firePunchOut q i e s).pending = s.pending := by
  unfold firePunchOut
  split <;> simp

@[simp] theorem fireSpanEnd_keeps (q : Option Int) (i : Nat) (e : CueEntry) :
    (fireSpanEnd q i e s).timebase = s.timebase ∧ (fireSpanEnd q i e s).pins = s.pins ∧
    (fireSpanEnd q i e s).resetActive = s.resetActive ∧ (fireSpanEnd q i e s).straps = s.straps ∧
    (fireSpanEnd q i e s).settings = s.settings ∧ (fireSpanEnd q i e s).chA = s.chA ∧ (fireSpanEnd q i e s).chB = s.chB ∧
    (fireSpanEnd q i e s).ptr = s.ptr ∧ (fireSpanEnd q i e s).lockA = s.lockA ∧ (fireSpanEnd q i e s).lockB = s.lockB ∧
    (fireSpanEnd q i e s).ovl = s.ovl ∧ (fireSpanEnd q i e s).mkl = s.mkl ∧ (fireSpanEnd q i e s).svc = s.svc ∧
    (fireSpanEnd q i e s).freeCount = s.freeCount ∧ (fireSpanEnd q i e s).pending = s.pending := by
  unfold fireSpanEnd
  (repeat' split) <;> simp

@[simp] theorem elementAction_keeps (q : Option Int) (i : Nat) (e : CueEntry) (el : Element) :
    (elementAction q i e el s).timebase = s.timebase ∧ (elementAction q i e el s).pins = s.pins ∧
    (elementAction q i e el s).resetActive = s.resetActive ∧ (elementAction q i e el s).straps = s.straps ∧
    (elementAction q i e el s).settings = s.settings ∧ (elementAction q i e el s).chA = s.chA ∧
    (elementAction q i e el s).chB = s.chB ∧ (elementAction q i e el s).ptr = s.ptr ∧
    (elementAction q i e el s).lockA = s.lockA ∧ (elementAction q i e el s).lockB = s.lockB ∧
    (elementAction q i e el s).ovl = s.ovl ∧ (elementAction q i e el s).mkl = s.mkl ∧
    (elementAction q i e el s).svc = s.svc ∧ (elementAction q i e el s).freeCount = s.freeCount ∧
    (elementAction q i e el s).pending = s.pending := by
  cases el <;> simp [elementAction]

@[simp] theorem fireElement_keeps (q : Option Int) (i : Nat) (el : Element) :
    (fireElement q i el s).timebase = s.timebase ∧ (fireElement q i el s).pins = s.pins ∧
    (fireElement q i el s).resetActive = s.resetActive ∧ (fireElement q i el s).straps = s.straps ∧
    (fireElement q i el s).settings = s.settings ∧ (fireElement q i el s).chA = s.chA ∧ (fireElement q i el s).chB = s.chB ∧
    (fireElement q i el s).ptr = s.ptr ∧ (fireElement q i el s).lockA = s.lockA ∧ (fireElement q i el s).lockB = s.lockB ∧
    (fireElement q i el s).ovl = s.ovl ∧ (fireElement q i el s).mkl = s.mkl ∧ (fireElement q i el s).svc = s.svc ∧
    (fireElement q i el s).freeCount = s.freeCount ∧ (fireElement q i el s).pending = s.pending := by
  unfold fireElement
  (repeat' split) <;> simp

@[simp] theorem lateTurn_keeps (q : Option Int) (d : Due) :
    (lateTurn q d s).timebase = s.timebase ∧ (lateTurn q d s).pins = s.pins ∧ (lateTurn q d s).resetActive = s.resetActive ∧
    (lateTurn q d s).straps = s.straps ∧ (lateTurn q d s).settings = s.settings ∧ (lateTurn q d s).chA = s.chA ∧
    (lateTurn q d s).chB = s.chB ∧ (lateTurn q d s).ptr = s.ptr ∧ (lateTurn q d s).lockA = s.lockA ∧
    (lateTurn q d s).lockB = s.lockB ∧ (lateTurn q d s).ovl = s.ovl ∧ (lateTurn q d s).mkl = s.mkl ∧
    (lateTurn q d s).svc = s.svc ∧ (lateTurn q d s).freeCount = s.freeCount ∧ (lateTurn q d s).pending = s.pending := by
  simp only [lateTurn]
  (repeat' split) <;> simp

@[simp] theorem lateFiring_keeps (b : Int) :
    (lateFiring b s).timebase = s.timebase ∧ (lateFiring b s).pins = s.pins ∧ (lateFiring b s).resetActive = s.resetActive ∧
    (lateFiring b s).straps = s.straps ∧ (lateFiring b s).settings = s.settings ∧ (lateFiring b s).chA = s.chA ∧
    (lateFiring b s).chB = s.chB ∧ (lateFiring b s).ptr = s.ptr ∧ (lateFiring b s).lockA = s.lockA ∧
    (lateFiring b s).lockB = s.lockB ∧ (lateFiring b s).ovl = s.ovl ∧ (lateFiring b s).mkl = s.mkl ∧
    (lateFiring b s).svc = s.svc ∧ (lateFiring b s).freeCount = s.freeCount ∧ (lateFiring b s).pending = s.pending := by
  unfold lateFiring
  exact ⟨foldl_same State.timebase _ (fun _ _ => by simp) _ _, foldl_same State.pins _ (fun _ _ => by simp) _ _,
    foldl_same State.resetActive _ (fun _ _ => by simp) _ _, foldl_same State.straps _ (fun _ _ => by simp) _ _,
    foldl_same State.settings _ (fun _ _ => by simp) _ _, foldl_same State.chA _ (fun _ _ => by simp) _ _,
    foldl_same State.chB _ (fun _ _ => by simp) _ _, foldl_same State.ptr _ (fun _ _ => by simp) _ _,
    foldl_same State.lockA _ (fun _ _ => by simp) _ _, foldl_same State.lockB _ (fun _ _ => by simp) _ _,
    foldl_same State.ovl _ (fun _ _ => by simp) _ _, foldl_same State.mkl _ (fun _ _ => by simp) _ _,
    foldl_same State.svc _ (fun _ _ => by simp) _ _, foldl_same State.freeCount _ (fun _ _ => by simp) _ _,
    foldl_same State.pending _ (fun _ _ => by simp) _ _⟩

@[simp] theorem fireReached_keeps (d : Due) :
    (fireReached d s).timebase = s.timebase ∧ (fireReached d s).pins = s.pins ∧
    (fireReached d s).resetActive = s.resetActive ∧ (fireReached d s).straps = s.straps ∧
    (fireReached d s).settings = s.settings ∧ (fireReached d s).chA = s.chA ∧ (fireReached d s).chB = s.chB ∧
    (fireReached d s).ptr = s.ptr ∧ (fireReached d s).lockA = s.lockA ∧ (fireReached d s).lockB = s.lockB ∧
    (fireReached d s).ovl = s.ovl ∧ (fireReached d s).mkl = s.mkl ∧ (fireReached d s).svc = s.svc ∧
    (fireReached d s).freeCount = s.freeCount ∧ (fireReached d s).pending = s.pending := by
  unfold fireReached
  split <;> simp

@[simp] theorem listing_keeps (b : Int) (t : Time) (n : Nat) :
    (listing b t n s).timebase = s.timebase ∧ (listing b t n s).pins = s.pins ∧
    (listing b t n s).resetActive = s.resetActive ∧ (listing b t n s).straps = s.straps ∧
    (listing b t n s).settings = s.settings ∧ (listing b t n s).chA = s.chA ∧ (listing b t n s).chB = s.chB ∧
    (listing b t n s).ptr = s.ptr ∧ (listing b t n s).lockA = s.lockA ∧ (listing b t n s).lockB = s.lockB ∧
    (listing b t n s).ovl = s.ovl ∧ (listing b t n s).mkl = s.mkl ∧ (listing b t n s).svc = s.svc ∧
    (listing b t n s).freeCount = s.freeCount ∧ (listing b t n s).pending = s.pending := by
  unfold listing
  exact ⟨(foldl_same State.timebase _ (fun _ _ => by simp) _ _).trans (by simp),
    (foldl_same State.pins _ (fun _ _ => by simp) _ _).trans (by simp),
    (foldl_same State.resetActive _ (fun _ _ => by simp) _ _).trans (by simp),
    (foldl_same State.straps _ (fun _ _ => by simp) _ _).trans (by simp),
    (foldl_same State.settings _ (fun _ _ => by simp) _ _).trans (by simp),
    (foldl_same State.chA _ (fun _ _ => by simp) _ _).trans (by simp),
    (foldl_same State.chB _ (fun _ _ => by simp) _ _).trans (by simp),
    (foldl_same State.ptr _ (fun _ _ => by simp) _ _).trans (by simp),
    (foldl_same State.lockA _ (fun _ _ => by simp) _ _).trans (by simp),
    (foldl_same State.lockB _ (fun _ _ => by simp) _ _).trans (by simp),
    (foldl_same State.ovl _ (fun _ _ => by simp) _ _).trans (by simp),
    (foldl_same State.mkl _ (fun _ _ => by simp) _ _).trans (by simp),
    (foldl_same State.svc _ (fun _ _ => by simp) _ _).trans (by simp),
    (foldl_same State.freeCount _ (fun _ _ => by simp) _ _).trans (by simp),
    (foldl_same State.pending _ (fun _ _ => by simp) _ _).trans (by simp)⟩

@[simp] theorem crossEntry_keeps (b : Int) (i : Nat) :
    (crossEntry b i s).timebase = s.timebase ∧ (crossEntry b i s).pins = s.pins ∧
    (crossEntry b i s).resetActive = s.resetActive ∧ (crossEntry b i s).straps = s.straps ∧
    (crossEntry b i s).settings = s.settings ∧ (crossEntry b i s).clp = s.clp ∧ (crossEntry b i s).chA = s.chA ∧
    (crossEntry b i s).chB = s.chB ∧ (crossEntry b i s).ptr = s.ptr ∧ (crossEntry b i s).lockA = s.lockA ∧
    (crossEntry b i s).lockB = s.lockB ∧ (crossEntry b i s).cou = s.cou ∧ (crossEntry b i s).ovl = s.ovl ∧
    (crossEntry b i s).mkl = s.mkl ∧ (crossEntry b i s).svc = s.svc ∧ (crossEntry b i s).flt = s.flt ∧
    (crossEntry b i s).freeCount = s.freeCount ∧ (crossEntry b i s).pending = s.pending := by
  unfold crossEntry
  (repeat' split) <;> simp

@[simp] theorem goBack_keeps (b : Int) (i : Nat) :
    (goBack b i s).timebase = s.timebase ∧ (goBack b i s).pins = s.pins ∧ (goBack b i s).resetActive = s.resetActive ∧
    (goBack b i s).straps = s.straps ∧ (goBack b i s).settings = s.settings ∧ (goBack b i s).clp = s.clp ∧
    (goBack b i s).chA = s.chA ∧ (goBack b i s).chB = s.chB ∧ (goBack b i s).ptr = s.ptr ∧ (goBack b i s).lockA = s.lockA ∧
    (goBack b i s).lockB = s.lockB ∧ (goBack b i s).csh = s.csh ∧ (goBack b i s).cou = s.cou ∧ (goBack b i s).ovl = s.ovl ∧
    (goBack b i s).mkl = s.mkl ∧ (goBack b i s).svc = s.svc ∧ (goBack b i s).flt = s.flt ∧
    (goBack b i s).freeCount = s.freeCount ∧ (goBack b i s).pending = s.pending := by
  unfold goBack
  (repeat' split) <;> simp

@[simp] theorem boundaryList_keeps (r : BRec) :
    (boundaryList r s).timebase = s.timebase ∧ (boundaryList r s).pins = s.pins ∧
    (boundaryList r s).resetActive = s.resetActive ∧ (boundaryList r s).straps = s.straps ∧
    (boundaryList r s).settings = s.settings ∧ (boundaryList r s).chA = s.chA ∧ (boundaryList r s).chB = s.chB ∧
    (boundaryList r s).ptr = s.ptr ∧ (boundaryList r s).lockA = s.lockA ∧ (boundaryList r s).lockB = s.lockB ∧
    (boundaryList r s).ovl = s.ovl ∧ (boundaryList r s).mkl = s.mkl ∧ (boundaryList r s).svc = s.svc ∧
    (boundaryList r s).freeCount = s.freeCount ∧ (boundaryList r s).pending = s.pending := by
  unfold boundaryList
  split
  · simp
  · exact ⟨forIndexes_same State.timebase _ (fun _ _ => by simp) _ _,
    forIndexes_same State.pins _ (fun _ _ => by simp) _ _, forIndexes_same State.resetActive _ (fun _ _ => by simp) _ _,
    forIndexes_same State.straps _ (fun _ _ => by simp) _ _, forIndexes_same State.settings _ (fun _ _ => by simp) _ _,
    forIndexes_same State.chA _ (fun _ _ => by simp) _ _, forIndexes_same State.chB _ (fun _ _ => by simp) _ _,
    forIndexes_same State.ptr _ (fun _ _ => by simp) _ _, forIndexes_same State.lockA _ (fun _ _ => by simp) _ _,
    forIndexes_same State.lockB _ (fun _ _ => by simp) _ _, forIndexes_same State.ovl _ (fun _ _ => by simp) _ _,
    forIndexes_same State.mkl _ (fun _ _ => by simp) _ _, forIndexes_same State.svc _ (fun _ _ => by simp) _ _,
    forIndexes_same State.freeCount _ (fun _ _ => by simp) _ _, forIndexes_same State.pending _ (fun _ _ => by simp) _ _⟩

@[simp] theorem takeBoundary_keeps (r : BRec) :
    (takeBoundary r s).timebase = s.timebase ∧ (takeBoundary r s).pins = s.pins ∧
    (takeBoundary r s).resetActive = s.resetActive ∧ (takeBoundary r s).straps = s.straps ∧
    (takeBoundary r s).settings = s.settings ∧ (takeBoundary r s).chA = s.chA ∧ (takeBoundary r s).chB = s.chB ∧
    (takeBoundary r s).ptr = s.ptr ∧ (takeBoundary r s).lockA = s.lockA ∧ (takeBoundary r s).lockB = s.lockB ∧
    (takeBoundary r s).ovl = s.ovl ∧ (takeBoundary r s).mkl = s.mkl ∧ (takeBoundary r s).svc = s.svc ∧
    (takeBoundary r s).freeCount = s.freeCount ∧ (takeBoundary r s).pending = s.pending := by
  unfold takeBoundary
  split
  · simp
  split
  · exact ⟨(forIndexes_same State.timebase _ (fun _ _ => by simp) _ _).trans (by simp),
    (forIndexes_same State.pins _ (fun _ _ => by simp) _ _).trans (by simp),
    (forIndexes_same State.resetActive _ (fun _ _ => by simp) _ _).trans (by simp),
    (forIndexes_same State.straps _ (fun _ _ => by simp) _ _).trans (by simp),
    (forIndexes_same State.settings _ (fun _ _ => by simp) _ _).trans (by simp),
    (forIndexes_same State.chA _ (fun _ _ => by simp) _ _).trans (by simp),
    (forIndexes_same State.chB _ (fun _ _ => by simp) _ _).trans (by simp),
    (forIndexes_same State.ptr _ (fun _ _ => by simp) _ _).trans (by simp),
    (forIndexes_same State.lockA _ (fun _ _ => by simp) _ _).trans (by simp),
    (forIndexes_same State.lockB _ (fun _ _ => by simp) _ _).trans (by simp),
    (forIndexes_same State.ovl _ (fun _ _ => by simp) _ _).trans (by simp),
    (forIndexes_same State.mkl _ (fun _ _ => by simp) _ _).trans (by simp),
    (forIndexes_same State.svc _ (fun _ _ => by simp) _ _).trans (by simp),
    (forIndexes_same State.freeCount _ (fun _ _ => by simp) _ _).trans (by simp),
    (forIndexes_same State.pending _ (fun _ _ => by simp) _ _).trans (by simp)⟩
  · simp

@[simp] theorem takeHold_keeps :
    (takeHold s).timebase = s.timebase ∧ (takeHold s).pins = s.pins ∧ (takeHold s).resetActive = s.resetActive ∧
    (takeHold s).straps = s.straps ∧ (takeHold s).settings = s.settings ∧ (takeHold s).chA = s.chA ∧
    (takeHold s).chB = s.chB ∧ (takeHold s).ptr = s.ptr ∧ (takeHold s).lockA = s.lockA ∧ (takeHold s).lockB = s.lockB ∧
    (takeHold s).ovl = s.ovl ∧ (takeHold s).mkl = s.mkl ∧ (takeHold s).svc = s.svc ∧ (takeHold s).freeCount = s.freeCount ∧
    (takeHold s).pending = s.pending := by
  unfold takeHold
  split <;> simp

@[simp] theorem schedulerReport_keeps (r : Report) :
    (schedulerReport r s).timebase = s.timebase ∧ (schedulerReport r s).pins = s.pins ∧
    (schedulerReport r s).resetActive = s.resetActive ∧ (schedulerReport r s).straps = s.straps ∧
    (schedulerReport r s).settings = s.settings ∧ (schedulerReport r s).chA = s.chA ∧ (schedulerReport r s).chB = s.chB ∧
    (schedulerReport r s).ptr = s.ptr ∧ (schedulerReport r s).lockA = s.lockA ∧ (schedulerReport r s).lockB = s.lockB ∧
    (schedulerReport r s).ovl = s.ovl ∧ (schedulerReport r s).mkl = s.mkl ∧ (schedulerReport r s).svc = s.svc ∧
    (schedulerReport r s).freeCount = s.freeCount ∧ (schedulerReport r s).pending = s.pending := by
  unfold schedulerReport
  split <;> simp

@[simp] theorem haltScheduler_keeps :
    (haltScheduler s).timebase = s.timebase ∧ (haltScheduler s).pins = s.pins ∧
    (haltScheduler s).resetActive = s.resetActive ∧ (haltScheduler s).straps = s.straps ∧
    (haltScheduler s).settings = s.settings ∧ (haltScheduler s).chA = s.chA ∧ (haltScheduler s).chB = s.chB ∧
    (haltScheduler s).ptr = s.ptr ∧ (haltScheduler s).lockA = s.lockA ∧ (haltScheduler s).lockB = s.lockB ∧
    (haltScheduler s).ovl = s.ovl ∧ (haltScheduler s).mkl = s.mkl ∧ (haltScheduler s).svc = s.svc ∧
    (haltScheduler s).freeCount = s.freeCount ∧ (haltScheduler s).pending = s.pending := by
  simp [haltScheduler]

@[simp] theorem armCue_keeps (r : BitVec 6) (n : BitVec 12) :
    (armCue r n s).timebase = s.timebase ∧ (armCue r n s).pins = s.pins ∧ (armCue r n s).resetActive = s.resetActive ∧
    (armCue r n s).straps = s.straps ∧ (armCue r n s).settings = s.settings ∧ (armCue r n s).clp = s.clp ∧
    (armCue r n s).chA = s.chA ∧ (armCue r n s).chB = s.chB ∧ (armCue r n s).ptr = s.ptr ∧ (armCue r n s).lockA = s.lockA ∧
    (armCue r n s).lockB = s.lockB ∧ (armCue r n s).csh = s.csh ∧ (armCue r n s).cou = s.cou ∧ (armCue r n s).ovl = s.ovl ∧
    (armCue r n s).mkl = s.mkl ∧ (armCue r n s).svc = s.svc ∧ (armCue r n s).flt = s.flt ∧
    (armCue r n s).freeCount = s.freeCount ∧ (armCue r n s).pending = s.pending := by
  unfold armCue
  split <;> simp

@[simp] theorem armReel_keeps (r : BitVec 6) :
    (armReel r s).timebase = s.timebase ∧ (armReel r s).pins = s.pins ∧ (armReel r s).resetActive = s.resetActive ∧
    (armReel r s).straps = s.straps ∧ (armReel r s).settings = s.settings ∧ (armReel r s).clp = s.clp ∧
    (armReel r s).chA = s.chA ∧ (armReel r s).chB = s.chB ∧ (armReel r s).ptr = s.ptr ∧ (armReel r s).lockA = s.lockA ∧
    (armReel r s).lockB = s.lockB ∧ (armReel r s).csh = s.csh ∧ (armReel r s).cou = s.cou ∧ (armReel r s).ovl = s.ovl ∧
    (armReel r s).mkl = s.mkl ∧ (armReel r s).svc = s.svc ∧ (armReel r s).flt = s.flt ∧
    (armReel r s).freeCount = s.freeCount ∧ (armReel r s).pending = s.pending := by
  unfold armReel
  exact ⟨forIndexes_same State.timebase _ (fun _ _ => by split <;> simp) _ _,
    forIndexes_same State.pins _ (fun _ _ => by split <;> simp) _ _,
    forIndexes_same State.resetActive _ (fun _ _ => by split <;> simp) _ _,
    forIndexes_same State.straps _ (fun _ _ => by split <;> simp) _ _,
    forIndexes_same State.settings _ (fun _ _ => by split <;> simp) _ _,
    forIndexes_same State.clp _ (fun _ _ => by split <;> simp) _ _,
    forIndexes_same State.chA _ (fun _ _ => by split <;> simp) _ _,
    forIndexes_same State.chB _ (fun _ _ => by split <;> simp) _ _,
    forIndexes_same State.ptr _ (fun _ _ => by split <;> simp) _ _,
    forIndexes_same State.lockA _ (fun _ _ => by split <;> simp) _ _,
    forIndexes_same State.lockB _ (fun _ _ => by split <;> simp) _ _,
    forIndexes_same State.csh _ (fun _ _ => by split <;> simp) _ _,
    forIndexes_same State.cou _ (fun _ _ => by split <;> simp) _ _,
    forIndexes_same State.ovl _ (fun _ _ => by split <;> simp) _ _,
    forIndexes_same State.mkl _ (fun _ _ => by split <;> simp) _ _,
    forIndexes_same State.svc _ (fun _ _ => by split <;> simp) _ _,
    forIndexes_same State.flt _ (fun _ _ => by split <;> simp) _ _,
    forIndexes_same State.freeCount _ (fun _ _ => by split <;> simp) _ _,
    forIndexes_same State.pending _ (fun _ _ => by split <;> simp) _ _⟩

@[simp] theorem disarmCue_keeps (r : BitVec 6) (n : BitVec 12) :
    (disarmCue r n s).timebase = s.timebase ∧ (disarmCue r n s).pins = s.pins ∧
    (disarmCue r n s).resetActive = s.resetActive ∧ (disarmCue r n s).straps = s.straps ∧
    (disarmCue r n s).settings = s.settings ∧ (disarmCue r n s).chA = s.chA ∧ (disarmCue r n s).chB = s.chB ∧
    (disarmCue r n s).ptr = s.ptr ∧ (disarmCue r n s).lockA = s.lockA ∧ (disarmCue r n s).lockB = s.lockB ∧
    (disarmCue r n s).ovl = s.ovl ∧ (disarmCue r n s).mkl = s.mkl ∧ (disarmCue r n s).svc = s.svc ∧
    (disarmCue r n s).freeCount = s.freeCount ∧ (disarmCue r n s).pending = s.pending := by
  unfold disarmCue
  split <;> simp

@[simp] theorem disarmAll_keeps :
    (disarmAll s).timebase = s.timebase ∧ (disarmAll s).pins = s.pins ∧ (disarmAll s).resetActive = s.resetActive ∧
    (disarmAll s).straps = s.straps ∧ (disarmAll s).settings = s.settings ∧ (disarmAll s).chA = s.chA ∧
    (disarmAll s).chB = s.chB ∧ (disarmAll s).ptr = s.ptr ∧ (disarmAll s).lockA = s.lockA ∧ (disarmAll s).lockB = s.lockB ∧
    (disarmAll s).ovl = s.ovl ∧ (disarmAll s).mkl = s.mkl ∧ (disarmAll s).svc = s.svc ∧
    (disarmAll s).freeCount = s.freeCount ∧ (disarmAll s).pending = s.pending := by
  unfold disarmAll
  refine ⟨forIndexes_same State.timebase _ (by simp) _ _, forIndexes_same State.pins _ (by simp) _ _, forIndexes_same State.resetActive _ (by simp) _ _, forIndexes_same State.straps _ (by simp) _ _, forIndexes_same State.settings _ (by simp) _ _, forIndexes_same State.chA _ (by simp) _ _, forIndexes_same State.chB _ (by simp) _ _, forIndexes_same State.ptr _ (by simp) _ _, forIndexes_same State.lockA _ (by simp) _ _, forIndexes_same State.lockB _ (by simp) _ _, forIndexes_same State.ovl _ (by simp) _ _, forIndexes_same State.mkl _ (by simp) _ _, forIndexes_same State.svc _ (by simp) _ _, forIndexes_same State.freeCount _ (by simp) _ _, forIndexes_same State.pending _ (by simp) _ _⟩

@[simp] theorem abortPunch_keeps (i : Nat) :
    (abortPunch i s).timebase = s.timebase ∧ (abortPunch i s).pins = s.pins ∧ (abortPunch i s).resetActive = s.resetActive ∧
    (abortPunch i s).straps = s.straps ∧ (abortPunch i s).settings = s.settings ∧ (abortPunch i s).chA = s.chA ∧
    (abortPunch i s).chB = s.chB ∧ (abortPunch i s).ptr = s.ptr ∧ (abortPunch i s).lockA = s.lockA ∧
    (abortPunch i s).lockB = s.lockB ∧ (abortPunch i s).csh = s.csh ∧ (abortPunch i s).ovl = s.ovl ∧
    (abortPunch i s).mkl = s.mkl ∧ (abortPunch i s).svc = s.svc ∧ (abortPunch i s).freeCount = s.freeCount ∧
    (abortPunch i s).pending = s.pending := by
  unfold abortPunch
  (repeat' split) <;> simp

@[simp] theorem setMode_keeps (m : Mode) :
    (setMode m s).timebase = s.timebase ∧ (setMode m s).pins = s.pins ∧ (setMode m s).resetActive = s.resetActive ∧
    (setMode m s).straps = s.straps ∧ (setMode m s).settings = s.settings ∧ (setMode m s).chA = s.chA ∧
    (setMode m s).chB = s.chB ∧ (setMode m s).ptr = s.ptr ∧ (setMode m s).lockA = s.lockA ∧ (setMode m s).lockB = s.lockB ∧
    (setMode m s).ovl = s.ovl ∧ (setMode m s).mkl = s.mkl ∧ (setMode m s).svc = s.svc ∧
    (setMode m s).freeCount = s.freeCount ∧ (setMode m s).pending = s.pending := by
  unfold setMode
  split
  · simp
  dsimp only
  split
  · exact ⟨(forIndexes_same State.timebase _ (fun _ _ => by simp) _ _).trans (by simp),
    (forIndexes_same State.pins _ (fun _ _ => by simp) _ _).trans (by simp),
    (forIndexes_same State.resetActive _ (fun _ _ => by simp) _ _).trans (by simp),
    (forIndexes_same State.straps _ (fun _ _ => by simp) _ _).trans (by simp),
    (forIndexes_same State.settings _ (fun _ _ => by simp) _ _).trans (by simp),
    (forIndexes_same State.chA _ (fun _ _ => by simp) _ _).trans (by simp),
    (forIndexes_same State.chB _ (fun _ _ => by simp) _ _).trans (by simp),
    (forIndexes_same State.ptr _ (fun _ _ => by simp) _ _).trans (by simp),
    (forIndexes_same State.lockA _ (fun _ _ => by simp) _ _).trans (by simp),
    (forIndexes_same State.lockB _ (fun _ _ => by simp) _ _).trans (by simp),
    (forIndexes_same State.ovl _ (fun _ _ => by simp) _ _).trans (by simp),
    (forIndexes_same State.mkl _ (fun _ _ => by simp) _ _).trans (by simp),
    (forIndexes_same State.svc _ (fun _ _ => by simp) _ _).trans (by simp),
    (forIndexes_same State.freeCount _ (fun _ _ => by simp) _ _).trans (by simp),
    (forIndexes_same State.pending _ (fun _ _ => by simp) _ _).trans (by simp)⟩
  · simp

/-! ## The Record Lock -/

@[simp] theorem setLock_keeps (c : Chan) (l : LockState) :
    (setLock c l s).timebase = s.timebase ∧ (setLock c l s).pins = s.pins ∧ (setLock c l s).resetActive = s.resetActive ∧
    (setLock c l s).straps = s.straps ∧ (setLock c l s).settings = s.settings ∧ (setLock c l s).chA = s.chA ∧
    (setLock c l s).chB = s.chB ∧ (setLock c l s).ptr = s.ptr ∧ (setLock c l s).csh = s.csh ∧ (setLock c l s).ovl = s.ovl ∧
    (setLock c l s).mkl = s.mkl ∧ (setLock c l s).svc = s.svc ∧ (setLock c l s).freeCount = s.freeCount ∧
    (setLock c l s).pending = s.pending := by
  simp only [setLock, guarded]
  split <;> simp

@[simp] theorem unlock_keeps (c : Chan) :
    (unlock c s).timebase = s.timebase ∧ (unlock c s).pins = s.pins ∧ (unlock c s).resetActive = s.resetActive ∧
    (unlock c s).straps = s.straps ∧ (unlock c s).settings = s.settings ∧ (unlock c s).chA = s.chA ∧
    (unlock c s).chB = s.chB ∧ (unlock c s).ptr = s.ptr ∧ (unlock c s).csh = s.csh ∧ (unlock c s).ovl = s.ovl ∧
    (unlock c s).mkl = s.mkl ∧ (unlock c s).svc = s.svc ∧ (unlock c s).freeCount = s.freeCount ∧
    (unlock c s).pending = s.pending := by
  unfold unlock
  split <;> simp

@[simp] theorem countChasing_keeps (c : Chan) (g : Bool) :
    (countChasing c g s).timebase = s.timebase ∧ (countChasing c g s).pins = s.pins ∧
    (countChasing c g s).resetActive = s.resetActive ∧ (countChasing c g s).straps = s.straps ∧
    (countChasing c g s).settings = s.settings ∧ (countChasing c g s).chA = s.chA ∧ (countChasing c g s).chB = s.chB ∧
    (countChasing c g s).ptr = s.ptr ∧ (countChasing c g s).csh = s.csh ∧ (countChasing c g s).ovl = s.ovl ∧
    (countChasing c g s).mkl = s.mkl ∧ (countChasing c g s).svc = s.svc ∧ (countChasing c g s).freeCount = s.freeCount ∧
    (countChasing c g s).pending = s.pending := by
  unfold countChasing
  (repeat' split) <;> simp

@[simp] theorem countSync_keeps (c : Chan) (g : Bool) :
    (countSync c g s).timebase = s.timebase ∧ (countSync c g s).pins = s.pins ∧
    (countSync c g s).resetActive = s.resetActive ∧ (countSync c g s).straps = s.straps ∧
    (countSync c g s).settings = s.settings ∧ (countSync c g s).chA = s.chA ∧ (countSync c g s).chB = s.chB ∧
    (countSync c g s).ptr = s.ptr ∧ (countSync c g s).csh = s.csh ∧ (countSync c g s).ovl = s.ovl ∧
    (countSync c g s).mkl = s.mkl ∧ (countSync c g s).svc = s.svc ∧ (countSync c g s).freeCount = s.freeCount ∧
    (countSync c g s).pending = s.pending := by
  unfold countSync
  (repeat' split) <;> simp

@[simp] theorem measure_keeps (c : Chan) (b p : Int) :
    (measure c b p s).timebase = s.timebase ∧ (measure c b p s).pins = s.pins ∧
    (measure c b p s).resetActive = s.resetActive ∧ (measure c b p s).straps = s.straps ∧
    (measure c b p s).settings = s.settings ∧ (measure c b p s).chA = s.chA ∧ (measure c b p s).chB = s.chB ∧
    (measure c b p s).ptr = s.ptr ∧ (measure c b p s).csh = s.csh ∧ (measure c b p s).ovl = s.ovl ∧
    (measure c b p s).mkl = s.mkl ∧ (measure c b p s).svc = s.svc ∧ (measure c b p s).freeCount = s.freeCount ∧
    (measure c b p s).pending = s.pending := by
  unfold measure
  dsimp only
  split <;> simp

@[simp] theorem lockBoundary_keeps (c : Chan) (r : BRec) :
    (lockBoundary c r s).timebase = s.timebase ∧ (lockBoundary c r s).pins = s.pins ∧
    (lockBoundary c r s).resetActive = s.resetActive ∧ (lockBoundary c r s).straps = s.straps ∧
    (lockBoundary c r s).settings = s.settings ∧ (lockBoundary c r s).chA = s.chA ∧ (lockBoundary c r s).chB = s.chB ∧
    (lockBoundary c r s).ptr = s.ptr ∧ (lockBoundary c r s).csh = s.csh ∧ (lockBoundary c r s).ovl = s.ovl ∧
    (lockBoundary c r s).mkl = s.mkl ∧ (lockBoundary c r s).svc = s.svc ∧ (lockBoundary c r s).freeCount = s.freeCount ∧
    (lockBoundary c r s).pending = s.pending := by
  unfold lockBoundary
  (repeat' split) <;> simp

@[simp] theorem lockMotion_keeps (c : Chan) :
    (lockMotion c s).timebase = s.timebase ∧ (lockMotion c s).pins = s.pins ∧ (lockMotion c s).resetActive = s.resetActive ∧
    (lockMotion c s).straps = s.straps ∧ (lockMotion c s).settings = s.settings ∧ (lockMotion c s).chA = s.chA ∧
    (lockMotion c s).chB = s.chB ∧ (lockMotion c s).ptr = s.ptr ∧ (lockMotion c s).csh = s.csh ∧
    (lockMotion c s).ovl = s.ovl ∧ (lockMotion c s).mkl = s.mkl ∧ (lockMotion c s).svc = s.svc ∧
    (lockMotion c s).freeCount = s.freeCount ∧ (lockMotion c s).pending = s.pending := by
  unfold lockMotion
  (repeat' split) <;> simp

@[simp] theorem lockReport_keeps (r : Report) (c : Chan) :
    (lockReport r c s).timebase = s.timebase ∧ (lockReport r c s).pins = s.pins ∧
    (lockReport r c s).resetActive = s.resetActive ∧ (lockReport r c s).straps = s.straps ∧
    (lockReport r c s).settings = s.settings ∧ (lockReport r c s).chA = s.chA ∧ (lockReport r c s).chB = s.chB ∧
    (lockReport r c s).ptr = s.ptr ∧ (lockReport r c s).csh = s.csh ∧ (lockReport r c s).ovl = s.ovl ∧
    (lockReport r c s).mkl = s.mkl ∧ (lockReport r c s).svc = s.svc ∧ (lockReport r c s).freeCount = s.freeCount ∧
    (lockReport r c s).pending = s.pending := by
  unfold lockReport
  (repeat' split) <;> simp

/-! ## The Position Tracker -/

@[simp] theorem deliverReport_keeps (r : Report) :
    (deliverReport r s).timebase = s.timebase ∧ (deliverReport r s).pins = s.pins ∧
    (deliverReport r s).resetActive = s.resetActive ∧ (deliverReport r s).straps = s.straps ∧
    (deliverReport r s).settings = s.settings ∧ (deliverReport r s).chA = s.chA ∧ (deliverReport r s).chB = s.chB ∧
    (deliverReport r s).ptr = s.ptr ∧ (deliverReport r s).ovl = s.ovl ∧ (deliverReport r s).mkl = s.mkl ∧
    (deliverReport r s).svc = s.svc ∧ (deliverReport r s).freeCount = s.freeCount ∧ (deliverReport r s).pending = s.pending := by
  simp [deliverReport]

@[simp] theorem deliverReports_keeps (l : List Report) :
    (l.foldl (fun s r => deliverReport r s) s).timebase = s.timebase ∧
      (l.foldl (fun s r => deliverReport r s) s).pins = s.pins ∧
      (l.foldl (fun s r => deliverReport r s) s).resetActive = s.resetActive ∧
      (l.foldl (fun s r => deliverReport r s) s).straps = s.straps ∧
      (l.foldl (fun s r => deliverReport r s) s).settings = s.settings ∧
      (l.foldl (fun s r => deliverReport r s) s).chA = s.chA ∧ (l.foldl (fun s r => deliverReport r s) s).chB = s.chB ∧
      (l.foldl (fun s r => deliverReport r s) s).ptr = s.ptr ∧ (l.foldl (fun s r => deliverReport r s) s).ovl = s.ovl ∧
      (l.foldl (fun s r => deliverReport r s) s).mkl = s.mkl ∧ (l.foldl (fun s r => deliverReport r s) s).svc = s.svc ∧
      (l.foldl (fun s r => deliverReport r s) s).freeCount = s.freeCount ∧
      (l.foldl (fun s r => deliverReport r s) s).pending = s.pending := by
  exact ⟨foldl_same State.timebase _ (fun _ _ => by simp) _ _, foldl_same State.pins _ (fun _ _ => by simp) _ _,
    foldl_same State.resetActive _ (fun _ _ => by simp) _ _, foldl_same State.straps _ (fun _ _ => by simp) _ _,
    foldl_same State.settings _ (fun _ _ => by simp) _ _, foldl_same State.chA _ (fun _ _ => by simp) _ _,
    foldl_same State.chB _ (fun _ _ => by simp) _ _, foldl_same State.ptr _ (fun _ _ => by simp) _ _,
    foldl_same State.ovl _ (fun _ _ => by simp) _ _, foldl_same State.mkl _ (fun _ _ => by simp) _ _,
    foldl_same State.svc _ (fun _ _ => by simp) _ _, foldl_same State.freeCount _ (fun _ _ => by simp) _ _,
    foldl_same State.pending _ (fun _ _ => by simp) _ _⟩

@[simp] theorem trackerEvent_keeps (ev : TrackerEvent) :
    (trackerEvent ev s).timebase = s.timebase ∧ (trackerEvent ev s).pins = s.pins ∧
    (trackerEvent ev s).resetActive = s.resetActive ∧ (trackerEvent ev s).straps = s.straps ∧
    (trackerEvent ev s).settings = s.settings ∧ (trackerEvent ev s).chA = s.chA ∧ (trackerEvent ev s).chB = s.chB ∧
    (trackerEvent ev s).ovl = s.ovl ∧ (trackerEvent ev s).mkl = s.mkl ∧ (trackerEvent ev s).svc = s.svc ∧
    (trackerEvent ev s).freeCount = s.freeCount ∧ (trackerEvent ev s).pending = s.pending := by
  unfold trackerEvent
  simp only [guarded]
  (repeat' split) <;> simp

@[simp] theorem placeBeacon_keeps (b : Beacon) (t : Time) :
    (placeBeacon b t s).timebase = s.timebase ∧ (placeBeacon b t s).pins = s.pins ∧
    (placeBeacon b t s).resetActive = s.resetActive ∧ (placeBeacon b t s).straps = s.straps ∧
    (placeBeacon b t s).settings = s.settings ∧ (placeBeacon b t s).chA = s.chA ∧ (placeBeacon b t s).chB = s.chB ∧
    (placeBeacon b t s).ptr = s.ptr ∧ (placeBeacon b t s).lockA = s.lockA ∧ (placeBeacon b t s).lockB = s.lockB ∧
    (placeBeacon b t s).ctb = s.ctb ∧ (placeBeacon b t s).csh = s.csh ∧ (placeBeacon b t s).cou = s.cou ∧
    (placeBeacon b t s).ovl = s.ovl ∧ (placeBeacon b t s).mkl = s.mkl ∧ (placeBeacon b t s).svc = s.svc ∧
    (placeBeacon b t s).flt = s.flt ∧ (placeBeacon b t s).freeCount = s.freeCount ∧ (placeBeacon b t s).pending = s.pending := by
  unfold placeBeacon
  split <;> simp

@[simp] theorem sendHold_keeps (h : Int) :
    (sendHold h s).timebase = s.timebase ∧ (sendHold h s).pins = s.pins ∧ (sendHold h s).resetActive = s.resetActive ∧
    (sendHold h s).straps = s.straps ∧ (sendHold h s).settings = s.settings ∧ (sendHold h s).chA = s.chA ∧
    (sendHold h s).chB = s.chB ∧ (sendHold h s).lockA = s.lockA ∧ (sendHold h s).lockB = s.lockB ∧
    (sendHold h s).ctb = s.ctb ∧ (sendHold h s).csh = s.csh ∧ (sendHold h s).cou = s.cou ∧ (sendHold h s).ovl = s.ovl ∧
    (sendHold h s).mkl = s.mkl ∧ (sendHold h s).svc = s.svc ∧ (sendHold h s).flt = s.flt ∧
    (sendHold h s).freeCount = s.freeCount ∧ (sendHold h s).pending = s.pending := by
  simp [sendHold]

@[simp] theorem pictureMotion_keeps (c : Chan) :
    (pictureMotion c s).timebase = s.timebase ∧ (pictureMotion c s).pins = s.pins ∧
    (pictureMotion c s).resetActive = s.resetActive ∧ (pictureMotion c s).straps = s.straps ∧
    (pictureMotion c s).settings = s.settings ∧ (pictureMotion c s).chA = s.chA ∧ (pictureMotion c s).chB = s.chB ∧
    (pictureMotion c s).ovl = s.ovl ∧ (pictureMotion c s).mkl = s.mkl ∧ (pictureMotion c s).svc = s.svc ∧
    (pictureMotion c s).freeCount = s.freeCount ∧ (pictureMotion c s).pending = s.pending := by
  unfold pictureMotion
  dsimp only
  split <;> simp

@[simp] theorem recordBeacon_keeps (c : Chan) (n : Option Nat) (r : BRec) :
    (recordBeacon c n r s).timebase = s.timebase ∧ (recordBeacon c n r s).pins = s.pins ∧
    (recordBeacon c n r s).resetActive = s.resetActive ∧ (recordBeacon c n r s).straps = s.straps ∧
    (recordBeacon c n r s).settings = s.settings ∧ (recordBeacon c n r s).chA = s.chA ∧ (recordBeacon c n r s).chB = s.chB ∧
    (recordBeacon c n r s).lockA = s.lockA ∧ (recordBeacon c n r s).lockB = s.lockB ∧ (recordBeacon c n r s).ctb = s.ctb ∧
    (recordBeacon c n r s).csh = s.csh ∧ (recordBeacon c n r s).cou = s.cou ∧ (recordBeacon c n r s).ovl = s.ovl ∧
    (recordBeacon c n r s).mkl = s.mkl ∧ (recordBeacon c n r s).svc = s.svc ∧ (recordBeacon c n r s).flt = s.flt ∧
    (recordBeacon c n r s).freeCount = s.freeCount ∧ (recordBeacon c n r s).pending = s.pending := by
  unfold recordBeacon
  (repeat' split) <;> simp

@[simp] theorem pictureRecord_keeps (c : Chan) (r : BRec) :
    (pictureRecord c r s).timebase = s.timebase ∧ (pictureRecord c r s).pins = s.pins ∧
    (pictureRecord c r s).resetActive = s.resetActive ∧ (pictureRecord c r s).straps = s.straps ∧
    (pictureRecord c r s).settings = s.settings ∧ (pictureRecord c r s).chA = s.chA ∧ (pictureRecord c r s).chB = s.chB ∧
    (pictureRecord c r s).ovl = s.ovl ∧ (pictureRecord c r s).mkl = s.mkl ∧ (pictureRecord c r s).svc = s.svc ∧
    (pictureRecord c r s).freeCount = s.freeCount ∧ (pictureRecord c r s).pending = s.pending := by
  simp [pictureRecord]

@[simp] theorem holdTimerExpiry_keeps (c : Chan) :
    (holdTimerExpiry c s).timebase = s.timebase ∧ (holdTimerExpiry c s).pins = s.pins ∧
    (holdTimerExpiry c s).resetActive = s.resetActive ∧ (holdTimerExpiry c s).straps = s.straps ∧
    (holdTimerExpiry c s).settings = s.settings ∧ (holdTimerExpiry c s).chA = s.chA ∧ (holdTimerExpiry c s).chB = s.chB ∧
    (holdTimerExpiry c s).ovl = s.ovl ∧ (holdTimerExpiry c s).mkl = s.mkl ∧ (holdTimerExpiry c s).svc = s.svc ∧
    (holdTimerExpiry c s).freeCount = s.freeCount ∧ (holdTimerExpiry c s).pending = s.pending := by
  simp [holdTimerExpiry]

@[simp] theorem trackerActive_keeps :
    (trackerActive s).timebase = s.timebase ∧ (trackerActive s).pins = s.pins ∧
    (trackerActive s).resetActive = s.resetActive ∧ (trackerActive s).straps = s.straps ∧
    (trackerActive s).settings = s.settings ∧ (trackerActive s).chA = s.chA ∧ (trackerActive s).chB = s.chB ∧
    (trackerActive s).lockA = s.lockA ∧ (trackerActive s).lockB = s.lockB ∧ (trackerActive s).ctb = s.ctb ∧
    (trackerActive s).csh = s.csh ∧ (trackerActive s).cou = s.cou ∧ (trackerActive s).ovl = s.ovl ∧
    (trackerActive s).mkl = s.mkl ∧ (trackerActive s).svc = s.svc ∧ (trackerActive s).flt = s.flt ∧
    (trackerActive s).freeCount = s.freeCount ∧ (trackerActive s).pending = s.pending := by
  unfold trackerActive
  (repeat' split) <;> simp

@[simp] theorem startTracker_keeps :
    (startTracker s).timebase = s.timebase ∧ (startTracker s).pins = s.pins ∧ (startTracker s).resetActive = s.resetActive ∧
    (startTracker s).straps = s.straps ∧ (startTracker s).settings = s.settings ∧ (startTracker s).chA = s.chA ∧
    (startTracker s).chB = s.chB ∧ (startTracker s).ovl = s.ovl ∧ (startTracker s).mkl = s.mkl ∧
    (startTracker s).svc = s.svc ∧ (startTracker s).freeCount = s.freeCount ∧ (startTracker s).pending = s.pending := by
  unfold startTracker
  split <;> simp

@[simp] theorem beaconKnown_keeps (n : Nat) (e : Source) (p : Beacon) (t : Time) :
    (beaconKnown n e p t s).timebase = s.timebase ∧ (beaconKnown n e p t s).pins = s.pins ∧
    (beaconKnown n e p t s).resetActive = s.resetActive ∧ (beaconKnown n e p t s).straps = s.straps ∧
    (beaconKnown n e p t s).settings = s.settings ∧ (beaconKnown n e p t s).chA = s.chA ∧
    (beaconKnown n e p t s).chB = s.chB ∧ (beaconKnown n e p t s).ovl = s.ovl ∧ (beaconKnown n e p t s).mkl = s.mkl ∧
    (beaconKnown n e p t s).svc = s.svc ∧ (beaconKnown n e p t s).freeCount = s.freeCount ∧
    (beaconKnown n e p t s).pending = s.pending := by
  simp [beaconKnown]

@[simp] theorem beaconNew_keeps (n : Nat) (p : Beacon) (t : Time) :
    (beaconNew n p t s).timebase = s.timebase ∧ (beaconNew n p t s).pins = s.pins ∧
    (beaconNew n p t s).resetActive = s.resetActive ∧ (beaconNew n p t s).straps = s.straps ∧
    (beaconNew n p t s).settings = s.settings ∧ (beaconNew n p t s).chA = s.chA ∧ (beaconNew n p t s).chB = s.chB ∧
    (beaconNew n p t s).ovl = s.ovl ∧ (beaconNew n p t s).mkl = s.mkl ∧ (beaconNew n p t s).svc = s.svc ∧
    (beaconNew n p t s).freeCount = s.freeCount ∧ (beaconNew n p t s).pending = s.pending := by
  unfold beaconNew
  (repeat' split) <;> simp

@[simp] theorem applyBeacon_keeps (n : BitVec 5) (p : Beacon) (t : Time) :
    (applyBeacon n p t s).timebase = s.timebase ∧ (applyBeacon n p t s).pins = s.pins ∧
    (applyBeacon n p t s).resetActive = s.resetActive ∧ (applyBeacon n p t s).straps = s.straps ∧
    (applyBeacon n p t s).settings = s.settings ∧ (applyBeacon n p t s).chA = s.chA ∧ (applyBeacon n p t s).chB = s.chB ∧
    (applyBeacon n p t s).ovl = s.ovl ∧ (applyBeacon n p t s).mkl = s.mkl ∧ (applyBeacon n p t s).svc = s.svc ∧
    (applyBeacon n p t s).freeCount = s.freeCount ∧ (applyBeacon n p t s).pending = s.pending := by
  unfold applyBeacon
  split <;> simp

@[simp] theorem ageSource_keeps (n : Nat) :
    (ageSource n s).timebase = s.timebase ∧ (ageSource n s).pins = s.pins ∧ (ageSource n s).resetActive = s.resetActive ∧
    (ageSource n s).straps = s.straps ∧ (ageSource n s).settings = s.settings ∧ (ageSource n s).chA = s.chA ∧
    (ageSource n s).chB = s.chB ∧ (ageSource n s).ovl = s.ovl ∧ (ageSource n s).mkl = s.mkl ∧ (ageSource n s).svc = s.svc ∧
    (ageSource n s).freeCount = s.freeCount ∧ (ageSource n s).pending = s.pending := by
  simp [ageSource]

/-! ## The tach channels -/

@[simp] theorem deliverMotion_keeps (c : Chan) :
    (deliverMotion c s).timebase = s.timebase ∧ (deliverMotion c s).pins = s.pins ∧
    (deliverMotion c s).resetActive = s.resetActive ∧ (deliverMotion c s).straps = s.straps ∧
    (deliverMotion c s).settings = s.settings ∧ (deliverMotion c s).chA = s.chA ∧ (deliverMotion c s).chB = s.chB ∧
    (deliverMotion c s).ovl = s.ovl ∧ (deliverMotion c s).mkl = s.mkl ∧ (deliverMotion c s).svc = s.svc ∧
    (deliverMotion c s).freeCount = s.freeCount ∧ (deliverMotion c s).pending = s.pending := by
  unfold deliverMotion
  split <;> simp

@[simp] theorem deliverRecord_keeps (c : Chan) (r : BRec) :
    (deliverRecord c r s).timebase = s.timebase ∧ (deliverRecord c r s).pins = s.pins ∧
    (deliverRecord c r s).resetActive = s.resetActive ∧ (deliverRecord c r s).straps = s.straps ∧
    (deliverRecord c r s).settings = s.settings ∧ (deliverRecord c r s).chA = s.chA ∧ (deliverRecord c r s).chB = s.chB ∧
    (deliverRecord c r s).ovl = s.ovl ∧ (deliverRecord c r s).mkl = s.mkl ∧ (deliverRecord c r s).svc = s.svc ∧
    (deliverRecord c r s).freeCount = s.freeCount ∧ (deliverRecord c r s).pending = s.pending := by
  unfold deliverRecord
  split <;> simp

@[simp] theorem takeStep_keeps (c : Chan) (st : Step) (m n : Nat) :
    (takeStep c st m n s).timebase = s.timebase ∧ (takeStep c st m n s).pins = s.pins ∧
    (takeStep c st m n s).resetActive = s.resetActive ∧ (takeStep c st m n s).straps = s.straps ∧
    (takeStep c st m n s).settings = s.settings ∧ (takeStep c st m n s).ovl = s.ovl ∧ (takeStep c st m n s).mkl = s.mkl ∧
    (takeStep c st m n s).svc = s.svc ∧ (takeStep c st m n s).freeCount = s.freeCount ∧
    (takeStep c st m n s).pending = s.pending := by
  unfold takeStep
  split <;> simp

@[simp] theorem countForward_keeps (c : Chan) :
    (countForward c s).timebase = s.timebase ∧ (countForward c s).pins = s.pins ∧
    (countForward c s).resetActive = s.resetActive ∧ (countForward c s).straps = s.straps ∧
    (countForward c s).settings = s.settings ∧ (countForward c s).ovl = s.ovl ∧ (countForward c s).mkl = s.mkl ∧
    (countForward c s).svc = s.svc ∧ (countForward c s).freeCount = s.freeCount ∧ (countForward c s).pending = s.pending := by
  unfold countForward
  dsimp only
  split <;> simp

@[simp] theorem countReverse_keeps (c : Chan) :
    (countReverse c s).timebase = s.timebase ∧ (countReverse c s).pins = s.pins ∧
    (countReverse c s).resetActive = s.resetActive ∧ (countReverse c s).straps = s.straps ∧
    (countReverse c s).settings = s.settings ∧ (countReverse c s).ovl = s.ovl ∧ (countReverse c s).mkl = s.mkl ∧
    (countReverse c s).svc = s.svc ∧ (countReverse c s).freeCount = s.freeCount ∧ (countReverse c s).pending = s.pending := by
  unfold countReverse
  split <;> simp

@[simp] theorem countUnit_keeps (c : Chan) (d : Bool) :
    (countUnit c d s).timebase = s.timebase ∧ (countUnit c d s).pins = s.pins ∧
    (countUnit c d s).resetActive = s.resetActive ∧ (countUnit c d s).straps = s.straps ∧
    (countUnit c d s).settings = s.settings ∧ (countUnit c d s).ovl = s.ovl ∧ (countUnit c d s).mkl = s.mkl ∧
    (countUnit c d s).svc = s.svc ∧ (countUnit c d s).freeCount = s.freeCount ∧ (countUnit c d s).pending = s.pending := by
  unfold countUnit
  (repeat' split) <;> simp

@[simp] theorem takeUnit_keeps (c : Chan) (d : Bool) :
    (takeUnit c d s).timebase = s.timebase ∧ (takeUnit c d s).pins = s.pins ∧ (takeUnit c d s).resetActive = s.resetActive ∧
    (takeUnit c d s).straps = s.straps ∧ (takeUnit c d s).settings = s.settings ∧ (takeUnit c d s).ovl = s.ovl ∧
    (takeUnit c d s).mkl = s.mkl ∧ (takeUnit c d s).svc = s.svc ∧ (takeUnit c d s).freeCount = s.freeCount ∧
    (takeUnit c d s).pending = s.pending := by
  unfold takeUnit
  split <;> simp

@[simp] theorem acceptEdge_keeps (c : Chan) (l : TachLine) (v : Bool) :
    (acceptEdge c l v s).timebase = s.timebase ∧ (acceptEdge c l v s).pins = s.pins ∧
    (acceptEdge c l v s).resetActive = s.resetActive ∧ (acceptEdge c l v s).straps = s.straps ∧
    (acceptEdge c l v s).settings = s.settings ∧ (acceptEdge c l v s).ovl = s.ovl ∧ (acceptEdge c l v s).mkl = s.mkl ∧
    (acceptEdge c l v s).svc = s.svc ∧ (acceptEdge c l v s).freeCount = s.freeCount ∧
    (acceptEdge c l v s).pending = s.pending := by
  unfold acceptEdge
  dsimp only
  split <;> simp

@[simp] theorem countGlitch_keeps (c : Chan) :
    (countGlitch c s).timebase = s.timebase ∧ (countGlitch c s).pins = s.pins ∧
    (countGlitch c s).resetActive = s.resetActive ∧ (countGlitch c s).straps = s.straps ∧
    (countGlitch c s).settings = s.settings ∧ (countGlitch c s).clp = s.clp ∧ (countGlitch c s).ptr = s.ptr ∧
    (countGlitch c s).lockA = s.lockA ∧ (countGlitch c s).lockB = s.lockB ∧ (countGlitch c s).ctb = s.ctb ∧
    (countGlitch c s).csh = s.csh ∧ (countGlitch c s).cou = s.cou ∧ (countGlitch c s).ovl = s.ovl ∧
    (countGlitch c s).mkl = s.mkl ∧ (countGlitch c s).svc = s.svc ∧ (countGlitch c s).flt = s.flt ∧
    (countGlitch c s).freeCount = s.freeCount ∧ (countGlitch c s).pending = s.pending := by
  simp [countGlitch]

@[simp] theorem tachChange_keeps (c : Chan) (l : TachLine) (v : Bool) :
    (tachChange c l v s).timebase = s.timebase ∧ (tachChange c l v s).resetActive = s.resetActive ∧
    (tachChange c l v s).straps = s.straps ∧ (tachChange c l v s).settings = s.settings ∧ (tachChange c l v s).ovl = s.ovl ∧
    (tachChange c l v s).mkl = s.mkl ∧ (tachChange c l v s).svc = s.svc ∧ (tachChange c l v s).freeCount = s.freeCount ∧
    (tachChange c l v s).pending = s.pending := by
  simp only [tachChange]
  (repeat' split) <;> simp

@[simp] theorem slip_keeps (c : Chan) :
    (slip c s).timebase = s.timebase ∧ (slip c s).pins = s.pins ∧ (slip c s).resetActive = s.resetActive ∧
    (slip c s).straps = s.straps ∧ (slip c s).settings = s.settings ∧ (slip c s).ptr = s.ptr ∧ (slip c s).lockA = s.lockA ∧
    (slip c s).lockB = s.lockB ∧ (slip c s).ctb = s.ctb ∧ (slip c s).csh = s.csh ∧ (slip c s).cou = s.cou ∧
    (slip c s).ovl = s.ovl ∧ (slip c s).mkl = s.mkl ∧ (slip c s).svc = s.svc ∧ (slip c s).freeCount = s.freeCount ∧
    (slip c s).pending = s.pending := by
  simp [slip]

@[simp] theorem indexForward_keeps (c : Chan) :
    (indexForward c s).timebase = s.timebase ∧ (indexForward c s).pins = s.pins ∧
    (indexForward c s).resetActive = s.resetActive ∧ (indexForward c s).straps = s.straps ∧
    (indexForward c s).settings = s.settings ∧ (indexForward c s).ovl = s.ovl ∧ (indexForward c s).mkl = s.mkl ∧
    (indexForward c s).svc = s.svc ∧ (indexForward c s).freeCount = s.freeCount ∧ (indexForward c s).pending = s.pending := by
  unfold indexForward
  split <;> simp

@[simp] theorem indexReverse_keeps (c : Chan) :
    (indexReverse c s).timebase = s.timebase ∧ (indexReverse c s).pins = s.pins ∧
    (indexReverse c s).resetActive = s.resetActive ∧ (indexReverse c s).straps = s.straps ∧
    (indexReverse c s).settings = s.settings ∧ (indexReverse c s).ovl = s.ovl ∧ (indexReverse c s).mkl = s.mkl ∧
    (indexReverse c s).svc = s.svc ∧ (indexReverse c s).freeCount = s.freeCount ∧ (indexReverse c s).pending = s.pending := by
  unfold indexReverse
  split <;> simp

@[simp] theorem acceptIndex_keeps (c : Chan) (v : Bool) :
    (acceptIndex c v s).timebase = s.timebase ∧ (acceptIndex c v s).pins = s.pins ∧
    (acceptIndex c v s).resetActive = s.resetActive ∧ (acceptIndex c v s).straps = s.straps ∧
    (acceptIndex c v s).settings = s.settings ∧ (acceptIndex c v s).ovl = s.ovl ∧ (acceptIndex c v s).mkl = s.mkl ∧
    (acceptIndex c v s).svc = s.svc ∧ (acceptIndex c v s).freeCount = s.freeCount ∧ (acceptIndex c v s).pending = s.pending := by
  simp only [acceptIndex]
  (repeat' split) <;> simp

@[simp] theorem indexChange_keeps (c : Chan) (v : Bool) :
    (indexChange c v s).timebase = s.timebase ∧ (indexChange c v s).resetActive = s.resetActive ∧
    (indexChange c v s).straps = s.straps ∧ (indexChange c v s).settings = s.settings ∧ (indexChange c v s).ovl = s.ovl ∧
    (indexChange c v s).mkl = s.mkl ∧ (indexChange c v s).svc = s.svc ∧ (indexChange c v s).freeCount = s.freeCount ∧
    (indexChange c v s).pending = s.pending := by
  simp only [indexChange]
  (repeat' split) <;> simp

@[simp] theorem stallChannel_keeps (c : Chan) :
    (stallChannel c s).timebase = s.timebase ∧ (stallChannel c s).pins = s.pins ∧
    (stallChannel c s).resetActive = s.resetActive ∧ (stallChannel c s).straps = s.straps ∧
    (stallChannel c s).settings = s.settings ∧ (stallChannel c s).ovl = s.ovl ∧ (stallChannel c s).mkl = s.mkl ∧
    (stallChannel c s).svc = s.svc ∧ (stallChannel c s).freeCount = s.freeCount ∧ (stallChannel c s).pending = s.pending := by
  simp [stallChannel]

@[simp] theorem wrapChannel_keeps (x y : Int) (c : Chan) :
    (wrapChannel x y c s).timebase = s.timebase ∧ (wrapChannel x y c s).pins = s.pins ∧
    (wrapChannel x y c s).resetActive = s.resetActive ∧ (wrapChannel x y c s).straps = s.straps ∧
    (wrapChannel x y c s).settings = s.settings ∧ (wrapChannel x y c s).clp = s.clp ∧ (wrapChannel x y c s).ptr = s.ptr ∧
    (wrapChannel x y c s).lockA = s.lockA ∧ (wrapChannel x y c s).lockB = s.lockB ∧ (wrapChannel x y c s).ctb = s.ctb ∧
    (wrapChannel x y c s).csh = s.csh ∧ (wrapChannel x y c s).cou = s.cou ∧ (wrapChannel x y c s).ovl = s.ovl ∧
    (wrapChannel x y c s).mkl = s.mkl ∧ (wrapChannel x y c s).svc = s.svc ∧ (wrapChannel x y c s).flt = s.flt ∧
    (wrapChannel x y c s).freeCount = s.freeCount ∧ (wrapChannel x y c s).pending = s.pending := by
  unfold wrapChannel
  split <;> simp

@[simp] theorem wrapOrder_keeps (x y : Int) :
    (wrapOrder x y s).timebase = s.timebase ∧ (wrapOrder x y s).pins = s.pins ∧
    (wrapOrder x y s).resetActive = s.resetActive ∧ (wrapOrder x y s).straps = s.straps ∧
    (wrapOrder x y s).settings = s.settings ∧ (wrapOrder x y s).clp = s.clp ∧ (wrapOrder x y s).ptr = s.ptr ∧
    (wrapOrder x y s).lockA = s.lockA ∧ (wrapOrder x y s).lockB = s.lockB ∧ (wrapOrder x y s).ctb = s.ctb ∧
    (wrapOrder x y s).csh = s.csh ∧ (wrapOrder x y s).cou = s.cou ∧ (wrapOrder x y s).ovl = s.ovl ∧
    (wrapOrder x y s).mkl = s.mkl ∧ (wrapOrder x y s).svc = s.svc ∧ (wrapOrder x y s).flt = s.flt ∧
    (wrapOrder x y s).freeCount = s.freeCount ∧ (wrapOrder x y s).pending = s.pending := by
  simp [wrapOrder]

@[simp] theorem sampleChannel_keeps (c : Chan) :
    (sampleChannel c s).timebase = s.timebase ∧ (sampleChannel c s).pins = s.pins ∧
    (sampleChannel c s).resetActive = s.resetActive ∧ (sampleChannel c s).straps = s.straps ∧
    (sampleChannel c s).settings = s.settings ∧ (sampleChannel c s).clp = s.clp ∧ (sampleChannel c s).ptr = s.ptr ∧
    (sampleChannel c s).lockA = s.lockA ∧ (sampleChannel c s).lockB = s.lockB ∧ (sampleChannel c s).ctb = s.ctb ∧
    (sampleChannel c s).csh = s.csh ∧ (sampleChannel c s).cou = s.cou ∧ (sampleChannel c s).ovl = s.ovl ∧
    (sampleChannel c s).mkl = s.mkl ∧ (sampleChannel c s).svc = s.svc ∧ (sampleChannel c s).flt = s.flt ∧
    (sampleChannel c s).freeCount = s.freeCount ∧ (sampleChannel c s).pending = s.pending := by
  unfold sampleChannel
  split <;> simp

/-! ## The Cue Table -/

@[simp] theorem setStaging_keeps (l : List Staged) :
    (setStaging l s).timebase = s.timebase ∧ (setStaging l s).pins = s.pins ∧ (setStaging l s).resetActive = s.resetActive ∧
    (setStaging l s).straps = s.straps ∧ (setStaging l s).settings = s.settings ∧ (setStaging l s).clp = s.clp ∧
    (setStaging l s).chA = s.chA ∧ (setStaging l s).chB = s.chB ∧ (setStaging l s).ptr = s.ptr ∧
    (setStaging l s).lockA = s.lockA ∧ (setStaging l s).lockB = s.lockB ∧ (setStaging l s).csh = s.csh ∧
    (setStaging l s).cou = s.cou ∧ (setStaging l s).ovl = s.ovl ∧ (setStaging l s).mkl = s.mkl ∧
    (setStaging l s).svc = s.svc ∧ (setStaging l s).flt = s.flt ∧ (setStaging l s).freeCount = s.freeCount ∧
    (setStaging l s).pending = s.pending := by
  simp [setStaging]

@[simp] theorem stageHead_keeps (n : BitVec 5) (h : CueHead) :
    (stageHead n h s).timebase = s.timebase ∧ (stageHead n h s).pins = s.pins ∧
    (stageHead n h s).resetActive = s.resetActive ∧ (stageHead n h s).straps = s.straps ∧
    (stageHead n h s).settings = s.settings ∧ (stageHead n h s).chA = s.chA ∧ (stageHead n h s).chB = s.chB ∧
    (stageHead n h s).ptr = s.ptr ∧ (stageHead n h s).lockA = s.lockA ∧ (stageHead n h s).lockB = s.lockB ∧
    (stageHead n h s).csh = s.csh ∧ (stageHead n h s).cou = s.cou ∧ (stageHead n h s).ovl = s.ovl ∧
    (stageHead n h s).mkl = s.mkl ∧ (stageHead n h s).svc = s.svc ∧ (stageHead n h s).freeCount = s.freeCount ∧
    (stageHead n h s).pending = s.pending := by
  unfold stageHead
  (repeat' split) <;> simp

@[simp] theorem recordTimes_keeps (i : FaultInfo) (n : Nat) :
    (recordTimes i n s).timebase = s.timebase ∧ (recordTimes i n s).pins = s.pins ∧
    (recordTimes i n s).resetActive = s.resetActive ∧ (recordTimes i n s).straps = s.straps ∧
    (recordTimes i n s).settings = s.settings ∧ (recordTimes i n s).chA = s.chA ∧ (recordTimes i n s).chB = s.chB ∧
    (recordTimes i n s).ptr = s.ptr ∧ (recordTimes i n s).lockA = s.lockA ∧ (recordTimes i n s).lockB = s.lockB ∧
    (recordTimes i n s).ctb = s.ctb ∧ (recordTimes i n s).csh = s.csh ∧ (recordTimes i n s).cou = s.cou ∧
    (recordTimes i n s).ovl = s.ovl ∧ (recordTimes i n s).mkl = s.mkl ∧ (recordTimes i n s).svc = s.svc ∧
    (recordTimes i n s).freeCount = s.freeCount ∧ (recordTimes i n s).pending = s.pending := by
  induction n generalizing s with
  | zero => simp [recordTimes]
  | succ n ih => simp [recordTimes, ih]

@[simp] theorem updateEntry_keeps (i : Nat) (d : CueDef) :
    (updateEntry i d s).timebase = s.timebase ∧ (updateEntry i d s).pins = s.pins ∧
    (updateEntry i d s).resetActive = s.resetActive ∧ (updateEntry i d s).straps = s.straps ∧
    (updateEntry i d s).settings = s.settings ∧ (updateEntry i d s).clp = s.clp ∧ (updateEntry i d s).chA = s.chA ∧
    (updateEntry i d s).chB = s.chB ∧ (updateEntry i d s).ptr = s.ptr ∧ (updateEntry i d s).lockA = s.lockA ∧
    (updateEntry i d s).lockB = s.lockB ∧ (updateEntry i d s).cou = s.cou ∧ (updateEntry i d s).ovl = s.ovl ∧
    (updateEntry i d s).mkl = s.mkl ∧ (updateEntry i d s).svc = s.svc ∧ (updateEntry i d s).flt = s.flt ∧
    (updateEntry i d s).freeCount = s.freeCount ∧ (updateEntry i d s).pending = s.pending := by
  simp only [updateEntry]
  (repeat' split) <;> simp

@[simp] theorem enterCue_keeps (i : Nat) (d : CueDef) :
    (enterCue i d s).timebase = s.timebase ∧ (enterCue i d s).pins = s.pins ∧ (enterCue i d s).resetActive = s.resetActive ∧
    (enterCue i d s).straps = s.straps ∧ (enterCue i d s).settings = s.settings ∧ (enterCue i d s).clp = s.clp ∧
    (enterCue i d s).chA = s.chA ∧ (enterCue i d s).chB = s.chB ∧ (enterCue i d s).ptr = s.ptr ∧
    (enterCue i d s).lockA = s.lockA ∧ (enterCue i d s).lockB = s.lockB ∧ (enterCue i d s).csh = s.csh ∧
    (enterCue i d s).cou = s.cou ∧ (enterCue i d s).ovl = s.ovl ∧ (enterCue i d s).mkl = s.mkl ∧
    (enterCue i d s).svc = s.svc ∧ (enterCue i d s).flt = s.flt ∧ (enterCue i d s).freeCount = s.freeCount ∧
    (enterCue i d s).pending = s.pending := by
  simp [enterCue]

@[simp] theorem placeCue_keeps (d : CueDef) (n : BitVec 5) :
    (placeCue d n s).timebase = s.timebase ∧ (placeCue d n s).pins = s.pins ∧ (placeCue d n s).resetActive = s.resetActive ∧
    (placeCue d n s).straps = s.straps ∧ (placeCue d n s).settings = s.settings ∧ (placeCue d n s).chA = s.chA ∧
    (placeCue d n s).chB = s.chB ∧ (placeCue d n s).ptr = s.ptr ∧ (placeCue d n s).lockA = s.lockA ∧
    (placeCue d n s).lockB = s.lockB ∧ (placeCue d n s).csh = s.csh ∧ (placeCue d n s).cou = s.cou ∧
    (placeCue d n s).ovl = s.ovl ∧ (placeCue d n s).mkl = s.mkl ∧ (placeCue d n s).svc = s.svc ∧
    (placeCue d n s).freeCount = s.freeCount ∧ (placeCue d n s).pending = s.pending := by
  unfold placeCue
  (repeat' split) <;> simp

@[simp] theorem emptyEntry_keeps (i : Nat) :
    (emptyEntry i s).timebase = s.timebase ∧ (emptyEntry i s).pins = s.pins ∧ (emptyEntry i s).resetActive = s.resetActive ∧
    (emptyEntry i s).straps = s.straps ∧ (emptyEntry i s).settings = s.settings ∧ (emptyEntry i s).clp = s.clp ∧
    (emptyEntry i s).chA = s.chA ∧ (emptyEntry i s).chB = s.chB ∧ (emptyEntry i s).ptr = s.ptr ∧
    (emptyEntry i s).lockA = s.lockA ∧ (emptyEntry i s).lockB = s.lockB ∧ (emptyEntry i s).cou = s.cou ∧
    (emptyEntry i s).ovl = s.ovl ∧ (emptyEntry i s).mkl = s.mkl ∧ (emptyEntry i s).svc = s.svc ∧
    (emptyEntry i s).flt = s.flt ∧ (emptyEntry i s).freeCount = s.freeCount ∧ (emptyEntry i s).pending = s.pending := by
  simp [emptyEntry]

@[simp] theorem commit_keeps (h : CueHead) (b : CueBody) (n : BitVec 5) :
    (commit h b n s).timebase = s.timebase ∧ (commit h b n s).pins = s.pins ∧ (commit h b n s).resetActive = s.resetActive ∧
    (commit h b n s).straps = s.straps ∧ (commit h b n s).settings = s.settings ∧ (commit h b n s).chA = s.chA ∧
    (commit h b n s).chB = s.chB ∧ (commit h b n s).ptr = s.ptr ∧ (commit h b n s).lockA = s.lockA ∧
    (commit h b n s).lockB = s.lockB ∧ (commit h b n s).cou = s.cou ∧ (commit h b n s).ovl = s.ovl ∧
    (commit h b n s).mkl = s.mkl ∧ (commit h b n s).svc = s.svc ∧ (commit h b n s).freeCount = s.freeCount ∧
    (commit h b n s).pending = s.pending := by
  simp only [commit]
  (repeat' split) <;> simp

@[simp] theorem takeBody_keeps (n : BitVec 5) (b : CueBody) :
    (takeBody n b s).timebase = s.timebase ∧ (takeBody n b s).pins = s.pins ∧ (takeBody n b s).resetActive = s.resetActive ∧
    (takeBody n b s).straps = s.straps ∧ (takeBody n b s).settings = s.settings ∧ (takeBody n b s).chA = s.chA ∧
    (takeBody n b s).chB = s.chB ∧ (takeBody n b s).ptr = s.ptr ∧ (takeBody n b s).lockA = s.lockA ∧
    (takeBody n b s).lockB = s.lockB ∧ (takeBody n b s).cou = s.cou ∧ (takeBody n b s).ovl = s.ovl ∧
    (takeBody n b s).mkl = s.mkl ∧ (takeBody n b s).svc = s.svc ∧ (takeBody n b s).freeCount = s.freeCount ∧
    (takeBody n b s).pending = s.pending := by
  unfold takeBody
  (repeat' split) <;> simp

@[simp] theorem dropEntry_keeps (i : Nat) :
    (dropEntry i s).timebase = s.timebase ∧ (dropEntry i s).pins = s.pins ∧ (dropEntry i s).resetActive = s.resetActive ∧
    (dropEntry i s).straps = s.straps ∧ (dropEntry i s).settings = s.settings ∧ (dropEntry i s).chA = s.chA ∧
    (dropEntry i s).chB = s.chB ∧ (dropEntry i s).ptr = s.ptr ∧ (dropEntry i s).lockA = s.lockA ∧
    (dropEntry i s).lockB = s.lockB ∧ (dropEntry i s).ovl = s.ovl ∧ (dropEntry i s).mkl = s.mkl ∧
    (dropEntry i s).svc = s.svc ∧ (dropEntry i s).freeCount = s.freeCount ∧ (dropEntry i s).pending = s.pending := by
  simp [dropEntry]

@[simp] theorem dropWhere_keeps (p : CueDef → Bool) :
    (dropWhere p s).timebase = s.timebase ∧ (dropWhere p s).pins = s.pins ∧ (dropWhere p s).resetActive = s.resetActive ∧
    (dropWhere p s).straps = s.straps ∧ (dropWhere p s).settings = s.settings ∧ (dropWhere p s).chA = s.chA ∧
    (dropWhere p s).chB = s.chB ∧ (dropWhere p s).ptr = s.ptr ∧ (dropWhere p s).lockA = s.lockA ∧
    (dropWhere p s).lockB = s.lockB ∧ (dropWhere p s).ovl = s.ovl ∧ (dropWhere p s).mkl = s.mkl ∧
    (dropWhere p s).svc = s.svc ∧ (dropWhere p s).freeCount = s.freeCount ∧ (dropWhere p s).pending = s.pending := by
  unfold dropWhere
  exact ⟨forIndexes_same State.timebase _ (fun _ _ => by split <;> simp) _ _,
    forIndexes_same State.pins _ (fun _ _ => by split <;> simp) _ _,
    forIndexes_same State.resetActive _ (fun _ _ => by split <;> simp) _ _,
    forIndexes_same State.straps _ (fun _ _ => by split <;> simp) _ _,
    forIndexes_same State.settings _ (fun _ _ => by split <;> simp) _ _,
    forIndexes_same State.chA _ (fun _ _ => by split <;> simp) _ _,
    forIndexes_same State.chB _ (fun _ _ => by split <;> simp) _ _,
    forIndexes_same State.ptr _ (fun _ _ => by split <;> simp) _ _,
    forIndexes_same State.lockA _ (fun _ _ => by split <;> simp) _ _,
    forIndexes_same State.lockB _ (fun _ _ => by split <;> simp) _ _,
    forIndexes_same State.ovl _ (fun _ _ => by split <;> simp) _ _,
    forIndexes_same State.mkl _ (fun _ _ => by split <;> simp) _ _,
    forIndexes_same State.svc _ (fun _ _ => by split <;> simp) _ _,
    forIndexes_same State.freeCount _ (fun _ _ => by split <;> simp) _ _,
    forIndexes_same State.pending _ (fun _ _ => by split <;> simp) _ _⟩

@[simp] theorem unstageWhere_keeps (p : CueHead → Bool) :
    (unstageWhere p s).timebase = s.timebase ∧ (unstageWhere p s).pins = s.pins ∧
    (unstageWhere p s).resetActive = s.resetActive ∧ (unstageWhere p s).straps = s.straps ∧
    (unstageWhere p s).settings = s.settings ∧ (unstageWhere p s).clp = s.clp ∧ (unstageWhere p s).chA = s.chA ∧
    (unstageWhere p s).chB = s.chB ∧ (unstageWhere p s).ptr = s.ptr ∧ (unstageWhere p s).lockA = s.lockA ∧
    (unstageWhere p s).lockB = s.lockB ∧ (unstageWhere p s).csh = s.csh ∧ (unstageWhere p s).cou = s.cou ∧
    (unstageWhere p s).ovl = s.ovl ∧ (unstageWhere p s).mkl = s.mkl ∧ (unstageWhere p s).svc = s.svc ∧
    (unstageWhere p s).flt = s.flt ∧ (unstageWhere p s).freeCount = s.freeCount ∧ (unstageWhere p s).pending = s.pending := by
  simp [unstageWhere]

@[simp] theorem dropCue_keeps (r : BitVec 6) (n : BitVec 12) :
    (dropCue r n s).timebase = s.timebase ∧ (dropCue r n s).pins = s.pins ∧ (dropCue r n s).resetActive = s.resetActive ∧
    (dropCue r n s).straps = s.straps ∧ (dropCue r n s).settings = s.settings ∧ (dropCue r n s).chA = s.chA ∧
    (dropCue r n s).chB = s.chB ∧ (dropCue r n s).ptr = s.ptr ∧ (dropCue r n s).lockA = s.lockA ∧
    (dropCue r n s).lockB = s.lockB ∧ (dropCue r n s).ovl = s.ovl ∧ (dropCue r n s).mkl = s.mkl ∧
    (dropCue r n s).svc = s.svc ∧ (dropCue r n s).freeCount = s.freeCount ∧ (dropCue r n s).pending = s.pending := by
  simp [dropCue]

@[simp] theorem dropReel_keeps (r : BitVec 6) :
    (dropReel r s).timebase = s.timebase ∧ (dropReel r s).pins = s.pins ∧ (dropReel r s).resetActive = s.resetActive ∧
    (dropReel r s).straps = s.straps ∧ (dropReel r s).settings = s.settings ∧ (dropReel r s).chA = s.chA ∧
    (dropReel r s).chB = s.chB ∧ (dropReel r s).ptr = s.ptr ∧ (dropReel r s).lockA = s.lockA ∧
    (dropReel r s).lockB = s.lockB ∧ (dropReel r s).ovl = s.ovl ∧ (dropReel r s).mkl = s.mkl ∧ (dropReel r s).svc = s.svc ∧
    (dropReel r s).freeCount = s.freeCount ∧ (dropReel r s).pending = s.pending := by
  simp [dropReel]

@[simp] theorem dropAll_keeps :
    (dropAll s).timebase = s.timebase ∧ (dropAll s).pins = s.pins ∧ (dropAll s).resetActive = s.resetActive ∧
    (dropAll s).straps = s.straps ∧ (dropAll s).settings = s.settings ∧ (dropAll s).chA = s.chA ∧ (dropAll s).chB = s.chB ∧
    (dropAll s).ptr = s.ptr ∧ (dropAll s).lockA = s.lockA ∧ (dropAll s).lockB = s.lockB ∧ (dropAll s).ovl = s.ovl ∧
    (dropAll s).mkl = s.mkl ∧ (dropAll s).svc = s.svc ∧ (dropAll s).freeCount = s.freeCount ∧ (dropAll s).pending = s.pending := by
  simp [dropAll]

/-! ## Overlay -/

@[simp] theorem testSettled_keeps (m : Settled) (g : Geometry) :
    (testSettled m g s).timebase = s.timebase ∧ (testSettled m g s).pins = s.pins ∧
    (testSettled m g s).resetActive = s.resetActive ∧ (testSettled m g s).straps = s.straps ∧
    (testSettled m g s).settings = s.settings ∧ (testSettled m g s).chA = s.chA ∧ (testSettled m g s).chB = s.chB ∧
    (testSettled m g s).ptr = s.ptr ∧ (testSettled m g s).lockA = s.lockA ∧ (testSettled m g s).lockB = s.lockB ∧
    (testSettled m g s).ctb = s.ctb ∧ (testSettled m g s).csh = s.csh ∧ (testSettled m g s).cou = s.cou ∧
    (testSettled m g s).mkl = s.mkl ∧ (testSettled m g s).svc = s.svc ∧ (testSettled m g s).freeCount = s.freeCount ∧
    (testSettled m g s).pending = s.pending := by
  unfold testSettled
  split <;> simp

@[simp] theorem settle_keeps (m : Settled) :
    (settle m s).timebase = s.timebase ∧ (settle m s).pins = s.pins ∧ (settle m s).resetActive = s.resetActive ∧
    (settle m s).straps = s.straps ∧ (settle m s).settings = s.settings ∧ (settle m s).chA = s.chA ∧
    (settle m s).chB = s.chB ∧ (settle m s).ptr = s.ptr ∧ (settle m s).lockA = s.lockA ∧ (settle m s).lockB = s.lockB ∧
    (settle m s).ctb = s.ctb ∧ (settle m s).csh = s.csh ∧ (settle m s).cou = s.cou ∧ (settle m s).mkl = s.mkl ∧
    (settle m s).svc = s.svc ∧ (settle m s).freeCount = s.freeCount ∧ (settle m s).pending = s.pending := by
  unfold settle
  dsimp only
  split <;> simp

@[simp] theorem acquire_keeps (m : FieldMeas) :
    (acquire m s).timebase = s.timebase ∧ (acquire m s).pins = s.pins ∧ (acquire m s).resetActive = s.resetActive ∧
    (acquire m s).straps = s.straps ∧ (acquire m s).settings = s.settings ∧ (acquire m s).chA = s.chA ∧
    (acquire m s).chB = s.chB ∧ (acquire m s).ptr = s.ptr ∧ (acquire m s).lockA = s.lockA ∧ (acquire m s).lockB = s.lockB ∧
    (acquire m s).ctb = s.ctb ∧ (acquire m s).csh = s.csh ∧ (acquire m s).cou = s.cou ∧ (acquire m s).mkl = s.mkl ∧
    (acquire m s).svc = s.svc ∧ (acquire m s).freeCount = s.freeCount ∧ (acquire m s).pending = s.pending := by
  unfold acquire
  dsimp only
  split <;> simp

@[simp] theorem endField_keeps (m : FieldMeas) :
    (endField m s).timebase = s.timebase ∧ (endField m s).pins = s.pins ∧ (endField m s).resetActive = s.resetActive ∧
    (endField m s).straps = s.straps ∧ (endField m s).settings = s.settings ∧ (endField m s).chA = s.chA ∧
    (endField m s).chB = s.chB ∧ (endField m s).ptr = s.ptr ∧ (endField m s).lockA = s.lockA ∧
    (endField m s).lockB = s.lockB ∧ (endField m s).ctb = s.ctb ∧ (endField m s).csh = s.csh ∧ (endField m s).cou = s.cou ∧
    (endField m s).mkl = s.mkl ∧ (endField m s).svc = s.svc ∧ (endField m s).freeCount = s.freeCount ∧
    (endField m s).pending = s.pending := by
  simp only [endField]
  (repeat' split) <;> simp

@[simp] theorem loseSignal_keeps :
    (loseSignal s).timebase = s.timebase ∧ (loseSignal s).pins = s.pins ∧ (loseSignal s).resetActive = s.resetActive ∧
    (loseSignal s).straps = s.straps ∧ (loseSignal s).settings = s.settings ∧ (loseSignal s).clp = s.clp ∧
    (loseSignal s).chA = s.chA ∧ (loseSignal s).chB = s.chB ∧ (loseSignal s).ptr = s.ptr ∧ (loseSignal s).lockA = s.lockA ∧
    (loseSignal s).lockB = s.lockB ∧ (loseSignal s).ctb = s.ctb ∧ (loseSignal s).csh = s.csh ∧ (loseSignal s).cou = s.cou ∧
    (loseSignal s).mkl = s.mkl ∧ (loseSignal s).svc = s.svc ∧ (loseSignal s).flt = s.flt ∧
    (loseSignal s).freeCount = s.freeCount ∧ (loseSignal s).pending = s.pending := by
  simp [loseSignal]

@[simp] theorem buildList_keeps :
    (buildList s).timebase = s.timebase ∧ (buildList s).pins = s.pins ∧ (buildList s).resetActive = s.resetActive ∧
    (buildList s).straps = s.straps ∧ (buildList s).settings = s.settings ∧ (buildList s).clp = s.clp ∧
    (buildList s).chA = s.chA ∧ (buildList s).chB = s.chB ∧ (buildList s).ptr = s.ptr ∧ (buildList s).lockA = s.lockA ∧
    (buildList s).lockB = s.lockB ∧ (buildList s).ctb = s.ctb ∧ (buildList s).csh = s.csh ∧ (buildList s).cou = s.cou ∧
    (buildList s).mkl = s.mkl ∧ (buildList s).svc = s.svc ∧ (buildList s).flt = s.flt ∧
    (buildList s).freeCount = s.freeCount ∧ (buildList s).pending = s.pending := by
  unfold buildList
  split <;> simp

@[simp] theorem swapLists_keeps :
    (swapLists s).timebase = s.timebase ∧ (swapLists s).pins = s.pins ∧ (swapLists s).resetActive = s.resetActive ∧
    (swapLists s).straps = s.straps ∧ (swapLists s).settings = s.settings ∧ (swapLists s).clp = s.clp ∧
    (swapLists s).chA = s.chA ∧ (swapLists s).chB = s.chB ∧ (swapLists s).ptr = s.ptr ∧ (swapLists s).lockA = s.lockA ∧
    (swapLists s).lockB = s.lockB ∧ (swapLists s).ctb = s.ctb ∧ (swapLists s).csh = s.csh ∧ (swapLists s).cou = s.cou ∧
    (swapLists s).mkl = s.mkl ∧ (swapLists s).svc = s.svc ∧ (swapLists s).flt = s.flt ∧
    (swapLists s).freeCount = s.freeCount ∧ (swapLists s).pending = s.pending := by
  simp only [swapLists, guarded]
  split <;> simp

@[simp] theorem recordClamp_keeps :
    (recordClamp s).timebase = s.timebase ∧ (recordClamp s).pins = s.pins ∧ (recordClamp s).resetActive = s.resetActive ∧
    (recordClamp s).straps = s.straps ∧ (recordClamp s).settings = s.settings ∧ (recordClamp s).chA = s.chA ∧
    (recordClamp s).chB = s.chB ∧ (recordClamp s).ptr = s.ptr ∧ (recordClamp s).lockA = s.lockA ∧
    (recordClamp s).lockB = s.lockB ∧ (recordClamp s).ctb = s.ctb ∧ (recordClamp s).csh = s.csh ∧
    (recordClamp s).cou = s.cou ∧ (recordClamp s).ovl = s.ovl ∧ (recordClamp s).mkl = s.mkl ∧ (recordClamp s).svc = s.svc ∧
    (recordClamp s).freeCount = s.freeCount ∧ (recordClamp s).pending = s.pending := by
  simp [recordClamp]

@[simp] theorem clampOverlay_keeps :
    (clampOverlay s).timebase = s.timebase ∧ (clampOverlay s).pins = s.pins ∧ (clampOverlay s).resetActive = s.resetActive ∧
    (clampOverlay s).straps = s.straps ∧ (clampOverlay s).chA = s.chA ∧ (clampOverlay s).chB = s.chB ∧
    (clampOverlay s).ptr = s.ptr ∧ (clampOverlay s).lockA = s.lockA ∧ (clampOverlay s).lockB = s.lockB ∧
    (clampOverlay s).ctb = s.ctb ∧ (clampOverlay s).csh = s.csh ∧ (clampOverlay s).cou = s.cou ∧
    (clampOverlay s).ovl = s.ovl ∧ (clampOverlay s).mkl = s.mkl ∧ (clampOverlay s).svc = s.svc ∧
    (clampOverlay s).freeCount = s.freeCount ∧ (clampOverlay s).pending = s.pending := by
  simp only [clampOverlay, guarded]
  (repeat' split) <;> simp

@[simp] theorem startOverlay_keeps :
    (startOverlay s).timebase = s.timebase ∧ (startOverlay s).pins = s.pins ∧ (startOverlay s).resetActive = s.resetActive ∧
    (startOverlay s).straps = s.straps ∧ (startOverlay s).settings = s.settings ∧ (startOverlay s).chA = s.chA ∧
    (startOverlay s).chB = s.chB ∧ (startOverlay s).ptr = s.ptr ∧ (startOverlay s).lockA = s.lockA ∧
    (startOverlay s).lockB = s.lockB ∧ (startOverlay s).ctb = s.ctb ∧ (startOverlay s).csh = s.csh ∧
    (startOverlay s).cou = s.cou ∧ (startOverlay s).mkl = s.mkl ∧ (startOverlay s).svc = s.svc ∧
    (startOverlay s).freeCount = s.freeCount ∧ (startOverlay s).pending = s.pending := by
  simp only [startOverlay]
  (repeat' split) <;> simp

/-! ## Mark latch -/

@[simp] theorem joinLog_keeps (r : MarkRec) :
    (joinLog r s).timebase = s.timebase ∧ (joinLog r s).pins = s.pins ∧ (joinLog r s).resetActive = s.resetActive ∧
    (joinLog r s).straps = s.straps ∧ (joinLog r s).settings = s.settings ∧ (joinLog r s).chA = s.chA ∧
    (joinLog r s).chB = s.chB ∧ (joinLog r s).ptr = s.ptr ∧ (joinLog r s).lockA = s.lockA ∧ (joinLog r s).lockB = s.lockB ∧
    (joinLog r s).ctb = s.ctb ∧ (joinLog r s).csh = s.csh ∧ (joinLog r s).cou = s.cou ∧ (joinLog r s).ovl = s.ovl ∧
    (joinLog r s).svc = s.svc ∧ (joinLog r s).freeCount = s.freeCount ∧ (joinLog r s).pending = s.pending := by
  unfold joinLog
  (repeat' split) <;> simp

@[simp] theorem takeMark_keeps :
    (takeMark s).timebase = s.timebase ∧ (takeMark s).pins = s.pins ∧ (takeMark s).resetActive = s.resetActive ∧
    (takeMark s).straps = s.straps ∧ (takeMark s).settings = s.settings ∧ (takeMark s).clp = s.clp ∧
    (takeMark s).chA = s.chA ∧ (takeMark s).chB = s.chB ∧ (takeMark s).ptr = s.ptr ∧ (takeMark s).lockA = s.lockA ∧
    (takeMark s).lockB = s.lockB ∧ (takeMark s).ctb = s.ctb ∧ (takeMark s).csh = s.csh ∧ (takeMark s).cou = s.cou ∧
    (takeMark s).ovl = s.ovl ∧ (takeMark s).svc = s.svc ∧ (takeMark s).flt = s.flt ∧ (takeMark s).freeCount = s.freeCount ∧
    (takeMark s).pending = s.pending := by
  simp [takeMark]

@[simp] theorem makeMark_keeps (l : Latch) :
    (makeMark l s).timebase = s.timebase ∧ (makeMark l s).pins = s.pins ∧ (makeMark l s).resetActive = s.resetActive ∧
    (makeMark l s).straps = s.straps ∧ (makeMark l s).settings = s.settings ∧ (makeMark l s).chA = s.chA ∧
    (makeMark l s).chB = s.chB ∧ (makeMark l s).ptr = s.ptr ∧ (makeMark l s).lockA = s.lockA ∧
    (makeMark l s).lockB = s.lockB ∧ (makeMark l s).ctb = s.ctb ∧ (makeMark l s).csh = s.csh ∧ (makeMark l s).cou = s.cou ∧
    (makeMark l s).ovl = s.ovl ∧ (makeMark l s).svc = s.svc ∧ (makeMark l s).freeCount = s.freeCount ∧
    (makeMark l s).pending = s.pending := by
  simp [makeMark]

@[simp] theorem setKey_keeps (k : KeyState) (t : Option Time) (l : Option Latch) :
    (setKey k t l s).timebase = s.timebase ∧ (setKey k t l s).pins = s.pins ∧ (setKey k t l s).resetActive = s.resetActive ∧
    (setKey k t l s).straps = s.straps ∧ (setKey k t l s).settings = s.settings ∧ (setKey k t l s).clp = s.clp ∧
    (setKey k t l s).chA = s.chA ∧ (setKey k t l s).chB = s.chB ∧ (setKey k t l s).ptr = s.ptr ∧
    (setKey k t l s).lockA = s.lockA ∧ (setKey k t l s).lockB = s.lockB ∧ (setKey k t l s).ctb = s.ctb ∧
    (setKey k t l s).csh = s.csh ∧ (setKey k t l s).cou = s.cou ∧ (setKey k t l s).ovl = s.ovl ∧
    (setKey k t l s).svc = s.svc ∧ (setKey k t l s).flt = s.flt ∧ (setKey k t l s).freeCount = s.freeCount ∧
    (setKey k t l s).pending = s.pending := by
  simp [setKey]

@[simp] theorem keyFall_keeps :
    (keyFall s).timebase = s.timebase ∧ (keyFall s).pins = s.pins ∧ (keyFall s).resetActive = s.resetActive ∧
    (keyFall s).straps = s.straps ∧ (keyFall s).settings = s.settings ∧ (keyFall s).clp = s.clp ∧ (keyFall s).chA = s.chA ∧
    (keyFall s).chB = s.chB ∧ (keyFall s).ptr = s.ptr ∧ (keyFall s).lockA = s.lockA ∧ (keyFall s).lockB = s.lockB ∧
    (keyFall s).ctb = s.ctb ∧ (keyFall s).csh = s.csh ∧ (keyFall s).cou = s.cou ∧ (keyFall s).ovl = s.ovl ∧
    (keyFall s).svc = s.svc ∧ (keyFall s).flt = s.flt ∧ (keyFall s).freeCount = s.freeCount ∧ (keyFall s).pending = s.pending := by
  unfold keyFall
  split <;> simp

@[simp] theorem keyRise_keeps :
    (keyRise s).timebase = s.timebase ∧ (keyRise s).pins = s.pins ∧ (keyRise s).resetActive = s.resetActive ∧
    (keyRise s).straps = s.straps ∧ (keyRise s).settings = s.settings ∧ (keyRise s).clp = s.clp ∧ (keyRise s).chA = s.chA ∧
    (keyRise s).chB = s.chB ∧ (keyRise s).ptr = s.ptr ∧ (keyRise s).lockA = s.lockA ∧ (keyRise s).lockB = s.lockB ∧
    (keyRise s).ctb = s.ctb ∧ (keyRise s).csh = s.csh ∧ (keyRise s).cou = s.cou ∧ (keyRise s).ovl = s.ovl ∧
    (keyRise s).svc = s.svc ∧ (keyRise s).flt = s.flt ∧ (keyRise s).freeCount = s.freeCount ∧ (keyRise s).pending = s.pending := by
  unfold keyRise
  split <;> simp

@[simp] theorem marknChange_keeps (v : Bool) :
    (marknChange v s).timebase = s.timebase ∧ (marknChange v s).resetActive = s.resetActive ∧
    (marknChange v s).straps = s.straps ∧ (marknChange v s).settings = s.settings ∧ (marknChange v s).clp = s.clp ∧
    (marknChange v s).chA = s.chA ∧ (marknChange v s).chB = s.chB ∧ (marknChange v s).ptr = s.ptr ∧
    (marknChange v s).lockA = s.lockA ∧ (marknChange v s).lockB = s.lockB ∧ (marknChange v s).ctb = s.ctb ∧
    (marknChange v s).csh = s.csh ∧ (marknChange v s).cou = s.cou ∧ (marknChange v s).ovl = s.ovl ∧
    (marknChange v s).svc = s.svc ∧ (marknChange v s).flt = s.flt ∧ (marknChange v s).freeCount = s.freeCount ∧
    (marknChange v s).pending = s.pending := by
  unfold marknChange
  (repeat' split) <;> simp

@[simp] theorem keyExpiry_keeps :
    (keyExpiry s).timebase = s.timebase ∧ (keyExpiry s).pins = s.pins ∧ (keyExpiry s).resetActive = s.resetActive ∧
    (keyExpiry s).straps = s.straps ∧ (keyExpiry s).settings = s.settings ∧ (keyExpiry s).chA = s.chA ∧
    (keyExpiry s).chB = s.chB ∧ (keyExpiry s).ptr = s.ptr ∧ (keyExpiry s).lockA = s.lockA ∧ (keyExpiry s).lockB = s.lockB ∧
    (keyExpiry s).ctb = s.ctb ∧ (keyExpiry s).csh = s.csh ∧ (keyExpiry s).cou = s.cou ∧ (keyExpiry s).ovl = s.ovl ∧
    (keyExpiry s).svc = s.svc ∧ (keyExpiry s).freeCount = s.freeCount ∧ (keyExpiry s).pending = s.pending := by
  unfold keyExpiry
  split <;> simp

@[simp] theorem startKey_keeps :
    (startKey s).timebase = s.timebase ∧ (startKey s).pins = s.pins ∧ (startKey s).resetActive = s.resetActive ∧
    (startKey s).straps = s.straps ∧ (startKey s).settings = s.settings ∧ (startKey s).clp = s.clp ∧
    (startKey s).chA = s.chA ∧ (startKey s).chB = s.chB ∧ (startKey s).ptr = s.ptr ∧ (startKey s).lockA = s.lockA ∧
    (startKey s).lockB = s.lockB ∧ (startKey s).ctb = s.ctb ∧ (startKey s).csh = s.csh ∧ (startKey s).cou = s.cou ∧
    (startKey s).ovl = s.ovl ∧ (startKey s).svc = s.svc ∧ (startKey s).flt = s.flt ∧ (startKey s).freeCount = s.freeCount ∧
    (startKey s).pending = s.pending := by
  simp [startKey]

@[simp] theorem peerMark_keeps (n : BitVec 5) (p : Mark) :
    (peerMark n p s).timebase = s.timebase ∧ (peerMark n p s).pins = s.pins ∧ (peerMark n p s).resetActive = s.resetActive ∧
    (peerMark n p s).straps = s.straps ∧ (peerMark n p s).settings = s.settings ∧ (peerMark n p s).chA = s.chA ∧
    (peerMark n p s).chB = s.chB ∧ (peerMark n p s).ptr = s.ptr ∧ (peerMark n p s).lockA = s.lockA ∧
    (peerMark n p s).lockB = s.lockB ∧ (peerMark n p s).ctb = s.ctb ∧ (peerMark n p s).csh = s.csh ∧
    (peerMark n p s).cou = s.cou ∧ (peerMark n p s).ovl = s.ovl ∧ (peerMark n p s).svc = s.svc ∧
    (peerMark n p s).freeCount = s.freeCount ∧ (peerMark n p s).pending = s.pending := by
  unfold peerMark
  (repeat' split) <;> simp

/-! ## The Cue Line Port -/

@[simp] theorem unknownOrder_keeps (n : BitVec 5) :
    (unknownOrder n s).timebase = s.timebase ∧ (unknownOrder n s).pins = s.pins ∧
    (unknownOrder n s).resetActive = s.resetActive ∧ (unknownOrder n s).straps = s.straps ∧
    (unknownOrder n s).settings = s.settings ∧ (unknownOrder n s).chA = s.chA ∧ (unknownOrder n s).chB = s.chB ∧
    (unknownOrder n s).ptr = s.ptr ∧ (unknownOrder n s).lockA = s.lockA ∧ (unknownOrder n s).lockB = s.lockB ∧
    (unknownOrder n s).ctb = s.ctb ∧ (unknownOrder n s).csh = s.csh ∧ (unknownOrder n s).cou = s.cou ∧
    (unknownOrder n s).ovl = s.ovl ∧ (unknownOrder n s).mkl = s.mkl ∧ (unknownOrder n s).svc = s.svc ∧
    (unknownOrder n s).freeCount = s.freeCount ∧ (unknownOrder n s).pending = s.pending := by
  simp [unknownOrder]

@[simp] theorem modeOrder_keeps (n : BitVec 5) (a : BitVec 24) :
    (modeOrder n a s).timebase = s.timebase ∧ (modeOrder n a s).pins = s.pins ∧
    (modeOrder n a s).resetActive = s.resetActive ∧ (modeOrder n a s).straps = s.straps ∧
    (modeOrder n a s).settings = s.settings ∧ (modeOrder n a s).chA = s.chA ∧ (modeOrder n a s).chB = s.chB ∧
    (modeOrder n a s).ptr = s.ptr ∧ (modeOrder n a s).lockA = s.lockA ∧ (modeOrder n a s).lockB = s.lockB ∧
    (modeOrder n a s).ovl = s.ovl ∧ (modeOrder n a s).mkl = s.mkl ∧ (modeOrder n a s).svc = s.svc ∧
    (modeOrder n a s).freeCount = s.freeCount ∧ (modeOrder n a s).pending = s.pending := by
  unfold modeOrder
  split <;> simp

@[simp] theorem orderOf_keeps (n : BitVec 5) (o : BitVec 4) (p : ControlArgs) :
    (orderOf n o p s).timebase = s.timebase ∧ (orderOf n o p s).pins = s.pins ∧
    (orderOf n o p s).resetActive = s.resetActive ∧ (orderOf n o p s).straps = s.straps ∧
    (orderOf n o p s).settings = s.settings ∧ (orderOf n o p s).ptr = s.ptr ∧ (orderOf n o p s).lockA = s.lockA ∧
    (orderOf n o p s).lockB = s.lockB ∧ (orderOf n o p s).ovl = s.ovl ∧ (orderOf n o p s).mkl = s.mkl ∧
    (orderOf n o p s).svc = s.svc ∧ (orderOf n o p s).freeCount = s.freeCount ∧ (orderOf n o p s).pending = s.pending := by
  unfold orderOf
  split <;> simp

@[simp] theorem applyControl_keeps (n : BitVec 5) (o : BitVec 4) (p : ControlArgs) :
    (applyControl n o p s).timebase = s.timebase ∧ (applyControl n o p s).pins = s.pins ∧
    (applyControl n o p s).resetActive = s.resetActive ∧ (applyControl n o p s).straps = s.straps ∧
    (applyControl n o p s).settings = s.settings ∧ (applyControl n o p s).ptr = s.ptr ∧
    (applyControl n o p s).lockA = s.lockA ∧ (applyControl n o p s).lockB = s.lockB ∧ (applyControl n o p s).ovl = s.ovl ∧
    (applyControl n o p s).mkl = s.mkl ∧ (applyControl n o p s).svc = s.svc ∧
    (applyControl n o p s).freeCount = s.freeCount ∧ (applyControl n o p s).pending = s.pending := by
  simp only [applyControl, guarded]
  split <;> simp

@[simp] theorem setPeer_keeps (n : Nat) (f : Peer → Peer) :
    (setPeer n f s).timebase = s.timebase ∧ (setPeer n f s).pins = s.pins ∧ (setPeer n f s).resetActive = s.resetActive ∧
    (setPeer n f s).straps = s.straps ∧ (setPeer n f s).settings = s.settings ∧ (setPeer n f s).chA = s.chA ∧
    (setPeer n f s).chB = s.chB ∧ (setPeer n f s).ptr = s.ptr ∧ (setPeer n f s).lockA = s.lockA ∧
    (setPeer n f s).lockB = s.lockB ∧ (setPeer n f s).ctb = s.ctb ∧ (setPeer n f s).csh = s.csh ∧
    (setPeer n f s).cou = s.cou ∧ (setPeer n f s).ovl = s.ovl ∧ (setPeer n f s).mkl = s.mkl ∧ (setPeer n f s).svc = s.svc ∧
    (setPeer n f s).flt = s.flt ∧ (setPeer n f s).freeCount = s.freeCount ∧ (setPeer n f s).pending = s.pending := by
  simp [setPeer]

@[simp] theorem peerStatus_keeps (n : BitVec 5) (p : Status) (t : Time) :
    (peerStatus n p t s).timebase = s.timebase ∧ (peerStatus n p t s).pins = s.pins ∧
    (peerStatus n p t s).resetActive = s.resetActive ∧ (peerStatus n p t s).straps = s.straps ∧
    (peerStatus n p t s).settings = s.settings ∧ (peerStatus n p t s).chA = s.chA ∧ (peerStatus n p t s).chB = s.chB ∧
    (peerStatus n p t s).ptr = s.ptr ∧ (peerStatus n p t s).lockA = s.lockA ∧ (peerStatus n p t s).lockB = s.lockB ∧
    (peerStatus n p t s).ctb = s.ctb ∧ (peerStatus n p t s).csh = s.csh ∧ (peerStatus n p t s).cou = s.cou ∧
    (peerStatus n p t s).ovl = s.ovl ∧ (peerStatus n p t s).mkl = s.mkl ∧ (peerStatus n p t s).svc = s.svc ∧
    (peerStatus n p t s).flt = s.flt ∧ (peerStatus n p t s).freeCount = s.freeCount ∧
    (peerStatus n p t s).pending = s.pending := by
  unfold peerStatus
  split <;> simp

@[simp] theorem setReceiver_keeps (r : RxState) (n : Nat) :
    (setReceiver r n s).timebase = s.timebase ∧ (setReceiver r n s).pins = s.pins ∧
    (setReceiver r n s).resetActive = s.resetActive ∧ (setReceiver r n s).straps = s.straps ∧
    (setReceiver r n s).settings = s.settings ∧ (setReceiver r n s).chA = s.chA ∧ (setReceiver r n s).chB = s.chB ∧
    (setReceiver r n s).ptr = s.ptr ∧ (setReceiver r n s).lockA = s.lockA ∧ (setReceiver r n s).lockB = s.lockB ∧
    (setReceiver r n s).ctb = s.ctb ∧ (setReceiver r n s).csh = s.csh ∧ (setReceiver r n s).cou = s.cou ∧
    (setReceiver r n s).ovl = s.ovl ∧ (setReceiver r n s).mkl = s.mkl ∧ (setReceiver r n s).svc = s.svc ∧
    (setReceiver r n s).flt = s.flt ∧ (setReceiver r n s).freeCount = s.freeCount ∧ (setReceiver r n s).pending = s.pending := by
  simp [setReceiver]

@[simp] theorem enterDuplicate_keeps :
    (enterDuplicate s).timebase = s.timebase ∧ (enterDuplicate s).pins = s.pins ∧
    (enterDuplicate s).resetActive = s.resetActive ∧ (enterDuplicate s).straps = s.straps ∧
    (enterDuplicate s).settings = s.settings ∧ (enterDuplicate s).chA = s.chA ∧ (enterDuplicate s).chB = s.chB ∧
    (enterDuplicate s).ptr = s.ptr ∧ (enterDuplicate s).lockA = s.lockA ∧ (enterDuplicate s).lockB = s.lockB ∧
    (enterDuplicate s).ovl = s.ovl ∧ (enterDuplicate s).mkl = s.mkl ∧ (enterDuplicate s).svc = s.svc ∧
    (enterDuplicate s).freeCount = s.freeCount ∧ (enterDuplicate s).pending = s.pending := by
  simp [enterDuplicate]

@[simp] theorem huntFault_keeps (k : FaultKind) (n : Option (BitVec 5)) (c : Nat) :
    (huntFault k n c s).timebase = s.timebase ∧ (huntFault k n c s).pins = s.pins ∧
    (huntFault k n c s).resetActive = s.resetActive ∧ (huntFault k n c s).straps = s.straps ∧
    (huntFault k n c s).settings = s.settings ∧ (huntFault k n c s).chA = s.chA ∧ (huntFault k n c s).chB = s.chB ∧
    (huntFault k n c s).ptr = s.ptr ∧ (huntFault k n c s).lockA = s.lockA ∧ (huntFault k n c s).lockB = s.lockB ∧
    (huntFault k n c s).ctb = s.ctb ∧ (huntFault k n c s).csh = s.csh ∧ (huntFault k n c s).cou = s.cou ∧
    (huntFault k n c s).ovl = s.ovl ∧ (huntFault k n c s).mkl = s.mkl ∧ (huntFault k n c s).svc = s.svc ∧
    (huntFault k n c s).freeCount = s.freeCount ∧ (huntFault k n c s).pending = s.pending := by
  simp only [huntFault, guarded]
  split <;> simp

@[simp] theorem framingFault_keeps (n : Option (BitVec 5)) (c : Nat) :
    (framingFault n c s).timebase = s.timebase ∧ (framingFault n c s).pins = s.pins ∧
    (framingFault n c s).resetActive = s.resetActive ∧ (framingFault n c s).straps = s.straps ∧
    (framingFault n c s).settings = s.settings ∧ (framingFault n c s).chA = s.chA ∧ (framingFault n c s).chB = s.chB ∧
    (framingFault n c s).ptr = s.ptr ∧ (framingFault n c s).lockA = s.lockA ∧ (framingFault n c s).lockB = s.lockB ∧
    (framingFault n c s).ctb = s.ctb ∧ (framingFault n c s).csh = s.csh ∧ (framingFault n c s).cou = s.cou ∧
    (framingFault n c s).ovl = s.ovl ∧ (framingFault n c s).mkl = s.mkl ∧ (framingFault n c s).svc = s.svc ∧
    (framingFault n c s).freeCount = s.freeCount ∧ (framingFault n c s).pending = s.pending := by
  simp [framingFault]

@[simp] theorem ownNumberHeard_keeps :
    (ownNumberHeard s).timebase = s.timebase ∧ (ownNumberHeard s).pins = s.pins ∧
    (ownNumberHeard s).resetActive = s.resetActive ∧ (ownNumberHeard s).straps = s.straps ∧
    (ownNumberHeard s).settings = s.settings ∧ (ownNumberHeard s).chA = s.chA ∧ (ownNumberHeard s).chB = s.chB ∧
    (ownNumberHeard s).ptr = s.ptr ∧ (ownNumberHeard s).lockA = s.lockA ∧ (ownNumberHeard s).lockB = s.lockB ∧
    (ownNumberHeard s).ovl = s.ovl ∧ (ownNumberHeard s).mkl = s.mkl ∧ (ownNumberHeard s).svc = s.svc ∧
    (ownNumberHeard s).freeCount = s.freeCount ∧ (ownNumberHeard s).pending = s.pending := by
  simp only [ownNumberHeard, guarded]
  (repeat' split) <;> simp

@[simp] theorem checkFailed_keeps (f : FailedFrame) :
    (checkFailed f s).timebase = s.timebase ∧ (checkFailed f s).pins = s.pins ∧
    (checkFailed f s).resetActive = s.resetActive ∧ (checkFailed f s).straps = s.straps ∧
    (checkFailed f s).settings = s.settings ∧ (checkFailed f s).chA = s.chA ∧ (checkFailed f s).chB = s.chB ∧
    (checkFailed f s).ptr = s.ptr ∧ (checkFailed f s).lockA = s.lockA ∧ (checkFailed f s).lockB = s.lockB ∧
    (checkFailed f s).ctb = s.ctb ∧ (checkFailed f s).csh = s.csh ∧ (checkFailed f s).cou = s.cou ∧
    (checkFailed f s).ovl = s.ovl ∧ (checkFailed f s).mkl = s.mkl ∧ (checkFailed f s).svc = s.svc ∧
    (checkFailed f s).freeCount = s.freeCount ∧ (checkFailed f s).pending = s.pending := by
  unfold checkFailed
  (repeat' split) <;> simp

@[simp] theorem startBit_keeps :
    (startBit s).timebase = s.timebase ∧ (startBit s).pins = s.pins ∧ (startBit s).resetActive = s.resetActive ∧
    (startBit s).straps = s.straps ∧ (startBit s).settings = s.settings ∧ (startBit s).chA = s.chA ∧ (startBit s).chB = s.chB ∧
    (startBit s).ptr = s.ptr ∧ (startBit s).lockA = s.lockA ∧ (startBit s).lockB = s.lockB ∧ (startBit s).ctb = s.ctb ∧
    (startBit s).csh = s.csh ∧ (startBit s).cou = s.cou ∧ (startBit s).ovl = s.ovl ∧ (startBit s).mkl = s.mkl ∧
    (startBit s).svc = s.svc ∧ (startBit s).flt = s.flt ∧ (startBit s).freeCount = s.freeCount ∧
    (startBit s).pending = s.pending := by
  simp [startBit]

@[simp] theorem dominantBit_keeps :
    (dominantBit s).timebase = s.timebase ∧ (dominantBit s).pins = s.pins ∧ (dominantBit s).resetActive = s.resetActive ∧
    (dominantBit s).straps = s.straps ∧ (dominantBit s).settings = s.settings ∧ (dominantBit s).chA = s.chA ∧
    (dominantBit s).chB = s.chB ∧ (dominantBit s).ptr = s.ptr ∧ (dominantBit s).lockA = s.lockA ∧
    (dominantBit s).lockB = s.lockB ∧ (dominantBit s).ctb = s.ctb ∧ (dominantBit s).csh = s.csh ∧ (dominantBit s).cou = s.cou ∧
    (dominantBit s).ovl = s.ovl ∧ (dominantBit s).mkl = s.mkl ∧ (dominantBit s).svc = s.svc ∧
    (dominantBit s).freeCount = s.freeCount ∧ (dominantBit s).pending = s.pending := by
  unfold dominantBit
  (repeat' split) <;> simp

@[simp] theorem badHeader_keeps (n : Option (BitVec 3 × BitVec 5)) :
    (badHeader n s).timebase = s.timebase ∧ (badHeader n s).pins = s.pins ∧ (badHeader n s).resetActive = s.resetActive ∧
    (badHeader n s).straps = s.straps ∧ (badHeader n s).settings = s.settings ∧ (badHeader n s).chA = s.chA ∧
    (badHeader n s).chB = s.chB ∧ (badHeader n s).ptr = s.ptr ∧ (badHeader n s).lockA = s.lockA ∧
    (badHeader n s).lockB = s.lockB ∧ (badHeader n s).ctb = s.ctb ∧ (badHeader n s).csh = s.csh ∧
    (badHeader n s).cou = s.cou ∧ (badHeader n s).ovl = s.ovl ∧ (badHeader n s).mkl = s.mkl ∧ (badHeader n s).svc = s.svc ∧
    (badHeader n s).freeCount = s.freeCount ∧ (badHeader n s).pending = s.pending := by
  simp only [badHeader, guarded]
  split <;> simp

@[simp] theorem receiverLocks_keeps :
    (receiverLocks s).timebase = s.timebase ∧ (receiverLocks s).pins = s.pins ∧
    (receiverLocks s).resetActive = s.resetActive ∧ (receiverLocks s).straps = s.straps ∧
    (receiverLocks s).settings = s.settings ∧ (receiverLocks s).chA = s.chA ∧ (receiverLocks s).chB = s.chB ∧
    (receiverLocks s).ptr = s.ptr ∧ (receiverLocks s).lockA = s.lockA ∧ (receiverLocks s).lockB = s.lockB ∧
    (receiverLocks s).ctb = s.ctb ∧ (receiverLocks s).csh = s.csh ∧ (receiverLocks s).cou = s.cou ∧
    (receiverLocks s).ovl = s.ovl ∧ (receiverLocks s).mkl = s.mkl ∧ (receiverLocks s).svc = s.svc ∧
    (receiverLocks s).flt = s.flt ∧ (receiverLocks s).freeCount = s.freeCount ∧ (receiverLocks s).pending = s.pending := by
  simp only [receiverLocks, guarded]
  split <;> simp

@[simp] theorem startFrame_keeps :
    (startFrame s).timebase = s.timebase ∧ (startFrame s).pins = s.pins ∧ (startFrame s).resetActive = s.resetActive ∧
    (startFrame s).straps = s.straps ∧ (startFrame s).settings = s.settings ∧ (startFrame s).chA = s.chA ∧
    (startFrame s).chB = s.chB ∧ (startFrame s).ptr = s.ptr ∧ (startFrame s).lockA = s.lockA ∧
    (startFrame s).lockB = s.lockB ∧ (startFrame s).ctb = s.ctb ∧ (startFrame s).csh = s.csh ∧ (startFrame s).cou = s.cou ∧
    (startFrame s).ovl = s.ovl ∧ (startFrame s).mkl = s.mkl ∧ (startFrame s).svc = s.svc ∧ (startFrame s).flt = s.flt ∧
    (startFrame s).freeCount = s.freeCount ∧ (startFrame s).pending = s.pending := by
  simp only [startFrame, guarded]
  (repeat' split) <;> simp

@[simp] theorem loseArbitration_keeps :
    (loseArbitration s).timebase = s.timebase ∧ (loseArbitration s).pins = s.pins ∧
    (loseArbitration s).resetActive = s.resetActive ∧ (loseArbitration s).straps = s.straps ∧
    (loseArbitration s).settings = s.settings ∧ (loseArbitration s).chA = s.chA ∧ (loseArbitration s).chB = s.chB ∧
    (loseArbitration s).ptr = s.ptr ∧ (loseArbitration s).lockA = s.lockA ∧ (loseArbitration s).lockB = s.lockB ∧
    (loseArbitration s).ctb = s.ctb ∧ (loseArbitration s).csh = s.csh ∧ (loseArbitration s).cou = s.cou ∧
    (loseArbitration s).ovl = s.ovl ∧ (loseArbitration s).mkl = s.mkl ∧ (loseArbitration s).svc = s.svc ∧
    (loseArbitration s).flt = s.flt ∧ (loseArbitration s).freeCount = s.freeCount ∧ (loseArbitration s).pending = s.pending := by
  simp [loseArbitration]

@[simp] theorem bitError_keeps :
    (bitError s).timebase = s.timebase ∧ (bitError s).pins = s.pins ∧ (bitError s).resetActive = s.resetActive ∧
    (bitError s).straps = s.straps ∧ (bitError s).settings = s.settings ∧ (bitError s).chA = s.chA ∧
    (bitError s).chB = s.chB ∧ (bitError s).ptr = s.ptr ∧ (bitError s).lockA = s.lockA ∧ (bitError s).lockB = s.lockB ∧
    (bitError s).ctb = s.ctb ∧ (bitError s).csh = s.csh ∧ (bitError s).cou = s.cou ∧ (bitError s).ovl = s.ovl ∧
    (bitError s).mkl = s.mkl ∧ (bitError s).svc = s.svc ∧ (bitError s).freeCount = s.freeCount ∧
    (bitError s).pending = s.pending := by
  unfold bitError
  split <;> simp

@[simp] theorem applyOwn_keeps (f : LineFrame) (t : Time) :
    (applyOwn f t s).timebase = s.timebase ∧ (applyOwn f t s).pins = s.pins ∧ (applyOwn f t s).resetActive = s.resetActive ∧
    (applyOwn f t s).straps = s.straps ∧ (applyOwn f t s).settings = s.settings ∧ (applyOwn f t s).ptr = s.ptr ∧
    (applyOwn f t s).lockA = s.lockA ∧ (applyOwn f t s).lockB = s.lockB ∧ (applyOwn f t s).ovl = s.ovl ∧
    (applyOwn f t s).mkl = s.mkl ∧ (applyOwn f t s).svc = s.svc ∧ (applyOwn f t s).freeCount = s.freeCount ∧
    (applyOwn f t s).pending = s.pending := by
  unfold applyOwn
  split <;> simp

@[simp] theorem completeFrame_keeps :
    (completeFrame s).timebase = s.timebase ∧ (completeFrame s).pins = s.pins ∧
    (completeFrame s).resetActive = s.resetActive ∧ (completeFrame s).straps = s.straps ∧
    (completeFrame s).settings = s.settings ∧ (completeFrame s).ptr = s.ptr ∧ (completeFrame s).lockA = s.lockA ∧
    (completeFrame s).lockB = s.lockB ∧ (completeFrame s).ovl = s.ovl ∧ (completeFrame s).mkl = s.mkl ∧
    (completeFrame s).svc = s.svc ∧ (completeFrame s).freeCount = s.freeCount ∧ (completeFrame s).pending = s.pending := by
  unfold completeFrame
  split <;> simp

@[simp] theorem joinExpiry_keeps :
    (joinExpiry s).timebase = s.timebase ∧ (joinExpiry s).pins = s.pins ∧ (joinExpiry s).resetActive = s.resetActive ∧
    (joinExpiry s).straps = s.straps ∧ (joinExpiry s).settings = s.settings ∧ (joinExpiry s).chA = s.chA ∧
    (joinExpiry s).chB = s.chB ∧ (joinExpiry s).lockA = s.lockA ∧ (joinExpiry s).lockB = s.lockB ∧
    (joinExpiry s).ctb = s.ctb ∧ (joinExpiry s).csh = s.csh ∧ (joinExpiry s).cou = s.cou ∧ (joinExpiry s).ovl = s.ovl ∧
    (joinExpiry s).mkl = s.mkl ∧ (joinExpiry s).svc = s.svc ∧ (joinExpiry s).freeCount = s.freeCount ∧
    (joinExpiry s).pending = s.pending := by
  simp only [joinExpiry, guarded]
  split <;> simp

@[simp] theorem spacingExpiry_keeps :
    (spacingExpiry s).timebase = s.timebase ∧ (spacingExpiry s).pins = s.pins ∧
    (spacingExpiry s).resetActive = s.resetActive ∧ (spacingExpiry s).straps = s.straps ∧
    (spacingExpiry s).settings = s.settings ∧ (spacingExpiry s).chA = s.chA ∧ (spacingExpiry s).chB = s.chB ∧
    (spacingExpiry s).ptr = s.ptr ∧ (spacingExpiry s).lockA = s.lockA ∧ (spacingExpiry s).lockB = s.lockB ∧
    (spacingExpiry s).ctb = s.ctb ∧ (spacingExpiry s).csh = s.csh ∧ (spacingExpiry s).cou = s.cou ∧
    (spacingExpiry s).ovl = s.ovl ∧ (spacingExpiry s).mkl = s.mkl ∧ (spacingExpiry s).svc = s.svc ∧
    (spacingExpiry s).freeCount = s.freeCount ∧ (spacingExpiry s).pending = s.pending := by
  simp only [spacingExpiry, guarded]
  (repeat' split) <;> simp

/-! ## START and RESTART -/

@[simp] theorem clampRoles_keeps :
    (clampRoles s).timebase = s.timebase ∧ (clampRoles s).pins = s.pins ∧ (clampRoles s).resetActive = s.resetActive ∧
    (clampRoles s).straps = s.straps ∧ (clampRoles s).chA = s.chA ∧ (clampRoles s).chB = s.chB ∧
    (clampRoles s).ptr = s.ptr ∧ (clampRoles s).lockA = s.lockA ∧ (clampRoles s).lockB = s.lockB ∧
    (clampRoles s).ctb = s.ctb ∧ (clampRoles s).csh = s.csh ∧ (clampRoles s).cou = s.cou ∧ (clampRoles s).ovl = s.ovl ∧
    (clampRoles s).mkl = s.mkl ∧ (clampRoles s).svc = s.svc ∧ (clampRoles s).freeCount = s.freeCount ∧
    (clampRoles s).pending = s.pending := by
  simp only [clampRoles, guarded]
  split <;> simp

@[simp] theorem clampSetting_keeps (get : Settings → Nat) (set : Nat → Settings → Settings) (work : Nat → Nat) :
    (clampSetting get set work s).timebase = s.timebase ∧ (clampSetting get set work s).pins = s.pins ∧
    (clampSetting get set work s).resetActive = s.resetActive ∧ (clampSetting get set work s).straps = s.straps ∧
    (clampSetting get set work s).chA = s.chA ∧ (clampSetting get set work s).chB = s.chB ∧
    (clampSetting get set work s).ptr = s.ptr ∧ (clampSetting get set work s).lockA = s.lockA ∧
    (clampSetting get set work s).lockB = s.lockB ∧ (clampSetting get set work s).ctb = s.ctb ∧
    (clampSetting get set work s).csh = s.csh ∧ (clampSetting get set work s).cou = s.cou ∧
    (clampSetting get set work s).ovl = s.ovl ∧ (clampSetting get set work s).mkl = s.mkl ∧
    (clampSetting get set work s).svc = s.svc ∧ (clampSetting get set work s).freeCount = s.freeCount ∧
    (clampSetting get set work s).pending = s.pending := by
  simp only [clampSetting, guarded]
  split <;> simp

@[simp] theorem clampAll_keeps :
    (clampAll s).timebase = s.timebase ∧ (clampAll s).pins = s.pins ∧ (clampAll s).resetActive = s.resetActive ∧
    (clampAll s).straps = s.straps ∧ (clampAll s).chA = s.chA ∧ (clampAll s).chB = s.chB ∧ (clampAll s).ptr = s.ptr ∧
    (clampAll s).lockA = s.lockA ∧ (clampAll s).lockB = s.lockB ∧ (clampAll s).ctb = s.ctb ∧ (clampAll s).csh = s.csh ∧
    (clampAll s).cou = s.cou ∧ (clampAll s).ovl = s.ovl ∧ (clampAll s).mkl = s.mkl ∧ (clampAll s).svc = s.svc ∧
    (clampAll s).freeCount = s.freeCount ∧ (clampAll s).pending = s.pending := by
  simp [clampAll]

@[simp] theorem emptyCapture_keeps :
    (emptyCapture s).timebase = s.timebase ∧ (emptyCapture s).pins = s.pins ∧ (emptyCapture s).resetActive = s.resetActive ∧
    (emptyCapture s).straps = s.straps ∧ (emptyCapture s).settings = s.settings ∧ (emptyCapture s).clp = s.clp ∧
    (emptyCapture s).chA = s.chA ∧ (emptyCapture s).chB = s.chB ∧ (emptyCapture s).ptr = s.ptr ∧
    (emptyCapture s).lockA = s.lockA ∧ (emptyCapture s).lockB = s.lockB ∧ (emptyCapture s).ctb = s.ctb ∧
    (emptyCapture s).csh = s.csh ∧ (emptyCapture s).cou = s.cou ∧ (emptyCapture s).ovl = s.ovl ∧
    (emptyCapture s).mkl = s.mkl ∧ (emptyCapture s).flt = s.flt ∧ (emptyCapture s).freeCount = s.freeCount ∧
    (emptyCapture s).pending = s.pending := by
  simp [emptyCapture]

@[simp] theorem startLine_keeps :
    (startLine s).timebase = s.timebase ∧ (startLine s).pins = s.pins ∧ (startLine s).resetActive = s.resetActive ∧
    (startLine s).straps = s.straps ∧ (startLine s).settings = s.settings ∧ (startLine s).chA = s.chA ∧
    (startLine s).chB = s.chB ∧ (startLine s).ptr = s.ptr ∧ (startLine s).lockA = s.lockA ∧ (startLine s).lockB = s.lockB ∧
    (startLine s).ctb = s.ctb ∧ (startLine s).csh = s.csh ∧ (startLine s).cou = s.cou ∧ (startLine s).ovl = s.ovl ∧
    (startLine s).mkl = s.mkl ∧ (startLine s).svc = s.svc ∧ (startLine s).flt = s.flt ∧
    (startLine s).freeCount = s.freeCount ∧ (startLine s).pending = s.pending := by
  simp [startLine]

@[simp] theorem startPart_keeps :
    (startPart s).timebase = s.timebase ∧ (startPart s).pins = s.pins ∧ (startPart s).resetActive = s.resetActive ∧
    (startPart s).straps = s.straps ∧ (startPart s).freeCount = s.freeCount ∧ (startPart s).pending = s.pending := by
  simp [startPart]

@[simp] theorem sampleStraps_keeps (st : Straps) :
    (sampleStraps st s).timebase = s.timebase ∧ (sampleStraps st s).pins = s.pins ∧
    (sampleStraps st s).resetActive = s.resetActive ∧ (sampleStraps st s).freeCount = s.freeCount ∧
    (sampleStraps st s).pending = s.pending := by
  simp only [sampleStraps, guarded]
  (repeat' split) <;> simp

@[simp] theorem resetBlocks_keeps :
    (resetBlocks s).timebase = s.timebase ∧ (resetBlocks s).pins = s.pins ∧ (resetBlocks s).resetActive = s.resetActive ∧
    (resetBlocks s).straps = s.straps ∧ (resetBlocks s).settings = s.settings ∧ (resetBlocks s).svc = s.svc ∧
    (resetBlocks s).freeCount = s.freeCount ∧ (resetBlocks s).pending = s.pending := by
  simp [resetBlocks]

@[simp] theorem restartPart_keeps (st : Straps) :
    (restartPart st s).timebase = s.timebase ∧ (restartPart st s).pins = s.pins ∧
    (restartPart st s).resetActive = s.resetActive ∧ (restartPart st s).freeCount = s.freeCount ∧
    (restartPart st s).pending = s.pending := by
  simp [restartPart]

/-! ## The service port -/

@[simp] theorem loadResponse_keeps (a : Answer) (n : Nat) :
    (loadResponse a n s).timebase = s.timebase ∧ (loadResponse a n s).pins = s.pins ∧
    (loadResponse a n s).resetActive = s.resetActive ∧ (loadResponse a n s).straps = s.straps ∧
    (loadResponse a n s).settings = s.settings ∧ (loadResponse a n s).clp = s.clp ∧ (loadResponse a n s).chA = s.chA ∧
    (loadResponse a n s).chB = s.chB ∧ (loadResponse a n s).ptr = s.ptr ∧ (loadResponse a n s).lockA = s.lockA ∧
    (loadResponse a n s).lockB = s.lockB ∧ (loadResponse a n s).ctb = s.ctb ∧ (loadResponse a n s).csh = s.csh ∧
    (loadResponse a n s).cou = s.cou ∧ (loadResponse a n s).ovl = s.ovl ∧ (loadResponse a n s).mkl = s.mkl ∧
    (loadResponse a n s).flt = s.flt ∧ (loadResponse a n s).freeCount = s.freeCount ∧
    (loadResponse a n s).pending = s.pending := by
  simp [loadResponse]

@[simp] theorem endWatch_keeps :
    (endWatch s).timebase = s.timebase ∧ (endWatch s).pins = s.pins ∧ (endWatch s).resetActive = s.resetActive ∧
    (endWatch s).straps = s.straps ∧ (endWatch s).settings = s.settings ∧ (endWatch s).clp = s.clp ∧
    (endWatch s).chA = s.chA ∧ (endWatch s).chB = s.chB ∧ (endWatch s).ptr = s.ptr ∧ (endWatch s).lockA = s.lockA ∧
    (endWatch s).lockB = s.lockB ∧ (endWatch s).ctb = s.ctb ∧ (endWatch s).csh = s.csh ∧ (endWatch s).cou = s.cou ∧
    (endWatch s).ovl = s.ovl ∧ (endWatch s).mkl = s.mkl ∧ (endWatch s).flt = s.flt ∧ (endWatch s).freeCount = s.freeCount ∧
    (endWatch s).pending = s.pending := by
  simp [endWatch]

@[simp] theorem setPending_keeps (p : PendingCmd) :
    (setPending p s).timebase = s.timebase ∧ (setPending p s).pins = s.pins ∧ (setPending p s).resetActive = s.resetActive ∧
    (setPending p s).straps = s.straps ∧ (setPending p s).settings = s.settings ∧ (setPending p s).clp = s.clp ∧
    (setPending p s).chA = s.chA ∧ (setPending p s).chB = s.chB ∧ (setPending p s).ptr = s.ptr ∧
    (setPending p s).lockA = s.lockA ∧ (setPending p s).lockB = s.lockB ∧ (setPending p s).ctb = s.ctb ∧
    (setPending p s).csh = s.csh ∧ (setPending p s).cou = s.cou ∧ (setPending p s).ovl = s.ovl ∧
    (setPending p s).mkl = s.mkl ∧ (setPending p s).flt = s.flt ∧ (setPending p s).freeCount = s.freeCount ∧
    (setPending p s).pending = s.pending := by
  simp [setPending]

@[simp] theorem resync_keeps :
    (resync s).timebase = s.timebase ∧ (resync s).pins = s.pins ∧ (resync s).resetActive = s.resetActive ∧
    (resync s).straps = s.straps ∧ (resync s).settings = s.settings ∧ (resync s).clp = s.clp ∧ (resync s).chA = s.chA ∧
    (resync s).chB = s.chB ∧ (resync s).ptr = s.ptr ∧ (resync s).lockA = s.lockA ∧ (resync s).lockB = s.lockB ∧
    (resync s).ctb = s.ctb ∧ (resync s).csh = s.csh ∧ (resync s).cou = s.cou ∧ (resync s).ovl = s.ovl ∧
    (resync s).mkl = s.mkl ∧ (resync s).flt = s.flt ∧ (resync s).freeCount = s.freeCount ∧ (resync s).pending = s.pending := by
  simp [resync]

@[simp] theorem takeIdle_keeps :
    (takeIdle s).timebase = s.timebase ∧ (takeIdle s).pins = s.pins ∧ (takeIdle s).resetActive = s.resetActive ∧
    (takeIdle s).straps = s.straps ∧ (takeIdle s).settings = s.settings ∧ (takeIdle s).clp = s.clp ∧
    (takeIdle s).chA = s.chA ∧ (takeIdle s).chB = s.chB ∧ (takeIdle s).ptr = s.ptr ∧ (takeIdle s).lockA = s.lockA ∧
    (takeIdle s).lockB = s.lockB ∧ (takeIdle s).ctb = s.ctb ∧ (takeIdle s).csh = s.csh ∧ (takeIdle s).cou = s.cou ∧
    (takeIdle s).ovl = s.ovl ∧ (takeIdle s).mkl = s.mkl ∧ (takeIdle s).flt = s.flt ∧ (takeIdle s).pending = s.pending := by
  unfold takeIdle
  split <;> simp [refuseFree, freeData]

/-- A word that the spec does not state takes nothing but one use of the free values. -/
@[simp] theorem refuseFree_keeps :
    ((refuseFree s).1).timebase = s.timebase ∧ ((refuseFree s).1).pins = s.pins ∧
    ((refuseFree s).1).resetActive = s.resetActive ∧ ((refuseFree s).1).straps = s.straps ∧
    ((refuseFree s).1).settings = s.settings ∧ ((refuseFree s).1).clp = s.clp ∧ ((refuseFree s).1).chA = s.chA ∧
    ((refuseFree s).1).chB = s.chB ∧ ((refuseFree s).1).ptr = s.ptr ∧ ((refuseFree s).1).lockA = s.lockA ∧
    ((refuseFree s).1).lockB = s.lockB ∧ ((refuseFree s).1).ctb = s.ctb ∧ ((refuseFree s).1).csh = s.csh ∧
    ((refuseFree s).1).cou = s.cou ∧ ((refuseFree s).1).ovl = s.ovl ∧ ((refuseFree s).1).mkl = s.mkl ∧
    ((refuseFree s).1).svc = s.svc ∧ ((refuseFree s).1).flt = s.flt ∧ ((refuseFree s).1).pending = s.pending := by
  simp [refuseFree, freeData]

end Sys2Proof.Machine
end

