-- ==== Sys2Proof/Laws/LineFrames.lean ====
section
/-! SUPPORT. What each shared operation that reaches the Cue Line Port leaves unchanged there: only the transmit queue and the
status due flag change, and, where a beacon is placed, the slot and the mark on the frame in flight. -/

namespace Sys2Proof.Machine
open Sys2Proof

variable (s : State)

@[simp] theorem placeStatus_bump_line (i : FaultInfo) :
    (placeStatus (bumpFault i) s).clp.line = s.clp.line ∧ (placeStatus (bumpFault i) s).clp.rx = s.clp.rx ∧
    (placeStatus (bumpFault i) s).clp.rxCount = s.clp.rxCount ∧ (placeStatus (bumpFault i) s).clp.rxStamp = s.clp.rxStamp ∧
    (placeStatus (bumpFault i) s).clp.joinTimer = s.clp.joinTimer ∧
    (placeStatus (bumpFault i) s).clp.spacingTimer = s.clp.spacingTimer ∧
    (placeStatus (bumpFault i) s).clp.peers = s.clp.peers ∧ (placeStatus (bumpFault i) s).clp.slot = s.clp.slot ∧
    (placeStatus (bumpFault i) s).clp.inFlight = s.clp.inFlight := by
  unfold placeStatus
  split <;> simp

@[simp] theorem statusEffect_bump_line (i : FaultInfo) :
    (statusEffect (bumpFault i) s).clp.line = s.clp.line ∧ (statusEffect (bumpFault i) s).clp.rx = s.clp.rx ∧
    (statusEffect (bumpFault i) s).clp.rxCount = s.clp.rxCount ∧
    (statusEffect (bumpFault i) s).clp.rxStamp = s.clp.rxStamp ∧
    (statusEffect (bumpFault i) s).clp.joinTimer = s.clp.joinTimer ∧
    (statusEffect (bumpFault i) s).clp.spacingTimer = s.clp.spacingTimer ∧
    (statusEffect (bumpFault i) s).clp.peers = s.clp.peers ∧ (statusEffect (bumpFault i) s).clp.slot = s.clp.slot ∧
    (statusEffect (bumpFault i) s).clp.inFlight = s.clp.inFlight := by
  unfold statusEffect
  (repeat' split) <;> simp

@[simp] theorem recordFault_line (i : FaultInfo) :
    (recordFault i s).clp.line = s.clp.line ∧ (recordFault i s).clp.rx = s.clp.rx ∧
    (recordFault i s).clp.rxCount = s.clp.rxCount ∧ (recordFault i s).clp.rxStamp = s.clp.rxStamp ∧
    (recordFault i s).clp.joinTimer = s.clp.joinTimer ∧ (recordFault i s).clp.spacingTimer = s.clp.spacingTimer ∧
    (recordFault i s).clp.peers = s.clp.peers ∧ (recordFault i s).clp.slot = s.clp.slot ∧
    (recordFault i s).clp.inFlight = s.clp.inFlight := by
  unfold recordFault
  split <;> simp

@[simp] theorem statusOverflow_line :
    (statusOverflow s).clp.line = s.clp.line ∧ (statusOverflow s).clp.rx = s.clp.rx ∧
    (statusOverflow s).clp.rxCount = s.clp.rxCount ∧ (statusOverflow s).clp.rxStamp = s.clp.rxStamp ∧
    (statusOverflow s).clp.joinTimer = s.clp.joinTimer ∧ (statusOverflow s).clp.spacingTimer = s.clp.spacingTimer ∧
    (statusOverflow s).clp.peers = s.clp.peers ∧ (statusOverflow s).clp.slot = s.clp.slot ∧
    (statusOverflow s).clp.inFlight = s.clp.inFlight := by
  simp [statusOverflow]

@[simp] theorem placeStatus_overflow_line :
    (placeStatus statusOverflow s).clp.line = s.clp.line ∧ (placeStatus statusOverflow s).clp.rx = s.clp.rx ∧
    (placeStatus statusOverflow s).clp.rxCount = s.clp.rxCount ∧
    (placeStatus statusOverflow s).clp.rxStamp = s.clp.rxStamp ∧
    (placeStatus statusOverflow s).clp.joinTimer = s.clp.joinTimer ∧
    (placeStatus statusOverflow s).clp.spacingTimer = s.clp.spacingTimer ∧
    (placeStatus statusOverflow s).clp.peers = s.clp.peers ∧ (placeStatus statusOverflow s).clp.slot = s.clp.slot ∧
    (placeStatus statusOverflow s).clp.inFlight = s.clp.inFlight := by
  unfold placeStatus
  split <;> simp

@[simp] theorem statusChange_line :
    (statusChange s).clp.line = s.clp.line ∧ (statusChange s).clp.rx = s.clp.rx ∧
    (statusChange s).clp.rxCount = s.clp.rxCount ∧ (statusChange s).clp.rxStamp = s.clp.rxStamp ∧
    (statusChange s).clp.joinTimer = s.clp.joinTimer ∧ (statusChange s).clp.spacingTimer = s.clp.spacingTimer ∧
    (statusChange s).clp.peers = s.clp.peers ∧ (statusChange s).clp.slot = s.clp.slot ∧
    (statusChange s).clp.inFlight = s.clp.inFlight := by
  simp only [statusChange, statusEffect]
  (repeat' split) <;> simp

@[simp] theorem clearRecord_line :
    (clearRecord s).clp.line = s.clp.line ∧ (clearRecord s).clp.rx = s.clp.rx ∧
    (clearRecord s).clp.rxCount = s.clp.rxCount ∧ (clearRecord s).clp.rxStamp = s.clp.rxStamp ∧
    (clearRecord s).clp.joinTimer = s.clp.joinTimer ∧ (clearRecord s).clp.spacingTimer = s.clp.spacingTimer ∧
    (clearRecord s).clp.peers = s.clp.peers ∧ (clearRecord s).clp.slot = s.clp.slot ∧
    (clearRecord s).clp.inFlight = s.clp.inFlight := by
  simp only [clearRecord, guarded]
  split <;> simp

@[simp] theorem placeFrame_line (f : LineFrame) (c : Option (BitVec 6 × BitVec 12)) :
    (placeFrame f c s).clp.line = s.clp.line ∧ (placeFrame f c s).clp.rx = s.clp.rx ∧
    (placeFrame f c s).clp.rxCount = s.clp.rxCount ∧ (placeFrame f c s).clp.rxStamp = s.clp.rxStamp ∧
    (placeFrame f c s).clp.joinTimer = s.clp.joinTimer ∧ (placeFrame f c s).clp.spacingTimer = s.clp.spacingTimer ∧
    (placeFrame f c s).clp.peers = s.clp.peers ∧ (placeFrame f c s).clp.slot = s.clp.slot ∧
    (placeFrame f c s).clp.inFlight = s.clp.inFlight := by
  unfold placeFrame
  (repeat' split) <;> simp

@[simp] theorem placePunch_line (e : BitVec 1) (d : CueDef) (r : BitVec 2) (q : Option Int) :
    (placePunch e d r q s).clp.line = s.clp.line ∧ (placePunch e d r q s).clp.rx = s.clp.rx ∧
    (placePunch e d r q s).clp.rxCount = s.clp.rxCount ∧ (placePunch e d r q s).clp.rxStamp = s.clp.rxStamp ∧
    (placePunch e d r q s).clp.joinTimer = s.clp.joinTimer ∧ (placePunch e d r q s).clp.spacingTimer = s.clp.spacingTimer ∧
    (placePunch e d r q s).clp.peers = s.clp.peers ∧ (placePunch e d r q s).clp.slot = s.clp.slot ∧
    (placePunch e d r q s).clp.inFlight = s.clp.inFlight := by
  simp [placePunch]

@[simp] theorem openPunch_line (c : Chan) (d : CueDef) (q : Option Int) :
    (openPunch c d q s).clp.line = s.clp.line ∧ (openPunch c d q s).clp.rx = s.clp.rx ∧
    (openPunch c d q s).clp.rxCount = s.clp.rxCount ∧ (openPunch c d q s).clp.rxStamp = s.clp.rxStamp ∧
    (openPunch c d q s).clp.joinTimer = s.clp.joinTimer ∧ (openPunch c d q s).clp.spacingTimer = s.clp.spacingTimer ∧
    (openPunch c d q s).clp.peers = s.clp.peers ∧ (openPunch c d q s).clp.slot = s.clp.slot ∧
    (openPunch c d q s).clp.inFlight = s.clp.inFlight := by
  unfold openPunch
  split <;> simp

@[simp] theorem closePunch_line (c : Chan) (d : CueDef) (r : BitVec 2) (q : Option Int) :
    (closePunch c d r q s).clp.line = s.clp.line ∧ (closePunch c d r q s).clp.rx = s.clp.rx ∧
    (closePunch c d r q s).clp.rxCount = s.clp.rxCount ∧ (closePunch c d r q s).clp.rxStamp = s.clp.rxStamp ∧
    (closePunch c d r q s).clp.joinTimer = s.clp.joinTimer ∧ (closePunch c d r q s).clp.spacingTimer = s.clp.spacingTimer ∧
    (closePunch c d r q s).clp.peers = s.clp.peers ∧ (closePunch c d r q s).clp.slot = s.clp.slot ∧
    (closePunch c d r q s).clp.inFlight = s.clp.inFlight := by
  unfold closePunch
  split <;> simp

@[simp] theorem closeCuePunch_line (d : CueDef) (r : BitVec 2) (q : Option Int) :
    (closeCuePunch d r q s).clp.line = s.clp.line ∧ (closeCuePunch d r q s).clp.rx = s.clp.rx ∧
    (closeCuePunch d r q s).clp.rxCount = s.clp.rxCount ∧ (closeCuePunch d r q s).clp.rxStamp = s.clp.rxStamp ∧
    (closeCuePunch d r q s).clp.joinTimer = s.clp.joinTimer ∧
    (closeCuePunch d r q s).clp.spacingTimer = s.clp.spacingTimer ∧ (closeCuePunch d r q s).clp.peers = s.clp.peers ∧
    (closeCuePunch d r q s).clp.slot = s.clp.slot ∧ (closeCuePunch d r q s).clp.inFlight = s.clp.inFlight := by
  unfold closeCuePunch
  split <;> simp

@[simp] theorem dropPunch_line (c : Chan) (i : Nat) :
    (dropPunch c i s).clp.line = s.clp.line ∧ (dropPunch c i s).clp.rx = s.clp.rx ∧
    (dropPunch c i s).clp.rxCount = s.clp.rxCount ∧ (dropPunch c i s).clp.rxStamp = s.clp.rxStamp ∧
    (dropPunch c i s).clp.joinTimer = s.clp.joinTimer ∧ (dropPunch c i s).clp.spacingTimer = s.clp.spacingTimer ∧
    (dropPunch c i s).clp.peers = s.clp.peers ∧ (dropPunch c i s).clp.slot = s.clp.slot ∧
    (dropPunch c i s).clp.inFlight = s.clp.inFlight := by
  unfold dropPunch
  (repeat' split) <;> simp

@[simp] theorem syncLost_line (c : Chan) :
    (syncLost c s).clp.line = s.clp.line ∧ (syncLost c s).clp.rx = s.clp.rx ∧ (syncLost c s).clp.rxCount = s.clp.rxCount ∧
    (syncLost c s).clp.rxStamp = s.clp.rxStamp ∧ (syncLost c s).clp.joinTimer = s.clp.joinTimer ∧
    (syncLost c s).clp.spacingTimer = s.clp.spacingTimer ∧ (syncLost c s).clp.peers = s.clp.peers ∧
    (syncLost c s).clp.slot = s.clp.slot ∧ (syncLost c s).clp.inFlight = s.clp.inFlight := by
  unfold syncLost
  exact ⟨forIndexes_same (fun s : State => s.clp.line) _ (fun _ _ => by simp) _ _,
    forIndexes_same (fun s : State => s.clp.rx) _ (fun _ _ => by simp) _ _,
    forIndexes_same (fun s : State => s.clp.rxCount) _ (fun _ _ => by simp) _ _,
    forIndexes_same (fun s : State => s.clp.rxStamp) _ (fun _ _ => by simp) _ _,
    forIndexes_same (fun s : State => s.clp.joinTimer) _ (fun _ _ => by simp) _ _,
    forIndexes_same (fun s : State => s.clp.spacingTimer) _ (fun _ _ => by simp) _ _,
    forIndexes_same (fun s : State => s.clp.peers) _ (fun _ _ => by simp) _ _,
    forIndexes_same (fun s : State => s.clp.slot) _ (fun _ _ => by simp) _ _,
    forIndexes_same (fun s : State => s.clp.inFlight) _ (fun _ _ => by simp) _ _⟩

@[simp] theorem endRun_line (r : RunState) (i : Nat) :
    (endRun r i s).clp.line = s.clp.line ∧ (endRun r i s).clp.rx = s.clp.rx ∧ (endRun r i s).clp.rxCount = s.clp.rxCount ∧
    (endRun r i s).clp.rxStamp = s.clp.rxStamp ∧ (endRun r i s).clp.joinTimer = s.clp.joinTimer ∧
    (endRun r i s).clp.spacingTimer = s.clp.spacingTimer ∧ (endRun r i s).clp.peers = s.clp.peers ∧
    (endRun r i s).clp.slot = s.clp.slot ∧ (endRun r i s).clp.inFlight = s.clp.inFlight := by
  unfold endRun
  (repeat' split) <;> simp

@[simp] theorem interruptAll_line :
    (interruptAll s).clp.line = s.clp.line ∧ (interruptAll s).clp.rx = s.clp.rx ∧
    (interruptAll s).clp.rxCount = s.clp.rxCount ∧ (interruptAll s).clp.rxStamp = s.clp.rxStamp ∧
    (interruptAll s).clp.joinTimer = s.clp.joinTimer ∧ (interruptAll s).clp.spacingTimer = s.clp.spacingTimer ∧
    (interruptAll s).clp.peers = s.clp.peers ∧ (interruptAll s).clp.slot = s.clp.slot ∧
    (interruptAll s).clp.inFlight = s.clp.inFlight := by
  unfold interruptAll
  exact ⟨forIndexes_same (fun s : State => s.clp.line) _ (fun _ _ => by simp) _ _,
    forIndexes_same (fun s : State => s.clp.rx) _ (fun _ _ => by simp) _ _,
    forIndexes_same (fun s : State => s.clp.rxCount) _ (fun _ _ => by simp) _ _,
    forIndexes_same (fun s : State => s.clp.rxStamp) _ (fun _ _ => by simp) _ _,
    forIndexes_same (fun s : State => s.clp.joinTimer) _ (fun _ _ => by simp) _ _,
    forIndexes_same (fun s : State => s.clp.spacingTimer) _ (fun _ _ => by simp) _ _,
    forIndexes_same (fun s : State => s.clp.peers) _ (fun _ _ => by simp) _ _,
    forIndexes_same (fun s : State => s.clp.slot) _ (fun _ _ => by simp) _ _,
    forIndexes_same (fun s : State => s.clp.inFlight) _ (fun _ _ => by simp) _ _⟩

@[simp] theorem disarmEntry_line (i : Nat) :
    (disarmEntry i s).clp.line = s.clp.line ∧ (disarmEntry i s).clp.rx = s.clp.rx ∧
    (disarmEntry i s).clp.rxCount = s.clp.rxCount ∧ (disarmEntry i s).clp.rxStamp = s.clp.rxStamp ∧
    (disarmEntry i s).clp.joinTimer = s.clp.joinTimer ∧ (disarmEntry i s).clp.spacingTimer = s.clp.spacingTimer ∧
    (disarmEntry i s).clp.peers = s.clp.peers ∧ (disarmEntry i s).clp.slot = s.clp.slot ∧
    (disarmEntry i s).clp.inFlight = s.clp.inFlight := by
  unfold disarmEntry
  (repeat' split) <;> simp

@[simp] theorem firePunchIn_line (q : Option Int) (i : Nat) (d : CueDef) :
    (firePunchIn q i d s).clp.line = s.clp.line ∧ (firePunchIn q i d s).clp.rx = s.clp.rx ∧
    (firePunchIn q i d s).clp.rxCount = s.clp.rxCount ∧ (firePunchIn q i d s).clp.rxStamp = s.clp.rxStamp ∧
    (firePunchIn q i d s).clp.joinTimer = s.clp.joinTimer ∧ (firePunchIn q i d s).clp.spacingTimer = s.clp.spacingTimer ∧
    (firePunchIn q i d s).clp.peers = s.clp.peers ∧ (firePunchIn q i d s).clp.slot = s.clp.slot ∧
    (firePunchIn q i d s).clp.inFlight = s.clp.inFlight := by
  unfold firePunchIn
  (repeat' split) <;> simp

@[simp] theorem firePunchOut_line (q : Option Int) (i : Nat) (e : CueEntry) :
    (firePunchOut q i e s).clp.line = s.clp.line ∧ (firePunchOut q i e s).clp.rx = s.clp.rx ∧
    (firePunchOut q i e s).clp.rxCount = s.clp.rxCount ∧ (firePunchOut q i e s).clp.rxStamp = s.clp.rxStamp ∧
    (firePunchOut q i e s).clp.joinTimer = s.clp.joinTimer ∧ (firePunchOut q i e s).clp.spacingTimer = s.clp.spacingTimer ∧
    (firePunchOut q i e s).clp.peers = s.clp.peers ∧ (firePunchOut q i e s).clp.slot = s.clp.slot ∧
    (firePunchOut q i e s).clp.inFlight = s.clp.inFlight := by
  unfold firePunchOut
  split <;> simp

@[simp] theorem fireSpanEnd_line (q : Option Int) (i : Nat) (e : CueEntry) :
    (fireSpanEnd q i e s).clp.line = s.clp.line ∧ (fireSpanEnd q i e s).clp.rx = s.clp.rx ∧
    (fireSpanEnd q i e s).clp.rxCount = s.clp.rxCount ∧ (fireSpanEnd q i e s).clp.rxStamp = s.clp.rxStamp ∧
    (fireSpanEnd q i e s).clp.joinTimer = s.clp.joinTimer ∧ (fireSpanEnd q i e s).clp.spacingTimer = s.clp.spacingTimer ∧
    (fireSpanEnd q i e s).clp.peers = s.clp.peers ∧ (fireSpanEnd q i e s).clp.slot = s.clp.slot ∧
    (fireSpanEnd q i e s).clp.inFlight = s.clp.inFlight := by
  unfold fireSpanEnd
  (repeat' split) <;> simp

@[simp] theorem elementAction_line (q : Option Int) (i : Nat) (e : CueEntry) (el : Element) :
    (elementAction q i e el s).clp.line = s.clp.line ∧ (elementAction q i e el s).clp.rx = s.clp.rx ∧
    (elementAction q i e el s).clp.rxCount = s.clp.rxCount ∧ (elementAction q i e el s).clp.rxStamp = s.clp.rxStamp ∧
    (elementAction q i e el s).clp.joinTimer = s.clp.joinTimer ∧
    (elementAction q i e el s).clp.spacingTimer = s.clp.spacingTimer ∧ (elementAction q i e el s).clp.peers = s.clp.peers ∧
    (elementAction q i e el s).clp.slot = s.clp.slot ∧ (elementAction q i e el s).clp.inFlight = s.clp.inFlight := by
  cases el <;> simp [elementAction]

@[simp] theorem fireElement_line (q : Option Int) (i : Nat) (el : Element) :
    (fireElement q i el s).clp.line = s.clp.line ∧ (fireElement q i el s).clp.rx = s.clp.rx ∧
    (fireElement q i el s).clp.rxCount = s.clp.rxCount ∧ (fireElement q i el s).clp.rxStamp = s.clp.rxStamp ∧
    (fireElement q i el s).clp.joinTimer = s.clp.joinTimer ∧ (fireElement q i el s).clp.spacingTimer = s.clp.spacingTimer ∧
    (fireElement q i el s).clp.peers = s.clp.peers ∧ (fireElement q i el s).clp.slot = s.clp.slot ∧
    (fireElement q i el s).clp.inFlight = s.clp.inFlight := by
  unfold fireElement
  (repeat' split) <;> simp

@[simp] theorem lateTurn_line (q : Option Int) (d : Due) :
    (lateTurn q d s).clp.line = s.clp.line ∧ (lateTurn q d s).clp.rx = s.clp.rx ∧
    (lateTurn q d s).clp.rxCount = s.clp.rxCount ∧ (lateTurn q d s).clp.rxStamp = s.clp.rxStamp ∧
    (lateTurn q d s).clp.joinTimer = s.clp.joinTimer ∧ (lateTurn q d s).clp.spacingTimer = s.clp.spacingTimer ∧
    (lateTurn q d s).clp.peers = s.clp.peers ∧ (lateTurn q d s).clp.slot = s.clp.slot ∧
    (lateTurn q d s).clp.inFlight = s.clp.inFlight := by
  unfold lateTurn
  dsimp only
  (repeat' split) <;> simp

@[simp] theorem lateFiring_line (b : Int) :
    (lateFiring b s).clp.line = s.clp.line ∧ (lateFiring b s).clp.rx = s.clp.rx ∧
    (lateFiring b s).clp.rxCount = s.clp.rxCount ∧ (lateFiring b s).clp.rxStamp = s.clp.rxStamp ∧
    (lateFiring b s).clp.joinTimer = s.clp.joinTimer ∧ (lateFiring b s).clp.spacingTimer = s.clp.spacingTimer ∧
    (lateFiring b s).clp.peers = s.clp.peers ∧ (lateFiring b s).clp.slot = s.clp.slot ∧
    (lateFiring b s).clp.inFlight = s.clp.inFlight := by
  unfold lateFiring
  exact ⟨foldl_same (fun s : State => s.clp.line) _ (fun _ _ => by simp) _ _,
    foldl_same (fun s : State => s.clp.rx) _ (fun _ _ => by simp) _ _,
    foldl_same (fun s : State => s.clp.rxCount) _ (fun _ _ => by simp) _ _,
    foldl_same (fun s : State => s.clp.rxStamp) _ (fun _ _ => by simp) _ _,
    foldl_same (fun s : State => s.clp.joinTimer) _ (fun _ _ => by simp) _ _,
    foldl_same (fun s : State => s.clp.spacingTimer) _ (fun _ _ => by simp) _ _,
    foldl_same (fun s : State => s.clp.peers) _ (fun _ _ => by simp) _ _,
    foldl_same (fun s : State => s.clp.slot) _ (fun _ _ => by simp) _ _,
    foldl_same (fun s : State => s.clp.inFlight) _ (fun _ _ => by simp) _ _⟩

@[simp] theorem fireReached_line (d : Due) :
    (fireReached d s).clp.line = s.clp.line ∧ (fireReached d s).clp.rx = s.clp.rx ∧
    (fireReached d s).clp.rxCount = s.clp.rxCount ∧ (fireReached d s).clp.rxStamp = s.clp.rxStamp ∧
    (fireReached d s).clp.joinTimer = s.clp.joinTimer ∧ (fireReached d s).clp.spacingTimer = s.clp.spacingTimer ∧
    (fireReached d s).clp.peers = s.clp.peers ∧ (fireReached d s).clp.slot = s.clp.slot ∧
    (fireReached d s).clp.inFlight = s.clp.inFlight := by
  unfold fireReached
  split <;> simp

@[simp] theorem listing_line (b : Int) (t : Time) (n : Nat) :
    (listing b t n s).clp.line = s.clp.line ∧ (listing b t n s).clp.rx = s.clp.rx ∧
    (listing b t n s).clp.rxCount = s.clp.rxCount ∧ (listing b t n s).clp.rxStamp = s.clp.rxStamp ∧
    (listing b t n s).clp.joinTimer = s.clp.joinTimer ∧ (listing b t n s).clp.spacingTimer = s.clp.spacingTimer ∧
    (listing b t n s).clp.peers = s.clp.peers ∧ (listing b t n s).clp.slot = s.clp.slot ∧
    (listing b t n s).clp.inFlight = s.clp.inFlight := by
  unfold listing
  exact ⟨(foldl_same (fun s : State => s.clp.line) _ (fun _ _ => by simp) _ _).trans (by simp),
    (foldl_same (fun s : State => s.clp.rx) _ (fun _ _ => by simp) _ _).trans (by simp),
    (foldl_same (fun s : State => s.clp.rxCount) _ (fun _ _ => by simp) _ _).trans (by simp),
    (foldl_same (fun s : State => s.clp.rxStamp) _ (fun _ _ => by simp) _ _).trans (by simp),
    (foldl_same (fun s : State => s.clp.joinTimer) _ (fun _ _ => by simp) _ _).trans (by simp),
    (foldl_same (fun s : State => s.clp.spacingTimer) _ (fun _ _ => by simp) _ _).trans (by simp),
    (foldl_same (fun s : State => s.clp.peers) _ (fun _ _ => by simp) _ _).trans (by simp),
    (foldl_same (fun s : State => s.clp.slot) _ (fun _ _ => by simp) _ _).trans (by simp),
    (foldl_same (fun s : State => s.clp.inFlight) _ (fun _ _ => by simp) _ _).trans (by simp)⟩

@[simp] theorem boundaryList_line (r : BRec) :
    (boundaryList r s).clp.line = s.clp.line ∧ (boundaryList r s).clp.rx = s.clp.rx ∧
    (boundaryList r s).clp.rxCount = s.clp.rxCount ∧ (boundaryList r s).clp.rxStamp = s.clp.rxStamp ∧
    (boundaryList r s).clp.joinTimer = s.clp.joinTimer ∧ (boundaryList r s).clp.spacingTimer = s.clp.spacingTimer ∧
    (boundaryList r s).clp.peers = s.clp.peers ∧ (boundaryList r s).clp.slot = s.clp.slot ∧
    (boundaryList r s).clp.inFlight = s.clp.inFlight := by
  unfold boundaryList
  split
  · simp
  · exact ⟨forIndexes_same (fun s : State => s.clp.line) _ (fun _ _ => by simp) _ _,
    forIndexes_same (fun s : State => s.clp.rx) _ (fun _ _ => by simp) _ _,
    forIndexes_same (fun s : State => s.clp.rxCount) _ (fun _ _ => by simp) _ _,
    forIndexes_same (fun s : State => s.clp.rxStamp) _ (fun _ _ => by simp) _ _,
    forIndexes_same (fun s : State => s.clp.joinTimer) _ (fun _ _ => by simp) _ _,
    forIndexes_same (fun s : State => s.clp.spacingTimer) _ (fun _ _ => by simp) _ _,
    forIndexes_same (fun s : State => s.clp.peers) _ (fun _ _ => by simp) _ _,
    forIndexes_same (fun s : State => s.clp.slot) _ (fun _ _ => by simp) _ _,
    forIndexes_same (fun s : State => s.clp.inFlight) _ (fun _ _ => by simp) _ _⟩

@[simp] theorem takeBoundary_line (r : BRec) :
    (takeBoundary r s).clp.line = s.clp.line ∧ (takeBoundary r s).clp.rx = s.clp.rx ∧
    (takeBoundary r s).clp.rxCount = s.clp.rxCount ∧ (takeBoundary r s).clp.rxStamp = s.clp.rxStamp ∧
    (takeBoundary r s).clp.joinTimer = s.clp.joinTimer ∧ (takeBoundary r s).clp.spacingTimer = s.clp.spacingTimer ∧
    (takeBoundary r s).clp.peers = s.clp.peers ∧ (takeBoundary r s).clp.slot = s.clp.slot ∧
    (takeBoundary r s).clp.inFlight = s.clp.inFlight := by
  unfold takeBoundary
  split
  · simp
  split
  · exact ⟨(forIndexes_same (fun s : State => s.clp.line) _ (fun _ _ => by simp) _ _).trans (by simp),
    (forIndexes_same (fun s : State => s.clp.rx) _ (fun _ _ => by simp) _ _).trans (by simp),
    (forIndexes_same (fun s : State => s.clp.rxCount) _ (fun _ _ => by simp) _ _).trans (by simp),
    (forIndexes_same (fun s : State => s.clp.rxStamp) _ (fun _ _ => by simp) _ _).trans (by simp),
    (forIndexes_same (fun s : State => s.clp.joinTimer) _ (fun _ _ => by simp) _ _).trans (by simp),
    (forIndexes_same (fun s : State => s.clp.spacingTimer) _ (fun _ _ => by simp) _ _).trans (by simp),
    (forIndexes_same (fun s : State => s.clp.peers) _ (fun _ _ => by simp) _ _).trans (by simp),
    (forIndexes_same (fun s : State => s.clp.slot) _ (fun _ _ => by simp) _ _).trans (by simp),
    (forIndexes_same (fun s : State => s.clp.inFlight) _ (fun _ _ => by simp) _ _).trans (by simp)⟩
  · simp

@[simp] theorem takeHold_line :
    (takeHold s).clp.line = s.clp.line ∧ (takeHold s).clp.rx = s.clp.rx ∧ (takeHold s).clp.rxCount = s.clp.rxCount ∧
    (takeHold s).clp.rxStamp = s.clp.rxStamp ∧ (takeHold s).clp.joinTimer = s.clp.joinTimer ∧
    (takeHold s).clp.spacingTimer = s.clp.spacingTimer ∧ (takeHold s).clp.peers = s.clp.peers ∧
    (takeHold s).clp.slot = s.clp.slot ∧ (takeHold s).clp.inFlight = s.clp.inFlight := by
  unfold takeHold
  split <;> simp

@[simp] theorem schedulerReport_line (r : Report) :
    (schedulerReport r s).clp.line = s.clp.line ∧ (schedulerReport r s).clp.rx = s.clp.rx ∧
    (schedulerReport r s).clp.rxCount = s.clp.rxCount ∧ (schedulerReport r s).clp.rxStamp = s.clp.rxStamp ∧
    (schedulerReport r s).clp.joinTimer = s.clp.joinTimer ∧ (schedulerReport r s).clp.spacingTimer = s.clp.spacingTimer ∧
    (schedulerReport r s).clp.peers = s.clp.peers ∧ (schedulerReport r s).clp.slot = s.clp.slot ∧
    (schedulerReport r s).clp.inFlight = s.clp.inFlight := by
  unfold schedulerReport
  split <;> simp

@[simp] theorem haltScheduler_line :
    (haltScheduler s).clp.line = s.clp.line ∧ (haltScheduler s).clp.rx = s.clp.rx ∧
    (haltScheduler s).clp.rxCount = s.clp.rxCount ∧ (haltScheduler s).clp.rxStamp = s.clp.rxStamp ∧
    (haltScheduler s).clp.joinTimer = s.clp.joinTimer ∧ (haltScheduler s).clp.spacingTimer = s.clp.spacingTimer ∧
    (haltScheduler s).clp.peers = s.clp.peers ∧ (haltScheduler s).clp.slot = s.clp.slot ∧
    (haltScheduler s).clp.inFlight = s.clp.inFlight := by
  simp [haltScheduler]

@[simp] theorem disarmCue_line (r : BitVec 6) (n : BitVec 12) :
    (disarmCue r n s).clp.line = s.clp.line ∧ (disarmCue r n s).clp.rx = s.clp.rx ∧
    (disarmCue r n s).clp.rxCount = s.clp.rxCount ∧ (disarmCue r n s).clp.rxStamp = s.clp.rxStamp ∧
    (disarmCue r n s).clp.joinTimer = s.clp.joinTimer ∧ (disarmCue r n s).clp.spacingTimer = s.clp.spacingTimer ∧
    (disarmCue r n s).clp.peers = s.clp.peers ∧ (disarmCue r n s).clp.slot = s.clp.slot ∧
    (disarmCue r n s).clp.inFlight = s.clp.inFlight := by
  unfold disarmCue
  split <;> simp

@[simp] theorem disarmAll_line :
    (disarmAll s).clp.line = s.clp.line ∧ (disarmAll s).clp.rx = s.clp.rx ∧ (disarmAll s).clp.rxCount = s.clp.rxCount ∧
    (disarmAll s).clp.rxStamp = s.clp.rxStamp ∧ (disarmAll s).clp.joinTimer = s.clp.joinTimer ∧
    (disarmAll s).clp.spacingTimer = s.clp.spacingTimer ∧ (disarmAll s).clp.peers = s.clp.peers ∧
    (disarmAll s).clp.slot = s.clp.slot ∧ (disarmAll s).clp.inFlight = s.clp.inFlight := by
  unfold disarmAll
  exact ⟨forIndexes_same (fun s : State => s.clp.line) _ (fun _ _ => by simp) _ _,
    forIndexes_same (fun s : State => s.clp.rx) _ (fun _ _ => by simp) _ _,
    forIndexes_same (fun s : State => s.clp.rxCount) _ (fun _ _ => by simp) _ _,
    forIndexes_same (fun s : State => s.clp.rxStamp) _ (fun _ _ => by simp) _ _,
    forIndexes_same (fun s : State => s.clp.joinTimer) _ (fun _ _ => by simp) _ _,
    forIndexes_same (fun s : State => s.clp.spacingTimer) _ (fun _ _ => by simp) _ _,
    forIndexes_same (fun s : State => s.clp.peers) _ (fun _ _ => by simp) _ _,
    forIndexes_same (fun s : State => s.clp.slot) _ (fun _ _ => by simp) _ _,
    forIndexes_same (fun s : State => s.clp.inFlight) _ (fun _ _ => by simp) _ _⟩

@[simp] theorem abortPunch_line (i : Nat) :
    (abortPunch i s).clp.line = s.clp.line ∧ (abortPunch i s).clp.rx = s.clp.rx ∧
    (abortPunch i s).clp.rxCount = s.clp.rxCount ∧ (abortPunch i s).clp.rxStamp = s.clp.rxStamp ∧
    (abortPunch i s).clp.joinTimer = s.clp.joinTimer ∧ (abortPunch i s).clp.spacingTimer = s.clp.spacingTimer ∧
    (abortPunch i s).clp.peers = s.clp.peers ∧ (abortPunch i s).clp.slot = s.clp.slot ∧
    (abortPunch i s).clp.inFlight = s.clp.inFlight := by
  unfold abortPunch
  (repeat' split) <;> simp

@[simp] theorem setMode_line (m : Mode) :
    (setMode m s).clp.line = s.clp.line ∧ (setMode m s).clp.rx = s.clp.rx ∧ (setMode m s).clp.rxCount = s.clp.rxCount ∧
    (setMode m s).clp.rxStamp = s.clp.rxStamp ∧ (setMode m s).clp.joinTimer = s.clp.joinTimer ∧
    (setMode m s).clp.spacingTimer = s.clp.spacingTimer ∧ (setMode m s).clp.peers = s.clp.peers ∧
    (setMode m s).clp.slot = s.clp.slot ∧ (setMode m s).clp.inFlight = s.clp.inFlight := by
  unfold setMode
  split
  · simp
  dsimp only
  split
  · exact ⟨(forIndexes_same (fun s : State => s.clp.line) _ (fun _ _ => by simp) _ _).trans (by simp),
    (forIndexes_same (fun s : State => s.clp.rx) _ (fun _ _ => by simp) _ _).trans (by simp),
    (forIndexes_same (fun s : State => s.clp.rxCount) _ (fun _ _ => by simp) _ _).trans (by simp),
    (forIndexes_same (fun s : State => s.clp.rxStamp) _ (fun _ _ => by simp) _ _).trans (by simp),
    (forIndexes_same (fun s : State => s.clp.joinTimer) _ (fun _ _ => by simp) _ _).trans (by simp),
    (forIndexes_same (fun s : State => s.clp.spacingTimer) _ (fun _ _ => by simp) _ _).trans (by simp),
    (forIndexes_same (fun s : State => s.clp.peers) _ (fun _ _ => by simp) _ _).trans (by simp),
    (forIndexes_same (fun s : State => s.clp.slot) _ (fun _ _ => by simp) _ _).trans (by simp),
    (forIndexes_same (fun s : State => s.clp.inFlight) _ (fun _ _ => by simp) _ _).trans (by simp)⟩
  · simp

@[simp] theorem setLock_line (c : Chan) (l : LockState) :
    (setLock c l s).clp.line = s.clp.line ∧ (setLock c l s).clp.rx = s.clp.rx ∧
    (setLock c l s).clp.rxCount = s.clp.rxCount ∧ (setLock c l s).clp.rxStamp = s.clp.rxStamp ∧
    (setLock c l s).clp.joinTimer = s.clp.joinTimer ∧ (setLock c l s).clp.spacingTimer = s.clp.spacingTimer ∧
    (setLock c l s).clp.peers = s.clp.peers ∧ (setLock c l s).clp.slot = s.clp.slot ∧
    (setLock c l s).clp.inFlight = s.clp.inFlight := by
  simp only [setLock, guarded]
  split <;> simp

@[simp] theorem unlock_line (c : Chan) :
    (unlock c s).clp.line = s.clp.line ∧ (unlock c s).clp.rx = s.clp.rx ∧ (unlock c s).clp.rxCount = s.clp.rxCount ∧
    (unlock c s).clp.rxStamp = s.clp.rxStamp ∧ (unlock c s).clp.joinTimer = s.clp.joinTimer ∧
    (unlock c s).clp.spacingTimer = s.clp.spacingTimer ∧ (unlock c s).clp.peers = s.clp.peers ∧
    (unlock c s).clp.slot = s.clp.slot ∧ (unlock c s).clp.inFlight = s.clp.inFlight := by
  unfold unlock
  split <;> simp

@[simp] theorem countChasing_line (c : Chan) (g : Bool) :
    (countChasing c g s).clp.line = s.clp.line ∧ (countChasing c g s).clp.rx = s.clp.rx ∧
    (countChasing c g s).clp.rxCount = s.clp.rxCount ∧ (countChasing c g s).clp.rxStamp = s.clp.rxStamp ∧
    (countChasing c g s).clp.joinTimer = s.clp.joinTimer ∧ (countChasing c g s).clp.spacingTimer = s.clp.spacingTimer ∧
    (countChasing c g s).clp.peers = s.clp.peers ∧ (countChasing c g s).clp.slot = s.clp.slot ∧
    (countChasing c g s).clp.inFlight = s.clp.inFlight := by
  unfold countChasing
  (repeat' split) <;> simp

@[simp] theorem countSync_line (c : Chan) (g : Bool) :
    (countSync c g s).clp.line = s.clp.line ∧ (countSync c g s).clp.rx = s.clp.rx ∧
    (countSync c g s).clp.rxCount = s.clp.rxCount ∧ (countSync c g s).clp.rxStamp = s.clp.rxStamp ∧
    (countSync c g s).clp.joinTimer = s.clp.joinTimer ∧ (countSync c g s).clp.spacingTimer = s.clp.spacingTimer ∧
    (countSync c g s).clp.peers = s.clp.peers ∧ (countSync c g s).clp.slot = s.clp.slot ∧
    (countSync c g s).clp.inFlight = s.clp.inFlight := by
  unfold countSync
  (repeat' split) <;> simp

@[simp] theorem measure_line (c : Chan) (b p : Int) :
    (measure c b p s).clp.line = s.clp.line ∧ (measure c b p s).clp.rx = s.clp.rx ∧
    (measure c b p s).clp.rxCount = s.clp.rxCount ∧ (measure c b p s).clp.rxStamp = s.clp.rxStamp ∧
    (measure c b p s).clp.joinTimer = s.clp.joinTimer ∧ (measure c b p s).clp.spacingTimer = s.clp.spacingTimer ∧
    (measure c b p s).clp.peers = s.clp.peers ∧ (measure c b p s).clp.slot = s.clp.slot ∧
    (measure c b p s).clp.inFlight = s.clp.inFlight := by
  unfold measure
  dsimp only
  split <;> simp

@[simp] theorem lockBoundary_line (c : Chan) (r : BRec) :
    (lockBoundary c r s).clp.line = s.clp.line ∧ (lockBoundary c r s).clp.rx = s.clp.rx ∧
    (lockBoundary c r s).clp.rxCount = s.clp.rxCount ∧ (lockBoundary c r s).clp.rxStamp = s.clp.rxStamp ∧
    (lockBoundary c r s).clp.joinTimer = s.clp.joinTimer ∧ (lockBoundary c r s).clp.spacingTimer = s.clp.spacingTimer ∧
    (lockBoundary c r s).clp.peers = s.clp.peers ∧ (lockBoundary c r s).clp.slot = s.clp.slot ∧
    (lockBoundary c r s).clp.inFlight = s.clp.inFlight := by
  unfold lockBoundary
  (repeat' split) <;> simp

@[simp] theorem lockMotion_line (c : Chan) :
    (lockMotion c s).clp.line = s.clp.line ∧ (lockMotion c s).clp.rx = s.clp.rx ∧
    (lockMotion c s).clp.rxCount = s.clp.rxCount ∧ (lockMotion c s).clp.rxStamp = s.clp.rxStamp ∧
    (lockMotion c s).clp.joinTimer = s.clp.joinTimer ∧ (lockMotion c s).clp.spacingTimer = s.clp.spacingTimer ∧
    (lockMotion c s).clp.peers = s.clp.peers ∧ (lockMotion c s).clp.slot = s.clp.slot ∧
    (lockMotion c s).clp.inFlight = s.clp.inFlight := by
  unfold lockMotion
  (repeat' split) <;> simp

@[simp] theorem lockReport_line (r : Report) (c : Chan) :
    (lockReport r c s).clp.line = s.clp.line ∧ (lockReport r c s).clp.rx = s.clp.rx ∧
    (lockReport r c s).clp.rxCount = s.clp.rxCount ∧ (lockReport r c s).clp.rxStamp = s.clp.rxStamp ∧
    (lockReport r c s).clp.joinTimer = s.clp.joinTimer ∧ (lockReport r c s).clp.spacingTimer = s.clp.spacingTimer ∧
    (lockReport r c s).clp.peers = s.clp.peers ∧ (lockReport r c s).clp.slot = s.clp.slot ∧
    (lockReport r c s).clp.inFlight = s.clp.inFlight := by
  unfold lockReport
  (repeat' split) <;> simp

@[simp] theorem deliverReport_line (r : Report) :
    (deliverReport r s).clp.line = s.clp.line ∧ (deliverReport r s).clp.rx = s.clp.rx ∧
    (deliverReport r s).clp.rxCount = s.clp.rxCount ∧ (deliverReport r s).clp.rxStamp = s.clp.rxStamp ∧
    (deliverReport r s).clp.joinTimer = s.clp.joinTimer ∧ (deliverReport r s).clp.spacingTimer = s.clp.spacingTimer ∧
    (deliverReport r s).clp.peers = s.clp.peers ∧ (deliverReport r s).clp.slot = s.clp.slot ∧
    (deliverReport r s).clp.inFlight = s.clp.inFlight := by
  simp [deliverReport]

@[simp] theorem deliverReports_line (l : List Report) :
    (l.foldl (fun s r => deliverReport r s) s).clp.line = s.clp.line ∧
    (l.foldl (fun s r => deliverReport r s) s).clp.rx = s.clp.rx ∧
    (l.foldl (fun s r => deliverReport r s) s).clp.rxCount = s.clp.rxCount ∧
    (l.foldl (fun s r => deliverReport r s) s).clp.rxStamp = s.clp.rxStamp ∧
    (l.foldl (fun s r => deliverReport r s) s).clp.joinTimer = s.clp.joinTimer ∧
    (l.foldl (fun s r => deliverReport r s) s).clp.spacingTimer = s.clp.spacingTimer ∧
    (l.foldl (fun s r => deliverReport r s) s).clp.peers = s.clp.peers ∧
    (l.foldl (fun s r => deliverReport r s) s).clp.slot = s.clp.slot ∧
    (l.foldl (fun s r => deliverReport r s) s).clp.inFlight = s.clp.inFlight := by
  exact ⟨foldl_same (fun s : State => s.clp.line) _ (fun _ _ => by simp) _ _,
    foldl_same (fun s : State => s.clp.rx) _ (fun _ _ => by simp) _ _,
    foldl_same (fun s : State => s.clp.rxCount) _ (fun _ _ => by simp) _ _,
    foldl_same (fun s : State => s.clp.rxStamp) _ (fun _ _ => by simp) _ _,
    foldl_same (fun s : State => s.clp.joinTimer) _ (fun _ _ => by simp) _ _,
    foldl_same (fun s : State => s.clp.spacingTimer) _ (fun _ _ => by simp) _ _,
    foldl_same (fun s : State => s.clp.peers) _ (fun _ _ => by simp) _ _,
    foldl_same (fun s : State => s.clp.slot) _ (fun _ _ => by simp) _ _,
    foldl_same (fun s : State => s.clp.inFlight) _ (fun _ _ => by simp) _ _⟩

@[simp] theorem trackerEvent_line (ev : TrackerEvent) :
    (trackerEvent ev s).clp.line = s.clp.line ∧ (trackerEvent ev s).clp.rx = s.clp.rx ∧
    (trackerEvent ev s).clp.rxCount = s.clp.rxCount ∧ (trackerEvent ev s).clp.rxStamp = s.clp.rxStamp ∧
    (trackerEvent ev s).clp.joinTimer = s.clp.joinTimer ∧ (trackerEvent ev s).clp.spacingTimer = s.clp.spacingTimer ∧
    (trackerEvent ev s).clp.peers = s.clp.peers ∧ (trackerEvent ev s).clp.slot = s.clp.slot ∧
    (trackerEvent ev s).clp.inFlight = s.clp.inFlight := by
  simp only [trackerEvent, guarded]
  (repeat' split) <;> simp

@[simp] theorem placeBeacon_line (b : Beacon) (t : Time) :
    (placeBeacon b t s).clp.line = s.clp.line ∧ (placeBeacon b t s).clp.rx = s.clp.rx ∧
    (placeBeacon b t s).clp.rxCount = s.clp.rxCount ∧ (placeBeacon b t s).clp.rxStamp = s.clp.rxStamp ∧
    (placeBeacon b t s).clp.joinTimer = s.clp.joinTimer ∧ (placeBeacon b t s).clp.spacingTimer = s.clp.spacingTimer ∧
    (placeBeacon b t s).clp.peers = s.clp.peers := by
  unfold placeBeacon
  split <;> simp

@[simp] theorem sendHold_line (h : Int) :
    (sendHold h s).clp.line = s.clp.line ∧ (sendHold h s).clp.rx = s.clp.rx ∧ (sendHold h s).clp.rxCount = s.clp.rxCount ∧
    (sendHold h s).clp.rxStamp = s.clp.rxStamp ∧ (sendHold h s).clp.joinTimer = s.clp.joinTimer ∧
    (sendHold h s).clp.spacingTimer = s.clp.spacingTimer ∧ (sendHold h s).clp.peers = s.clp.peers := by
  simp [sendHold]

@[simp] theorem pictureMotion_line (c : Chan) :
    (pictureMotion c s).clp.line = s.clp.line ∧ (pictureMotion c s).clp.rx = s.clp.rx ∧
    (pictureMotion c s).clp.rxCount = s.clp.rxCount ∧ (pictureMotion c s).clp.rxStamp = s.clp.rxStamp ∧
    (pictureMotion c s).clp.joinTimer = s.clp.joinTimer ∧ (pictureMotion c s).clp.spacingTimer = s.clp.spacingTimer ∧
    (pictureMotion c s).clp.peers = s.clp.peers := by
  unfold pictureMotion
  dsimp only
  split <;> simp

@[simp] theorem recordBeacon_line (c : Chan) (n : Option Nat) (r : BRec) :
    (recordBeacon c n r s).clp.line = s.clp.line ∧ (recordBeacon c n r s).clp.rx = s.clp.rx ∧
    (recordBeacon c n r s).clp.rxCount = s.clp.rxCount ∧ (recordBeacon c n r s).clp.rxStamp = s.clp.rxStamp ∧
    (recordBeacon c n r s).clp.joinTimer = s.clp.joinTimer ∧ (recordBeacon c n r s).clp.spacingTimer = s.clp.spacingTimer ∧
    (recordBeacon c n r s).clp.peers = s.clp.peers := by
  unfold recordBeacon
  (repeat' split) <;> simp

@[simp] theorem pictureRecord_line (c : Chan) (r : BRec) :
    (pictureRecord c r s).clp.line = s.clp.line ∧ (pictureRecord c r s).clp.rx = s.clp.rx ∧
    (pictureRecord c r s).clp.rxCount = s.clp.rxCount ∧ (pictureRecord c r s).clp.rxStamp = s.clp.rxStamp ∧
    (pictureRecord c r s).clp.joinTimer = s.clp.joinTimer ∧ (pictureRecord c r s).clp.spacingTimer = s.clp.spacingTimer ∧
    (pictureRecord c r s).clp.peers = s.clp.peers := by
  simp [pictureRecord]

@[simp] theorem holdTimerExpiry_line (c : Chan) :
    (holdTimerExpiry c s).clp.line = s.clp.line ∧ (holdTimerExpiry c s).clp.rx = s.clp.rx ∧
    (holdTimerExpiry c s).clp.rxCount = s.clp.rxCount ∧ (holdTimerExpiry c s).clp.rxStamp = s.clp.rxStamp ∧
    (holdTimerExpiry c s).clp.joinTimer = s.clp.joinTimer ∧ (holdTimerExpiry c s).clp.spacingTimer = s.clp.spacingTimer ∧
    (holdTimerExpiry c s).clp.peers = s.clp.peers := by
  simp [holdTimerExpiry]

@[simp] theorem trackerActive_line :
    (trackerActive s).clp.line = s.clp.line ∧ (trackerActive s).clp.rx = s.clp.rx ∧
    (trackerActive s).clp.rxCount = s.clp.rxCount ∧ (trackerActive s).clp.rxStamp = s.clp.rxStamp ∧
    (trackerActive s).clp.joinTimer = s.clp.joinTimer ∧ (trackerActive s).clp.spacingTimer = s.clp.spacingTimer ∧
    (trackerActive s).clp.peers = s.clp.peers := by
  unfold trackerActive
  (repeat' split) <;> simp

@[simp] theorem startTracker_line :
    (startTracker s).clp.line = s.clp.line ∧ (startTracker s).clp.rx = s.clp.rx ∧
    (startTracker s).clp.rxCount = s.clp.rxCount ∧ (startTracker s).clp.rxStamp = s.clp.rxStamp ∧
    (startTracker s).clp.joinTimer = s.clp.joinTimer ∧ (startTracker s).clp.spacingTimer = s.clp.spacingTimer ∧
    (startTracker s).clp.peers = s.clp.peers ∧ (startTracker s).clp.slot = s.clp.slot ∧
    (startTracker s).clp.inFlight = s.clp.inFlight := by
  unfold startTracker
  split <;> simp

@[simp] theorem beaconKnown_line (n : Nat) (e : Source) (p : Beacon) (t : Time) :
    (beaconKnown n e p t s).clp.line = s.clp.line ∧ (beaconKnown n e p t s).clp.rx = s.clp.rx ∧
    (beaconKnown n e p t s).clp.rxCount = s.clp.rxCount ∧ (beaconKnown n e p t s).clp.rxStamp = s.clp.rxStamp ∧
    (beaconKnown n e p t s).clp.joinTimer = s.clp.joinTimer ∧
    (beaconKnown n e p t s).clp.spacingTimer = s.clp.spacingTimer ∧ (beaconKnown n e p t s).clp.peers = s.clp.peers ∧
    (beaconKnown n e p t s).clp.slot = s.clp.slot ∧ (beaconKnown n e p t s).clp.inFlight = s.clp.inFlight := by
  simp [beaconKnown]

@[simp] theorem beaconNew_line (n : Nat) (p : Beacon) (t : Time) :
    (beaconNew n p t s).clp.line = s.clp.line ∧ (beaconNew n p t s).clp.rx = s.clp.rx ∧
    (beaconNew n p t s).clp.rxCount = s.clp.rxCount ∧ (beaconNew n p t s).clp.rxStamp = s.clp.rxStamp ∧
    (beaconNew n p t s).clp.joinTimer = s.clp.joinTimer ∧ (beaconNew n p t s).clp.spacingTimer = s.clp.spacingTimer ∧
    (beaconNew n p t s).clp.peers = s.clp.peers ∧ (beaconNew n p t s).clp.slot = s.clp.slot ∧
    (beaconNew n p t s).clp.inFlight = s.clp.inFlight := by
  unfold beaconNew
  (repeat' split) <;> simp

@[simp] theorem applyBeacon_line (n : BitVec 5) (p : Beacon) (t : Time) :
    (applyBeacon n p t s).clp.line = s.clp.line ∧ (applyBeacon n p t s).clp.rx = s.clp.rx ∧
    (applyBeacon n p t s).clp.rxCount = s.clp.rxCount ∧ (applyBeacon n p t s).clp.rxStamp = s.clp.rxStamp ∧
    (applyBeacon n p t s).clp.joinTimer = s.clp.joinTimer ∧ (applyBeacon n p t s).clp.spacingTimer = s.clp.spacingTimer ∧
    (applyBeacon n p t s).clp.peers = s.clp.peers ∧ (applyBeacon n p t s).clp.slot = s.clp.slot ∧
    (applyBeacon n p t s).clp.inFlight = s.clp.inFlight := by
  unfold applyBeacon
  split <;> simp

@[simp] theorem ageSource_line (n : Nat) :
    (ageSource n s).clp.line = s.clp.line ∧ (ageSource n s).clp.rx = s.clp.rx ∧
    (ageSource n s).clp.rxCount = s.clp.rxCount ∧ (ageSource n s).clp.rxStamp = s.clp.rxStamp ∧
    (ageSource n s).clp.joinTimer = s.clp.joinTimer ∧ (ageSource n s).clp.spacingTimer = s.clp.spacingTimer ∧
    (ageSource n s).clp.peers = s.clp.peers ∧ (ageSource n s).clp.slot = s.clp.slot ∧
    (ageSource n s).clp.inFlight = s.clp.inFlight := by
  simp [ageSource]

@[simp] theorem deliverMotion_line (c : Chan) :
    (deliverMotion c s).clp.line = s.clp.line ∧ (deliverMotion c s).clp.rx = s.clp.rx ∧
    (deliverMotion c s).clp.rxCount = s.clp.rxCount ∧ (deliverMotion c s).clp.rxStamp = s.clp.rxStamp ∧
    (deliverMotion c s).clp.joinTimer = s.clp.joinTimer ∧ (deliverMotion c s).clp.spacingTimer = s.clp.spacingTimer ∧
    (deliverMotion c s).clp.peers = s.clp.peers := by
  unfold deliverMotion
  split <;> simp

@[simp] theorem deliverRecord_line (c : Chan) (r : BRec) :
    (deliverRecord c r s).clp.line = s.clp.line ∧ (deliverRecord c r s).clp.rx = s.clp.rx ∧
    (deliverRecord c r s).clp.rxCount = s.clp.rxCount ∧ (deliverRecord c r s).clp.rxStamp = s.clp.rxStamp ∧
    (deliverRecord c r s).clp.joinTimer = s.clp.joinTimer ∧ (deliverRecord c r s).clp.spacingTimer = s.clp.spacingTimer ∧
    (deliverRecord c r s).clp.peers = s.clp.peers := by
  unfold deliverRecord
  split <;> simp

@[simp] theorem takeStep_line (c : Chan) (st : Step) (m n : Nat) :
    (takeStep c st m n s).clp.line = s.clp.line ∧ (takeStep c st m n s).clp.rx = s.clp.rx ∧
    (takeStep c st m n s).clp.rxCount = s.clp.rxCount ∧ (takeStep c st m n s).clp.rxStamp = s.clp.rxStamp ∧
    (takeStep c st m n s).clp.joinTimer = s.clp.joinTimer ∧ (takeStep c st m n s).clp.spacingTimer = s.clp.spacingTimer ∧
    (takeStep c st m n s).clp.peers = s.clp.peers := by
  unfold takeStep
  split <;> simp

@[simp] theorem countForward_line (c : Chan) :
    (countForward c s).clp.line = s.clp.line ∧ (countForward c s).clp.rx = s.clp.rx ∧
    (countForward c s).clp.rxCount = s.clp.rxCount ∧ (countForward c s).clp.rxStamp = s.clp.rxStamp ∧
    (countForward c s).clp.joinTimer = s.clp.joinTimer ∧ (countForward c s).clp.spacingTimer = s.clp.spacingTimer ∧
    (countForward c s).clp.peers = s.clp.peers := by
  unfold countForward
  dsimp only
  split <;> simp

@[simp] theorem countReverse_line (c : Chan) :
    (countReverse c s).clp.line = s.clp.line ∧ (countReverse c s).clp.rx = s.clp.rx ∧
    (countReverse c s).clp.rxCount = s.clp.rxCount ∧ (countReverse c s).clp.rxStamp = s.clp.rxStamp ∧
    (countReverse c s).clp.joinTimer = s.clp.joinTimer ∧ (countReverse c s).clp.spacingTimer = s.clp.spacingTimer ∧
    (countReverse c s).clp.peers = s.clp.peers := by
  unfold countReverse
  split <;> simp

@[simp] theorem countUnit_line (c : Chan) (d : Bool) :
    (countUnit c d s).clp.line = s.clp.line ∧ (countUnit c d s).clp.rx = s.clp.rx ∧
    (countUnit c d s).clp.rxCount = s.clp.rxCount ∧ (countUnit c d s).clp.rxStamp = s.clp.rxStamp ∧
    (countUnit c d s).clp.joinTimer = s.clp.joinTimer ∧ (countUnit c d s).clp.spacingTimer = s.clp.spacingTimer ∧
    (countUnit c d s).clp.peers = s.clp.peers := by
  unfold countUnit
  (repeat' split) <;> simp

@[simp] theorem takeUnit_line (c : Chan) (d : Bool) :
    (takeUnit c d s).clp.line = s.clp.line ∧ (takeUnit c d s).clp.rx = s.clp.rx ∧
    (takeUnit c d s).clp.rxCount = s.clp.rxCount ∧ (takeUnit c d s).clp.rxStamp = s.clp.rxStamp ∧
    (takeUnit c d s).clp.joinTimer = s.clp.joinTimer ∧ (takeUnit c d s).clp.spacingTimer = s.clp.spacingTimer ∧
    (takeUnit c d s).clp.peers = s.clp.peers := by
  unfold takeUnit
  split <;> simp

@[simp] theorem acceptEdge_line (c : Chan) (l : TachLine) (v : Bool) :
    (acceptEdge c l v s).clp.line = s.clp.line ∧ (acceptEdge c l v s).clp.rx = s.clp.rx ∧
    (acceptEdge c l v s).clp.rxCount = s.clp.rxCount ∧ (acceptEdge c l v s).clp.rxStamp = s.clp.rxStamp ∧
    (acceptEdge c l v s).clp.joinTimer = s.clp.joinTimer ∧ (acceptEdge c l v s).clp.spacingTimer = s.clp.spacingTimer ∧
    (acceptEdge c l v s).clp.peers = s.clp.peers := by
  unfold acceptEdge
  dsimp only
  split <;> simp

@[simp] theorem tachChange_line (c : Chan) (l : TachLine) (v : Bool) :
    (tachChange c l v s).clp.line = s.clp.line ∧ (tachChange c l v s).clp.rx = s.clp.rx ∧
    (tachChange c l v s).clp.rxCount = s.clp.rxCount ∧ (tachChange c l v s).clp.rxStamp = s.clp.rxStamp ∧
    (tachChange c l v s).clp.joinTimer = s.clp.joinTimer ∧ (tachChange c l v s).clp.spacingTimer = s.clp.spacingTimer ∧
    (tachChange c l v s).clp.peers = s.clp.peers := by
  unfold tachChange
  dsimp only
  (repeat' split) <;> simp

@[simp] theorem slip_line (c : Chan) :
    (slip c s).clp.line = s.clp.line ∧ (slip c s).clp.rx = s.clp.rx ∧ (slip c s).clp.rxCount = s.clp.rxCount ∧
    (slip c s).clp.rxStamp = s.clp.rxStamp ∧ (slip c s).clp.joinTimer = s.clp.joinTimer ∧
    (slip c s).clp.spacingTimer = s.clp.spacingTimer ∧ (slip c s).clp.peers = s.clp.peers ∧
    (slip c s).clp.slot = s.clp.slot ∧ (slip c s).clp.inFlight = s.clp.inFlight := by
  simp [slip]

@[simp] theorem indexForward_line (c : Chan) :
    (indexForward c s).clp.line = s.clp.line ∧ (indexForward c s).clp.rx = s.clp.rx ∧
    (indexForward c s).clp.rxCount = s.clp.rxCount ∧ (indexForward c s).clp.rxStamp = s.clp.rxStamp ∧
    (indexForward c s).clp.joinTimer = s.clp.joinTimer ∧ (indexForward c s).clp.spacingTimer = s.clp.spacingTimer ∧
    (indexForward c s).clp.peers = s.clp.peers := by
  unfold indexForward
  split <;> simp

@[simp] theorem indexReverse_line (c : Chan) :
    (indexReverse c s).clp.line = s.clp.line ∧ (indexReverse c s).clp.rx = s.clp.rx ∧
    (indexReverse c s).clp.rxCount = s.clp.rxCount ∧ (indexReverse c s).clp.rxStamp = s.clp.rxStamp ∧
    (indexReverse c s).clp.joinTimer = s.clp.joinTimer ∧ (indexReverse c s).clp.spacingTimer = s.clp.spacingTimer ∧
    (indexReverse c s).clp.peers = s.clp.peers := by
  unfold indexReverse
  split <;> simp

@[simp] theorem acceptIndex_line (c : Chan) (v : Bool) :
    (acceptIndex c v s).clp.line = s.clp.line ∧ (acceptIndex c v s).clp.rx = s.clp.rx ∧
    (acceptIndex c v s).clp.rxCount = s.clp.rxCount ∧ (acceptIndex c v s).clp.rxStamp = s.clp.rxStamp ∧
    (acceptIndex c v s).clp.joinTimer = s.clp.joinTimer ∧ (acceptIndex c v s).clp.spacingTimer = s.clp.spacingTimer ∧
    (acceptIndex c v s).clp.peers = s.clp.peers := by
  unfold acceptIndex
  dsimp only
  (repeat' split) <;> simp

@[simp] theorem indexChange_line (c : Chan) (v : Bool) :
    (indexChange c v s).clp.line = s.clp.line ∧ (indexChange c v s).clp.rx = s.clp.rx ∧
    (indexChange c v s).clp.rxCount = s.clp.rxCount ∧ (indexChange c v s).clp.rxStamp = s.clp.rxStamp ∧
    (indexChange c v s).clp.joinTimer = s.clp.joinTimer ∧ (indexChange c v s).clp.spacingTimer = s.clp.spacingTimer ∧
    (indexChange c v s).clp.peers = s.clp.peers := by
  unfold indexChange
  dsimp only
  (repeat' split) <;> simp

@[simp] theorem stallChannel_line (c : Chan) :
    (stallChannel c s).clp.line = s.clp.line ∧ (stallChannel c s).clp.rx = s.clp.rx ∧
    (stallChannel c s).clp.rxCount = s.clp.rxCount ∧ (stallChannel c s).clp.rxStamp = s.clp.rxStamp ∧
    (stallChannel c s).clp.joinTimer = s.clp.joinTimer ∧ (stallChannel c s).clp.spacingTimer = s.clp.spacingTimer ∧
    (stallChannel c s).clp.peers = s.clp.peers := by
  simp [stallChannel]

@[simp] theorem stageHead_line (n : BitVec 5) (h : CueHead) :
    (stageHead n h s).clp.line = s.clp.line ∧ (stageHead n h s).clp.rx = s.clp.rx ∧
    (stageHead n h s).clp.rxCount = s.clp.rxCount ∧ (stageHead n h s).clp.rxStamp = s.clp.rxStamp ∧
    (stageHead n h s).clp.joinTimer = s.clp.joinTimer ∧ (stageHead n h s).clp.spacingTimer = s.clp.spacingTimer ∧
    (stageHead n h s).clp.peers = s.clp.peers ∧ (stageHead n h s).clp.slot = s.clp.slot ∧
    (stageHead n h s).clp.inFlight = s.clp.inFlight := by
  unfold stageHead
  (repeat' split) <;> simp

@[simp] theorem recordTimes_line (i : FaultInfo) (n : Nat) :
    (recordTimes i n s).clp.line = s.clp.line ∧ (recordTimes i n s).clp.rx = s.clp.rx ∧
    (recordTimes i n s).clp.rxCount = s.clp.rxCount ∧ (recordTimes i n s).clp.rxStamp = s.clp.rxStamp ∧
    (recordTimes i n s).clp.joinTimer = s.clp.joinTimer ∧ (recordTimes i n s).clp.spacingTimer = s.clp.spacingTimer ∧
    (recordTimes i n s).clp.peers = s.clp.peers ∧ (recordTimes i n s).clp.slot = s.clp.slot ∧
    (recordTimes i n s).clp.inFlight = s.clp.inFlight := by
  induction n generalizing s with
  | zero => simp [recordTimes]
  | succ n ih => simp [recordTimes, ih]

@[simp] theorem placeCue_line (d : CueDef) (n : BitVec 5) :
    (placeCue d n s).clp.line = s.clp.line ∧ (placeCue d n s).clp.rx = s.clp.rx ∧
    (placeCue d n s).clp.rxCount = s.clp.rxCount ∧ (placeCue d n s).clp.rxStamp = s.clp.rxStamp ∧
    (placeCue d n s).clp.joinTimer = s.clp.joinTimer ∧ (placeCue d n s).clp.spacingTimer = s.clp.spacingTimer ∧
    (placeCue d n s).clp.peers = s.clp.peers ∧ (placeCue d n s).clp.slot = s.clp.slot ∧
    (placeCue d n s).clp.inFlight = s.clp.inFlight := by
  unfold placeCue
  (repeat' split) <;> simp

@[simp] theorem commit_line (h : CueHead) (b : CueBody) (n : BitVec 5) :
    (commit h b n s).clp.line = s.clp.line ∧ (commit h b n s).clp.rx = s.clp.rx ∧
    (commit h b n s).clp.rxCount = s.clp.rxCount ∧ (commit h b n s).clp.rxStamp = s.clp.rxStamp ∧
    (commit h b n s).clp.joinTimer = s.clp.joinTimer ∧ (commit h b n s).clp.spacingTimer = s.clp.spacingTimer ∧
    (commit h b n s).clp.peers = s.clp.peers ∧ (commit h b n s).clp.slot = s.clp.slot ∧
    (commit h b n s).clp.inFlight = s.clp.inFlight := by
  unfold commit
  dsimp only
  (repeat' split) <;> simp

@[simp] theorem takeBody_line (n : BitVec 5) (b : CueBody) :
    (takeBody n b s).clp.line = s.clp.line ∧ (takeBody n b s).clp.rx = s.clp.rx ∧
    (takeBody n b s).clp.rxCount = s.clp.rxCount ∧ (takeBody n b s).clp.rxStamp = s.clp.rxStamp ∧
    (takeBody n b s).clp.joinTimer = s.clp.joinTimer ∧ (takeBody n b s).clp.spacingTimer = s.clp.spacingTimer ∧
    (takeBody n b s).clp.peers = s.clp.peers ∧ (takeBody n b s).clp.slot = s.clp.slot ∧
    (takeBody n b s).clp.inFlight = s.clp.inFlight := by
  unfold takeBody
  (repeat' split) <;> simp

@[simp] theorem dropEntry_line (i : Nat) :
    (dropEntry i s).clp.line = s.clp.line ∧ (dropEntry i s).clp.rx = s.clp.rx ∧
    (dropEntry i s).clp.rxCount = s.clp.rxCount ∧ (dropEntry i s).clp.rxStamp = s.clp.rxStamp ∧
    (dropEntry i s).clp.joinTimer = s.clp.joinTimer ∧ (dropEntry i s).clp.spacingTimer = s.clp.spacingTimer ∧
    (dropEntry i s).clp.peers = s.clp.peers ∧ (dropEntry i s).clp.slot = s.clp.slot ∧
    (dropEntry i s).clp.inFlight = s.clp.inFlight := by
  simp [dropEntry]

@[simp] theorem dropWhere_line (p : CueDef → Bool) :
    (dropWhere p s).clp.line = s.clp.line ∧ (dropWhere p s).clp.rx = s.clp.rx ∧
    (dropWhere p s).clp.rxCount = s.clp.rxCount ∧ (dropWhere p s).clp.rxStamp = s.clp.rxStamp ∧
    (dropWhere p s).clp.joinTimer = s.clp.joinTimer ∧ (dropWhere p s).clp.spacingTimer = s.clp.spacingTimer ∧
    (dropWhere p s).clp.peers = s.clp.peers ∧ (dropWhere p s).clp.slot = s.clp.slot ∧
    (dropWhere p s).clp.inFlight = s.clp.inFlight := by
  unfold dropWhere
  exact ⟨forIndexes_same (fun s : State => s.clp.line) _ (fun _ _ => by split <;> simp) _ _,
    forIndexes_same (fun s : State => s.clp.rx) _ (fun _ _ => by split <;> simp) _ _,
    forIndexes_same (fun s : State => s.clp.rxCount) _ (fun _ _ => by split <;> simp) _ _,
    forIndexes_same (fun s : State => s.clp.rxStamp) _ (fun _ _ => by split <;> simp) _ _,
    forIndexes_same (fun s : State => s.clp.joinTimer) _ (fun _ _ => by split <;> simp) _ _,
    forIndexes_same (fun s : State => s.clp.spacingTimer) _ (fun _ _ => by split <;> simp) _ _,
    forIndexes_same (fun s : State => s.clp.peers) _ (fun _ _ => by split <;> simp) _ _,
    forIndexes_same (fun s : State => s.clp.slot) _ (fun _ _ => by split <;> simp) _ _,
    forIndexes_same (fun s : State => s.clp.inFlight) _ (fun _ _ => by split <;> simp) _ _⟩

@[simp] theorem dropCue_line (r : BitVec 6) (n : BitVec 12) :
    (dropCue r n s).clp.line = s.clp.line ∧ (dropCue r n s).clp.rx = s.clp.rx ∧
    (dropCue r n s).clp.rxCount = s.clp.rxCount ∧ (dropCue r n s).clp.rxStamp = s.clp.rxStamp ∧
    (dropCue r n s).clp.joinTimer = s.clp.joinTimer ∧ (dropCue r n s).clp.spacingTimer = s.clp.spacingTimer ∧
    (dropCue r n s).clp.peers = s.clp.peers ∧ (dropCue r n s).clp.slot = s.clp.slot ∧
    (dropCue r n s).clp.inFlight = s.clp.inFlight := by
  simp [dropCue]

@[simp] theorem dropReel_line (r : BitVec 6) :
    (dropReel r s).clp.line = s.clp.line ∧ (dropReel r s).clp.rx = s.clp.rx ∧ (dropReel r s).clp.rxCount = s.clp.rxCount ∧
    (dropReel r s).clp.rxStamp = s.clp.rxStamp ∧ (dropReel r s).clp.joinTimer = s.clp.joinTimer ∧
    (dropReel r s).clp.spacingTimer = s.clp.spacingTimer ∧ (dropReel r s).clp.peers = s.clp.peers ∧
    (dropReel r s).clp.slot = s.clp.slot ∧ (dropReel r s).clp.inFlight = s.clp.inFlight := by
  simp [dropReel]

@[simp] theorem dropAll_line :
    (dropAll s).clp.line = s.clp.line ∧ (dropAll s).clp.rx = s.clp.rx ∧ (dropAll s).clp.rxCount = s.clp.rxCount ∧
    (dropAll s).clp.rxStamp = s.clp.rxStamp ∧ (dropAll s).clp.joinTimer = s.clp.joinTimer ∧
    (dropAll s).clp.spacingTimer = s.clp.spacingTimer ∧ (dropAll s).clp.peers = s.clp.peers ∧
    (dropAll s).clp.slot = s.clp.slot ∧ (dropAll s).clp.inFlight = s.clp.inFlight := by
  simp [dropAll]

@[simp] theorem testSettled_line (m : Settled) (g : Geometry) :
    (testSettled m g s).clp.line = s.clp.line ∧ (testSettled m g s).clp.rx = s.clp.rx ∧
    (testSettled m g s).clp.rxCount = s.clp.rxCount ∧ (testSettled m g s).clp.rxStamp = s.clp.rxStamp ∧
    (testSettled m g s).clp.joinTimer = s.clp.joinTimer ∧ (testSettled m g s).clp.spacingTimer = s.clp.spacingTimer ∧
    (testSettled m g s).clp.peers = s.clp.peers ∧ (testSettled m g s).clp.slot = s.clp.slot ∧
    (testSettled m g s).clp.inFlight = s.clp.inFlight := by
  unfold testSettled
  split <;> simp

@[simp] theorem settle_line (m : Settled) :
    (settle m s).clp.line = s.clp.line ∧ (settle m s).clp.rx = s.clp.rx ∧ (settle m s).clp.rxCount = s.clp.rxCount ∧
    (settle m s).clp.rxStamp = s.clp.rxStamp ∧ (settle m s).clp.joinTimer = s.clp.joinTimer ∧
    (settle m s).clp.spacingTimer = s.clp.spacingTimer ∧ (settle m s).clp.peers = s.clp.peers ∧
    (settle m s).clp.slot = s.clp.slot ∧ (settle m s).clp.inFlight = s.clp.inFlight := by
  unfold settle
  dsimp only
  split <;> simp

@[simp] theorem acquire_line (m : FieldMeas) :
    (acquire m s).clp.line = s.clp.line ∧ (acquire m s).clp.rx = s.clp.rx ∧ (acquire m s).clp.rxCount = s.clp.rxCount ∧
    (acquire m s).clp.rxStamp = s.clp.rxStamp ∧ (acquire m s).clp.joinTimer = s.clp.joinTimer ∧
    (acquire m s).clp.spacingTimer = s.clp.spacingTimer ∧ (acquire m s).clp.peers = s.clp.peers ∧
    (acquire m s).clp.slot = s.clp.slot ∧ (acquire m s).clp.inFlight = s.clp.inFlight := by
  unfold acquire
  dsimp only
  split <;> simp

@[simp] theorem endField_line (m : FieldMeas) :
    (endField m s).clp.line = s.clp.line ∧ (endField m s).clp.rx = s.clp.rx ∧ (endField m s).clp.rxCount = s.clp.rxCount ∧
    (endField m s).clp.rxStamp = s.clp.rxStamp ∧ (endField m s).clp.joinTimer = s.clp.joinTimer ∧
    (endField m s).clp.spacingTimer = s.clp.spacingTimer ∧ (endField m s).clp.peers = s.clp.peers ∧
    (endField m s).clp.slot = s.clp.slot ∧ (endField m s).clp.inFlight = s.clp.inFlight := by
  unfold endField
  dsimp only
  (repeat' split) <;> simp

@[simp] theorem recordClamp_line :
    (recordClamp s).clp.line = s.clp.line ∧ (recordClamp s).clp.rx = s.clp.rx ∧
    (recordClamp s).clp.rxCount = s.clp.rxCount ∧ (recordClamp s).clp.rxStamp = s.clp.rxStamp ∧
    (recordClamp s).clp.joinTimer = s.clp.joinTimer ∧ (recordClamp s).clp.spacingTimer = s.clp.spacingTimer ∧
    (recordClamp s).clp.peers = s.clp.peers ∧ (recordClamp s).clp.slot = s.clp.slot ∧
    (recordClamp s).clp.inFlight = s.clp.inFlight := by
  simp [recordClamp]

@[simp] theorem clampOverlay_line :
    (clampOverlay s).clp.line = s.clp.line ∧ (clampOverlay s).clp.rx = s.clp.rx ∧
    (clampOverlay s).clp.rxCount = s.clp.rxCount ∧ (clampOverlay s).clp.rxStamp = s.clp.rxStamp ∧
    (clampOverlay s).clp.joinTimer = s.clp.joinTimer ∧ (clampOverlay s).clp.spacingTimer = s.clp.spacingTimer ∧
    (clampOverlay s).clp.peers = s.clp.peers ∧ (clampOverlay s).clp.slot = s.clp.slot ∧
    (clampOverlay s).clp.inFlight = s.clp.inFlight := by
  simp only [clampOverlay, guarded]
  (repeat' split) <;> simp

@[simp] theorem startOverlay_line :
    (startOverlay s).clp.line = s.clp.line ∧ (startOverlay s).clp.rx = s.clp.rx ∧
    (startOverlay s).clp.rxCount = s.clp.rxCount ∧ (startOverlay s).clp.rxStamp = s.clp.rxStamp ∧
    (startOverlay s).clp.joinTimer = s.clp.joinTimer ∧ (startOverlay s).clp.spacingTimer = s.clp.spacingTimer ∧
    (startOverlay s).clp.peers = s.clp.peers ∧ (startOverlay s).clp.slot = s.clp.slot ∧
    (startOverlay s).clp.inFlight = s.clp.inFlight := by
  unfold startOverlay
  dsimp only
  (repeat' split) <;> simp

@[simp] theorem joinLog_line (r : MarkRec) :
    (joinLog r s).clp.line = s.clp.line ∧ (joinLog r s).clp.rx = s.clp.rx ∧ (joinLog r s).clp.rxCount = s.clp.rxCount ∧
    (joinLog r s).clp.rxStamp = s.clp.rxStamp ∧ (joinLog r s).clp.joinTimer = s.clp.joinTimer ∧
    (joinLog r s).clp.spacingTimer = s.clp.spacingTimer ∧ (joinLog r s).clp.peers = s.clp.peers ∧
    (joinLog r s).clp.slot = s.clp.slot ∧ (joinLog r s).clp.inFlight = s.clp.inFlight := by
  unfold joinLog
  (repeat' split) <;> simp

@[simp] theorem makeMark_line (l : Latch) :
    (makeMark l s).clp.line = s.clp.line ∧ (makeMark l s).clp.rx = s.clp.rx ∧ (makeMark l s).clp.rxCount = s.clp.rxCount ∧
    (makeMark l s).clp.rxStamp = s.clp.rxStamp ∧ (makeMark l s).clp.joinTimer = s.clp.joinTimer ∧
    (makeMark l s).clp.spacingTimer = s.clp.spacingTimer ∧ (makeMark l s).clp.peers = s.clp.peers ∧
    (makeMark l s).clp.slot = s.clp.slot ∧ (makeMark l s).clp.inFlight = s.clp.inFlight := by
  simp [makeMark]

@[simp] theorem keyExpiry_line :
    (keyExpiry s).clp.line = s.clp.line ∧ (keyExpiry s).clp.rx = s.clp.rx ∧ (keyExpiry s).clp.rxCount = s.clp.rxCount ∧
    (keyExpiry s).clp.rxStamp = s.clp.rxStamp ∧ (keyExpiry s).clp.joinTimer = s.clp.joinTimer ∧
    (keyExpiry s).clp.spacingTimer = s.clp.spacingTimer ∧ (keyExpiry s).clp.peers = s.clp.peers ∧
    (keyExpiry s).clp.slot = s.clp.slot ∧ (keyExpiry s).clp.inFlight = s.clp.inFlight := by
  unfold keyExpiry
  split <;> simp

@[simp] theorem peerMark_line (n : BitVec 5) (p : Mark) :
    (peerMark n p s).clp.line = s.clp.line ∧ (peerMark n p s).clp.rx = s.clp.rx ∧
    (peerMark n p s).clp.rxCount = s.clp.rxCount ∧ (peerMark n p s).clp.rxStamp = s.clp.rxStamp ∧
    (peerMark n p s).clp.joinTimer = s.clp.joinTimer ∧ (peerMark n p s).clp.spacingTimer = s.clp.spacingTimer ∧
    (peerMark n p s).clp.peers = s.clp.peers ∧ (peerMark n p s).clp.slot = s.clp.slot ∧
    (peerMark n p s).clp.inFlight = s.clp.inFlight := by
  unfold peerMark
  (repeat' split) <;> simp

@[simp] theorem unknownOrder_line (n : BitVec 5) :
    (unknownOrder n s).clp.line = s.clp.line ∧ (unknownOrder n s).clp.rx = s.clp.rx ∧
    (unknownOrder n s).clp.rxCount = s.clp.rxCount ∧ (unknownOrder n s).clp.rxStamp = s.clp.rxStamp ∧
    (unknownOrder n s).clp.joinTimer = s.clp.joinTimer ∧ (unknownOrder n s).clp.spacingTimer = s.clp.spacingTimer ∧
    (unknownOrder n s).clp.peers = s.clp.peers ∧ (unknownOrder n s).clp.slot = s.clp.slot ∧
    (unknownOrder n s).clp.inFlight = s.clp.inFlight := by
  simp [unknownOrder]

@[simp] theorem modeOrder_line (n : BitVec 5) (a : BitVec 24) :
    (modeOrder n a s).clp.line = s.clp.line ∧ (modeOrder n a s).clp.rx = s.clp.rx ∧
    (modeOrder n a s).clp.rxCount = s.clp.rxCount ∧ (modeOrder n a s).clp.rxStamp = s.clp.rxStamp ∧
    (modeOrder n a s).clp.joinTimer = s.clp.joinTimer ∧ (modeOrder n a s).clp.spacingTimer = s.clp.spacingTimer ∧
    (modeOrder n a s).clp.peers = s.clp.peers ∧ (modeOrder n a s).clp.slot = s.clp.slot ∧
    (modeOrder n a s).clp.inFlight = s.clp.inFlight := by
  unfold modeOrder
  split <;> simp

@[simp] theorem orderOf_line (n : BitVec 5) (o : BitVec 4) (p : ControlArgs) :
    (orderOf n o p s).clp.line = s.clp.line ∧ (orderOf n o p s).clp.rx = s.clp.rx ∧
    (orderOf n o p s).clp.rxCount = s.clp.rxCount ∧ (orderOf n o p s).clp.rxStamp = s.clp.rxStamp ∧
    (orderOf n o p s).clp.joinTimer = s.clp.joinTimer ∧ (orderOf n o p s).clp.spacingTimer = s.clp.spacingTimer ∧
    (orderOf n o p s).clp.peers = s.clp.peers ∧ (orderOf n o p s).clp.slot = s.clp.slot ∧
    (orderOf n o p s).clp.inFlight = s.clp.inFlight := by
  unfold orderOf
  split <;> simp

@[simp] theorem applyControl_line (n : BitVec 5) (o : BitVec 4) (p : ControlArgs) :
    (applyControl n o p s).clp.line = s.clp.line ∧ (applyControl n o p s).clp.rx = s.clp.rx ∧
    (applyControl n o p s).clp.rxCount = s.clp.rxCount ∧ (applyControl n o p s).clp.rxStamp = s.clp.rxStamp ∧
    (applyControl n o p s).clp.joinTimer = s.clp.joinTimer ∧ (applyControl n o p s).clp.spacingTimer = s.clp.spacingTimer ∧
    (applyControl n o p s).clp.peers = s.clp.peers ∧ (applyControl n o p s).clp.slot = s.clp.slot ∧
    (applyControl n o p s).clp.inFlight = s.clp.inFlight := by
  simp only [applyControl, guarded]
  split <;> simp

@[simp] theorem clampRoles_line :
    (clampRoles s).clp.line = s.clp.line ∧ (clampRoles s).clp.rx = s.clp.rx ∧ (clampRoles s).clp.rxCount = s.clp.rxCount ∧
    (clampRoles s).clp.rxStamp = s.clp.rxStamp ∧ (clampRoles s).clp.joinTimer = s.clp.joinTimer ∧
    (clampRoles s).clp.spacingTimer = s.clp.spacingTimer ∧ (clampRoles s).clp.peers = s.clp.peers ∧
    (clampRoles s).clp.slot = s.clp.slot ∧ (clampRoles s).clp.inFlight = s.clp.inFlight := by
  simp only [clampRoles, guarded]
  split <;> simp

@[simp] theorem clampSetting_line (get : Settings → Nat) (set : Nat → Settings → Settings) (work : Nat → Nat) :
    (clampSetting get set work s).clp.line = s.clp.line ∧ (clampSetting get set work s).clp.rx = s.clp.rx ∧
    (clampSetting get set work s).clp.rxCount = s.clp.rxCount ∧ (clampSetting get set work s).clp.rxStamp = s.clp.rxStamp ∧
    (clampSetting get set work s).clp.joinTimer = s.clp.joinTimer ∧
    (clampSetting get set work s).clp.spacingTimer = s.clp.spacingTimer ∧
    (clampSetting get set work s).clp.peers = s.clp.peers ∧ (clampSetting get set work s).clp.slot = s.clp.slot ∧
    (clampSetting get set work s).clp.inFlight = s.clp.inFlight := by
  simp only [clampSetting, guarded]
  split <;> simp

@[simp] theorem clampAll_line :
    (clampAll s).clp.line = s.clp.line ∧ (clampAll s).clp.rx = s.clp.rx ∧ (clampAll s).clp.rxCount = s.clp.rxCount ∧
    (clampAll s).clp.rxStamp = s.clp.rxStamp ∧ (clampAll s).clp.joinTimer = s.clp.joinTimer ∧
    (clampAll s).clp.spacingTimer = s.clp.spacingTimer ∧ (clampAll s).clp.peers = s.clp.peers ∧
    (clampAll s).clp.slot = s.clp.slot ∧ (clampAll s).clp.inFlight = s.clp.inFlight := by
  simp [clampAll]

end Sys2Proof.Machine
end

