-- ==== Sys2Proof/Laws/Effects.lean ====
section
/-! SUPPORT. What each shared operation does, said once: equations under the conditions that its cases test. -/

namespace Sys2Proof.Machine
open Sys2Proof

/-- Two states are equal when every block is. -/
theorem State.eq_iff (s u : State) : s = u ↔
    s.timebase = u.timebase ∧ s.pins = u.pins ∧ s.resetActive = u.resetActive ∧ s.straps = u.straps ∧ s.settings = u.settings ∧
    s.clp = u.clp ∧ s.chA = u.chA ∧ s.chB = u.chB ∧ s.ptr = u.ptr ∧ s.lockA = u.lockA ∧ s.lockB = u.lockB ∧ s.ctb = u.ctb ∧
    s.csh = u.csh ∧ s.cou = u.cou ∧ s.ovl = u.ovl ∧ s.mkl = u.mkl ∧ s.svc = u.svc ∧ s.flt = u.flt ∧ s.freeCount = u.freeCount ∧
    s.pending = u.pending := by
  cases s; cases u; simp

variable (s : State)

/-! ## The service port -/

/-- Bits that complete no frame only join the frame's bits. -/
theorem sampleBits_partial (st : Straps) (l : List Bool) (hl : s.svc.sampled.length + l.length < 32) (hr : runs64 s.svc.ones l = false) :
    sampleBits st l s = { s with svc := { s.svc with sampled := s.svc.sampled ++ l, ones := onesAfter s.svc.ones l } } := by
  induction l generalizing s with
  | nil => simp [sampleBits, onesAfter]
  | cons b l ih =>
    simp only [runs64, Bool.or_eq_false_iff, decide_eq_false_iff_not, Nat.not_le] at hr
    simp only [List.length_cons] at hl
    have hb : sampleBit st s b = s.modSvc fun v => { v with sampled := s.svc.sampled ++ [b], ones := onesNext s.svc.ones b } := by
      simp only [sampleBit]
      rw [if_pos hr.1, if_pos (by simp; omega)]
    have := ih (sampleBit st s b) (by rw [hb]; simp [State.modSvc]; omega) (by rw [hb]; exact hr.2)
    simp only [sampleBits, List.foldl_cons] at this ⊢
    rw [this, hb]
    simp [State.modSvc, onesAfter]

/-- The bits that bring a frame to its 32nd complete it, and it is taken. -/
theorem sampleBits_complete (st : Straps) (l : List Bool) (hn : l ≠ []) (hl : s.svc.sampled.length + l.length = 32)
    (hr : runs64 s.svc.ones l = false) :
    sampleBits st l s = takeFrame st (.decode (s.svc.sampled ++ l))
      { s with svc := { s.svc with sampled := [], ones := onesAfter s.svc.ones l } } := by
  obtain ⟨m, b, rfl⟩ : ∃ m b, l = m ++ [b] := ⟨_, _, (List.dropLast_append_getLast hn).symm⟩
  have split64 : ∀ (l : List Bool) (n : Nat), runs64 n (l ++ [b]) = (runs64 n l || decide (64 ≤ onesNext (onesAfter n l) b)) := by
    intro l
    induction l with
    | nil => intro n; simp only [runs64, onesAfter, List.nil_append, List.foldl_nil, Bool.or_false, Bool.false_or]; rfl
    | cons c l ih => intro n; simp only [runs64, onesAfter, List.cons_append, List.foldl_cons, ih, Bool.or_assoc]; rfl
  rw [split64, Bool.or_eq_false_iff, decide_eq_false_iff_not, Nat.not_le] at hr
  simp only [List.length_append, List.length_cons, List.length_nil] at hl
  have hm := sampleBits_partial s st m (by omega) hr.1
  have : sampleBits st (m ++ [b]) s = sampleBit st (sampleBits st m s) b := by simp [sampleBits]
  rw [this, hm]
  simp only [sampleBit]
  rw [if_pos hr.2, if_neg (by simp; omega)]
  simp [State.modSvc, onesAfter, List.append_assoc]

@[simp] theorem ServiceFrame.bits_length (fr : ServiceFrame) : fr.bits.length = 32 := by
  cases fr <;> simp [ServiceFrame.bits, fieldBits]

/-- A frame at a framing position of 0 is taken as what its bits are. -/
theorem sampleBits_taken (st : Straps) (fr : ServiceFrame) (h : s.portTakes fr) :
    sampleBits st fr.bits s = takeFrame st (.decode fr.bits)
      { s with svc := { s.svc with sampled := [], ones := onesAfter s.svc.ones fr.bits } } := by
  obtain ⟨-, hs, -, hr⟩ := h
  have := sampleBits_complete s st fr.bits (by cases fr <;> simp [ServiceFrame.bits]) (by simp [hs]) hr
  rwa [hs, List.nil_append] at this

theorem takeCommand_free (st : Straps) (code : BitVec 5) (f : CmdFields) (h : s.svc.pending = .none) :
    takeCommand st code f s = answer (commandAct st code f { s with
      svc := { s.svc with watch := if code = 0 then s.svc.watch else none } }) := by
  have : (if code = 0 then s else endWatch s) = { s with svc := { s.svc with watch := if code = 0 then s.svc.watch else none } } := by
    split <;> rfl
  simp only [takeCommand, h, if_true, this]

theorem takeCommand_busy (st : Straps) (code : BitVec 5) (f : CmdFields) (h : s.svc.pending ≠ .none) :
    takeCommand st code f s = { s with
      freeCount := s.freeCount + 1
      svc := { s.svc with
        pending := .none, sack := 2
        response := { data := Config.freeResponse s.freeCount, line := s.clp.line, alert := s.alertActive, refusal := true } } } := by
  simp [takeCommand, h, refuseFree, freeData, setPending, answer, loadResponse, State.modSvc]
  rfl

theorem takeData_none (d : DataWord) (h : s.svc.pending = .none) :
    takeData d s = { s with
      freeCount := s.freeCount + 1
      svc := { s.svc with
        watch := none, sack := 2
        response := { data := Config.freeResponse s.freeCount, line := s.clp.line, alert := s.alertActive, refusal := true } } } := by
  simp [takeData, h, refuseFree, freeData, endWatch, answer, loadResponse, State.modSvc]
  rfl

theorem takeData_write (d : DataWord) (f : CmdFields) (h : s.svc.pending = .write f) :
    takeData d s = answer (finishWrite f d s) := by simp [takeData, h]

theorem takeData_send (d : DataWord) (cls : BitVec 3) (words : List DataWord) (n : Nat) (h : s.svc.pending = .send cls words n) :
    takeData d s = answer (takePayload cls words n d s) := by simp [takeData, h]

/-- An answer leaves everything but the response and SACK. -/
theorem answer_eq (a : Answer) :
    answer (s, a) = { s with
      svc := { s.svc with
        response := { data := a.data, line := s.clp.line, alert := s.alertActive, refusal := a.refused }
        sack := if a.refused then 2 else 1 } } := rfl

/-- No view shows the port. -/
theorem viewWords_port (v : Svc) (view : BitVec 4) (i : Nat) : ({ s with svc := v }).viewWords view i = s.viewWords view i := rfl

theorem liveWord_port (v : Svc) (f : CmdFields) : ({ s with svc := v }).liveWord f = s.liveWord f := rfl

/-- A write that may not be done has no effect. -/
theorem writeEffect_forbidden (f : CmdFields) (d : DataWord) (h : ¬s.writable f) : writeEffect f d s = none := by
  unfold writeEffect
  by_cases hw : wordExists f = true
  · have h' := fun x => h ⟨hw, x⟩
    rw [if_neg (by simp [hw])]
    split
    · rename_i hv
      have hv : f.view = 0 := by bv_omega
      split
      · rename_i hl
        have hk : f.word.toNat < 3 := by
          apply Classical.byContradiction
          intro hk
          exact h' (.inl ⟨hv, hl, by omega⟩)
        have hs : Settings.write s.settings f.word.toNat d = none := by
          unfold Settings.write
          rw [if_neg (by omega), if_neg (by omega)]
          have : f.word.toNat = 0 ∨ f.word.toNat = 1 ∨ f.word.toNat = 2 := by omega
          rcases this with h | h | h <;> simp [h]
        rw [hs]; rfl
      · rfl
    · rename_i hv
      exact absurd (.inr (.inl (by bv_omega))) h'
    · rename_i hv
      split
      · exact absurd (.inr (.inr ⟨by bv_omega, by omega⟩)) h'
      · exact absurd (.inr (.inr ⟨by bv_omega, by omega⟩)) h'
      · rfl
    · rfl
  · simp [hw]

theorem finishWrite_refused (f : CmdFields) (d : DataWord) (h : writeEffect f d { s with svc := { s.svc with pending := .none } } = none) :
    finishWrite f d s = ({ s with svc := { s.svc with pending := .none } }, { data := s.liveWord f, refused := true }) := by
  simp only [finishWrite, setPending, State.modSvc, h]
  rfl

theorem finishWrite_taken (f : CmdFields) (d : DataWord) (act : State → State)
    (h : writeEffect f d { s with svc := { s.svc with pending := .none } } = some act) :
    finishWrite f d s =
      (emptyCapture (act { s with svc := { s.svc with pending := .none } }),
        { data := (emptyCapture (act { s with svc := { s.svc with pending := .none } })).liveWord f, refused := false }) := by
  simp only [finishWrite, setPending, State.modSvc, h]

/-- What ends a header is the run of ones below its lowest dominant bit, which a class other than 7 has (R4's Note). -/
theorem headerTail_eq (cls : BitVec 3) (n : BitVec 5) (k : Nat) (hk : k < 8) (h : ∀ i, i < k → (cls ++ n).getLsbD i = true)
    (h' : (cls ++ n).getLsbD k = false) : headerTail (some (cls, n)) = k := by
  have h0 := h 0; have h1 := h 1; have h2 := h 2; have h3 := h 3; have h4 := h 4; have h5 := h 5; have h6 := h 6
  simp only [headerTail, show List.range 8 = [0, 1, 2, 3, 4, 5, 6, 7] from rfl, List.takeWhile_cons]
  interval_cases k <;> simp_all

theorem headerTail_lt (cls : BitVec 3) (n : BitVec 5) (h : cls ≠ 7) : headerTail (some (cls, n)) < 8 := by
  revert cls n; decide +kernel

end Sys2Proof.Machine
end

