-- ==== Sys2Proof/Laws/Lists.lean ====
section
/-! SUPPORT. The shared list operations: sorting, the least element, and one operation for each entry of the cue table. -/

namespace Sys2Proof.Machine
open Sys2Proof

/-! ## Sorting and the least element -/

theorem insertBy_perm {α : Type} (le : α → α → Bool) (x : α) (l : List α) : (insertBy le x l).Perm (x :: l) := by
  induction l with
  | nil => exact .refl _
  | cons y ys ih =>
    unfold insertBy
    split
    · exact .refl _
    · exact (ih.cons y).trans (.swap x y ys)

theorem sortBy_perm {α : Type} (le : α → α → Bool) (l : List α) : (sortBy le l).Perm l := by
  induction l with
  | nil => exact .refl _
  | cons x xs ih => exact (insertBy_perm le x _).trans (ih.cons x)

@[simp] theorem sortBy_length {α : Type} (le : α → α → Bool) (l : List α) : (sortBy le l).length = l.length :=
  (sortBy_perm le l).length_eq

@[simp] theorem mem_sortBy {α : Type} (le : α → α → Bool) (l : List α) (x : α) : x ∈ sortBy le l ↔ x ∈ l := (sortBy_perm le l).mem_iff

theorem insertBy_sorted {α : Type} (le : α → α → Bool) (htot : ∀ x y, le x y = true ∨ le y x = true)
    (htr : ∀ x y z, le x y = true → le y z = true → le x z = true) (x : α) (l : List α)
    (h : l.Pairwise fun a b => le a b = true) : (insertBy le x l).Pairwise fun a b => le a b = true := by
  induction l with
  | nil => exact .cons (by simp) .nil
  | cons y ys ih =>
    obtain ⟨hy, hs⟩ := List.pairwise_cons.1 h
    unfold insertBy
    split
    · rename_i hxy
      refine .cons (fun z hz => ?_) h
      rcases List.mem_cons.1 hz with rfl | hz
      · exact hxy
      · exact htr _ _ _ hxy (hy z hz)
    · rename_i hxy
      refine .cons (fun z hz => ?_) (ih hs)
      rcases List.mem_cons.1 ((insertBy_perm le x ys).mem_iff.1 hz) with rfl | hz
      · exact (htot z y).resolve_left hxy
      · exact hy z hz

/-- Sorting by a total and transitive order sorts. -/
theorem sortBy_sorted {α : Type} (le : α → α → Bool) (htot : ∀ x y, le x y = true ∨ le y x = true)
    (htr : ∀ x y z, le x y = true → le y z = true → le x z = true) (l : List α) : (sortBy le l).Pairwise fun a b => le a b = true := by
  induction l with
  | nil => exact .nil
  | cons x xs ih => exact insertBy_sorted le htot htr x _ ih

theorem leastBy_mem {α : Type} {le : α → α → Bool} {l : List α} {x : α} (h : leastBy le l = some x) : x ∈ l := by
  induction l generalizing x with
  | nil => simp [leastBy] at h
  | cons y ys ih =>
    unfold leastBy at h
    split at h
    · simp at h; simp [h]
    · rename_i z hz
      split at h
      · simp at h; simp [h]
      · simp at h; exact List.mem_cons_of_mem _ (ih (h ▸ hz))

@[simp] theorem leastBy_eq_none {α : Type} (le : α → α → Bool) (l : List α) : leastBy le l = none ↔ l = [] := by
  cases l with
  | nil => simp [leastBy]
  | cons x xs =>
    simp only [reduceCtorEq, iff_false]
    unfold leastBy
    split
    · simp
    · split <;> simp

/-- The least element by a total and transitive order lies below every other. -/
theorem leastBy_le {α : Type} {le : α → α → Bool} (htot : ∀ x y, le x y = true ∨ le y x = true)
    (htr : ∀ x y z, le x y = true → le y z = true → le x z = true) {l : List α} {x : α} (h : leastBy le l = some x) :
    ∀ y ∈ l, le x y = true := by
  induction l generalizing x with
  | nil => simp
  | cons z zs ih =>
    have hrefl : ∀ a, le a a = true := fun a => by rcases htot a a with h | h <;> exact h
    intro y hy
    unfold leastBy at h
    split at h
    · rename_i hn
      obtain rfl : zs = [] := (leastBy_eq_none le zs).1 hn
      simp at h hy; subst h; subst hy; exact hrefl _
    · rename_i w hw
      split at h
      · rename_i hzw
        simp at h; subst h
        rcases List.mem_cons.1 hy with rfl | hy
        · exact hrefl _
        · exact htr _ _ _ hzw (ih hw y hy)
      · rename_i hzw
        simp at h; subst h
        rcases List.mem_cons.1 hy with rfl | hy
        · exact (htot _ _).resolve_left hzw
        · exact ih hw y hy

/-! ## Entries of the cue table -/

@[simp] theorem setEntry_entries (i : Nat) (e : Option CueEntry) (s : State) :
    (setEntry i e s).ctb.entries = s.ctb.entries.set i e := rfl

theorem setEntry_entry (i j : Nat) (e : Option CueEntry) (s : State) (h : i < s.ctb.entries.length) :
    (setEntry i e s).entry j = if j = i then e else s.entry j := by
  unfold State.entry
  by_cases hj : j = i
  · subst hj; simp [List.getD_eq_getElem?_getD, h]
  · simp [List.getD_eq_getElem?_getD, List.getElem?_set_ne (Ne.symm hj), hj]

theorem setEntry_same (i : Nat) (s : State) (h : i < s.ctb.entries.length) : setEntry i (s.entry i) s = s := by
  unfold setEntry State.modCtb State.entry
  simp only [List.getD_eq_getElem?_getD, List.getElem?_eq_getElem h, Option.getD_some, List.set_getElem_self]

theorem modRun_entry (i j : Nat) (f : RunPart → RunPart) (s : State) (h : i < s.ctb.entries.length) :
    (modRun i f s).entry j = if j = i then (s.entry i).map (fun e => { e with run := f e.run }) else s.entry j :=
  setEntry_entry i j _ s h

theorem entry_none_of_le (i : Nat) (s : State) (h : s.ctb.entries.length ≤ i) : s.entry i = none := by
  unfold State.entry; rw [List.getD_eq_getElem?_getD, List.getElem?_eq_none h]; rfl

/-- Taking the indexes below `n` in turn, each turn changing its own entry by `g` and keeping `keep`, changes the first `n`
entries by `g`. -/
theorem forIndexes_entries (g : Option CueEntry → Option CueEntry) (f : Nat → State → State) (keep : State → Prop)
    (hf : ∀ i s, keep s → i < s.ctb.entries.length → keep (f i s) ∧ (f i s).ctb.entries = s.ctb.entries.set i (g (s.entry i)))
    (n : Nat) (s : State) (hk : keep s) (hn : n ≤ s.ctb.entries.length) :
    keep (forIndexes n f s) ∧
    (forIndexes n f s).ctb.entries = (s.ctb.entries.take n).map g ++ s.ctb.entries.drop n := by
  induction n with
  | zero => simpa [forIndexes] using hk
  | succ n ih =>
    obtain ⟨hk', he⟩ := ih (by omega)
    have step : forIndexes (n + 1) f s = f n (forIndexes n f s) := by simp [forIndexes, List.range_succ]
    have hlen : (forIndexes n f s).ctb.entries.length = s.ctb.entries.length := by rw [he]; simp; omega
    obtain ⟨hk'', he'⟩ := hf n (forIndexes n f s) hk' (by omega)
    refine ⟨step ▸ hk'', ?_⟩
    have hentry : (forIndexes n f s).entry n = s.entry n := by
      unfold State.entry
      rw [he, List.getD_eq_getElem?_getD, List.getD_eq_getElem?_getD, List.getElem?_append_right (by simp)]
      simp [Nat.min_eq_left (show n ≤ s.ctb.entries.length by omega)]
    rw [step, he', hentry, he]
    have hlt : n < s.ctb.entries.length := by omega
    rw [List.set_append_right _ _ (by simp), List.take_succ_eq_append_getElem hlt, List.map_append]
    simp only [List.length_map, List.length_take, Nat.min_eq_left (Nat.le_of_lt hlt), Nat.sub_self, List.append_assoc]
    have hset : (s.ctb.entries.drop n).set 0 (g (s.entry n)) = g (s.entry n) :: s.ctb.entries.drop (n + 1) := by
      rw [List.drop_eq_getElem_cons hlt]; rfl
    rw [hset]
    simp [State.entry, List.getD_eq_getElem?_getD, hlt]

/-- The whole table in turn. -/
theorem forIndexes_table (g : Option CueEntry → Option CueEntry) (f : Nat → State → State) (keep : State → Prop)
    (hf : ∀ i s, keep s → i < s.ctb.entries.length → keep (f i s) ∧ (f i s).ctb.entries = s.ctb.entries.set i (g (s.entry i)))
    (s : State) (hk : keep s) (hn : s.ctb.entries.length = Config.cueCount) :
    keep (forIndexes Config.cueCount f s) ∧ (forIndexes Config.cueCount f s).ctb.entries = s.ctb.entries.map g := by
  have h := forIndexes_entries g f keep hf Config.cueCount s hk (by omega)
  rwa [← hn, List.take_length, List.drop_length, List.append_nil, hn] at h

end Sys2Proof.Machine
end

