-- ==== Sys2Proof/Tests/Slice0.lean ====
section
/-! SUPPORT. Tests. The WellFormed smoke, one-step tests whose expected results are the spec's worked examples and tables, and for
every statement with hypotheses a witness that they can be met. Moments are in µs. -/

namespace Sys2Proof.Tests
open Sys2Proof Sys2Proof.Machine

/-- The state after a command. -/
def after (i : Instr) (s : State) : State :=
  match exec i s with
  | .next u => u
  | _ => s

/-! ## WellFormed: one ill-formed command for each check -/

def aHead : CueHead := { id := 40, reel := 2, global := 0, mask := 8, group := 31, frame := 0, phase := 0 }
def anOrder : ControlArgs := { target := 31, reel := 2, id := 31, arg1 := 0, arg2 := 0 }

theorem test_wf_sender : (Instr.cueheadFrame 0 0 24 aHead).wf = false ∧ (Instr.cueheadFrame 0 0 23 aHead).wf = true := by decide

theorem test_wf_control_unknown :
    (Instr.controlUnknown 0 0 1 9 anOrder).wf = false ∧ (Instr.controlUnknown 0 0 1 10 anOrder).wf = true := by decide

theorem test_wf_unknown_command :
    (Instr.unknownCommand 0 6 ⟨⟨0, 0, 0⟩, 0⟩).wf = false ∧ (Instr.unknownCommand 0 7 ⟨⟨0, 0, 0⟩, 0⟩).wf = true ∧
    (Instr.unknownCommand 0 31 ⟨⟨15, 63, 1023⟩, 63⟩).wf = false := by decide

theorem test_wf_bad_sender :
    (Instr.badClassOrSender 0 (some (0, 23))).wf = false ∧ (Instr.badClassOrSender 0 (some (0, 24))).wf = true ∧
    (Instr.badClassOrSender 0 (some (7, 24))).wf = false ∧
    (Instr.badClassOrSender 0 none).wf = true := by decide

theorem test_wf_vsync :
    (Instr.vsyncEdge 0 3 [960, 960, 960]).wf = false ∧ (Instr.vsyncEdge 0 3 [960, 960]).wf = true := by decide

/-! ## Words and bits -/

theorem test_no_row_gives_bits : decodeTableWord 32 0x90800000 = none ∧ State.reset.withFetchWord 32 0x90800000 = State.reset := by
  decide

/-- 12, worked example: the SEND of a CONTROL is 9080_0000h. -/
theorem test_send_word :
    bitsNat (ServiceFrame.command 4 { view := 2, index := 0, word := 0 } 0).bits = 0x90800000 ∧
    ServiceFrame.decode (fieldBits (0x90800000 : BitVec 32)) = .command 4 { view := 2, index := 0, word := 0 } 0 := by decide

/-- 12, worked example: the CONTROL frame has arbitration field 64 and occupies 100 bit times. -/
theorem test_control_frame_bits :
    bitsNat (((frameBits 0 (.control 0 { anOrder with target := 12 })).drop 1).take 8) = 64 ∧
    (frameBits 0 (.control 0 { anOrder with target := 12 })).length = 100 := by decide

/-! ## States of the tests -/

/-- Station 20 of 10 section 10.9, just out of its full reset. -/
def st20 : State := { State.reset with straps := { station := 20, rank := 3, autostart := false }, settings := .default 20 }

def picture : ChanSettings := { ChanSettings.default 0 with role := .picture }
def recorder : ChanSettings := { ChanSettings.default 2 with role := .record, trim := -40 }

/-- A station 12 that plays the picture on A, records group 2 on B and serves position 3 on LT0. -/
def desk : Settings := { Settings.default 12 with a := picture, b := recorder, lt0 := 3, collect := true }

def station12 : State :=
  { State.reset with
    straps := { station := 12, rank := 1, autostart := false }, settings := desk
    clp := { Clp.reset with line := .active, rx := .ready, rxCount := 11 }, mkl := { Mkl.reset with key := .armed } }

/-- The chosen source of the prediction examples of 03: frame 1000 at 5,000,000, 24 frames a second. -/
def projector : Source :=
  { sender := 2, isLocal := false, rank := 0, motion := .forward
    record := some { b := 1000, stamp := 5000000, dir := .forward, wrap := false }
    interval := none, hold := none, lastBeacon := 5000000, aging := some 5500000 }

def playing : Ptr :=
  { Ptr.reset with
    sources := some projector :: List.replicate 7 none, state := .tracking, motion := .forward, chosen := some 2
    recNew := projector.record, recOld := some { b := 999, stamp := 4958333, dir := .forward, wrap := false }
    interval := some 41667, playable := true }

/-- Station 12 following that source in RECORD, its recorder in SYNC. -/
def rolling : State :=
  { station12 with timebase := 5010000, ptr := playing, csh := { Csh.reset with mode := .record }, lockB := ⟨.sync, 0, 0, 0⟩ }

/-- Reel 2, cue 31 of 06 Table 6-5. -/
def cue31 : CueDef :=
  { id := 31, reel := 2, global := false, mask := 8, group := some 2, frame := 1000, phase := 200, streamer := 24, colour := 1,
    beeps := 3, spacing := 8, light := true, lightLead := 2, lightHold := 0, punchLead := 2, outOffset := 40 }

def inRun (st : RunState) : RunPart := { RunPart.start with state := st, passes := 1 }

/-- The cue in entry 5. -/
def withCue (r : RunPart) (s : State) : State :=
  { s with ctb := { s.ctb with entries := s.ctb.entries.set 5 (some { cue := cue31, run := r }) } }

def withDue (l : List Due) (s : State) : State := { s with csh := { s.csh with due := l } }

/-! ## The service port: 10 section 10.9, 11 section 11.8, 12 -/

/-- Frame 2: the 64th one resynchronises. -/
theorem test_resynchronise :
    (after (.resynchronise 0) { st20 with svc := { Svc.reset with pending := .write ⟨0, 0, 3⟩ } }).svc.pending = .none := by decide

/-- R175, R176: an idle frame after 37 ones resynchronises at its 27th one and leaves 5 ones sampled; the next frame's first 27 bits
complete theirs. -/
theorem test_framing :
    let s := after (.idleFrame 0) { st20 with svc := { Svc.reset with ones := 37 } }
    s.svc.sampled = List.replicate 5 true ∧ s.svc.ones = 5 ∧ (after (.nop 32 ⟨⟨0, 0, 0⟩, 0⟩) s).svc.sampled.length = 5 := by decide +kernel

/-- Frames 4 and 8: 2 makes A a RECORD channel; 300 is refused, and the response is 64 with the refusal flag. -/
theorem test_write_config :
    (after (.writeConfig 0 ⟨2, 0⟩) { st20 with svc := { Svc.reset with pending := .write ⟨0, 0, 3⟩ } }).settings.a.role = .record ∧
    (after (.writeConfig 0 ⟨300, 0⟩) { st20 with svc := { Svc.reset with pending := .write ⟨0, 0, 21⟩ } }).svc.response =
      { data := 64, line := .config, alert := false, refusal := true } := by decide +kernel

/-- Frame 11: START clamps a tolerance of 200 to 128 with CONFIG_CLAMP and enters JOINING. -/
theorem test_start :
    let u := after (.start 2000000 ⟨⟨0, 0, 0⟩, 0⟩) { st20 with settings := { st20.settings with tolerance := 200 } }
    u.settings.tolerance = 128 ∧ u.flt.counts.getD 6 0 = 1 ∧ u.clp.line = .joining ∧ u.clp.joinTimer = some 2300000 := by decide +kernel

/-- Frame 12: READ of the clamped tolerance. -/
theorem test_read :
    (after (.read 0 ⟨⟨0, 0, 21⟩, 0⟩) { st20 with settings := { st20.settings with tolerance := 128 } }).svc.response.data = 128 := by
  decide +kernel

/-- Frame 14: a write to the frozen configuration is refused with the word's value 4 and SACK of two periods. -/
theorem test_write_frozen :
    let u := after (.writeDataOther 0 ⟨5, 0⟩)
      { st20 with clp := { Clp.reset with line := .joining }, svc := { Svc.reset with pending := .write ⟨0, 0, 22⟩ } }
    u.svc.response = { data := 4, line := .joining, alert := false, refusal := true } ∧ u.svc.sack = 2 := by decide +kernel

/-- 12, worked example: the responses read 5, and at the last word the frame ARM reel 2, cue 31 at station 12 is placed. -/
theorem test_send :
    (after (.send 0 2 0 ⟨0, 0⟩) rolling).svc.response.data = 5 ∧
    (after (.sendPayloadWord 0 ⟨0, 0⟩) { rolling with svc := { Svc.reset with pending := .send 2 [0x0604, 0x03E0, 0, 0] 5 } }).clp.queue =
      [.frame (.control 0 { anOrder with target := 12 })] := by decide +kernel

/-- 11 section 11.8: ATTENTION with 17 enabled and CUE_DONE pending leaves 20 pending and ALERTN active; writing 20 clears both. -/
theorem test_alert :
    let u := after (.attention 9 5 0 anOrder) { rolling with flt := { Flt.reset with enable := 17, causes := 4 } }
    u.flt.causes = 20 ∧ u.alertnPin = false ∧
    (after (.writeAlertPending 9 ⟨20, 0⟩) { u with svc := { Svc.reset with pending := .write ⟨9, 0, 1⟩ } }).alertnPin = true := by decide +kernel

/-- 11 section 11.8: a body without its header is ORPHAN_BODY with the sender, and writing the FAULT view empties the record. -/
theorem test_orphan :
    let u := after (.cuebodyFrame 8000000 7999900 0
      { id := 40, reel := 2, streamer := 0, colour := 0, beeps := 0, spacing := 0, light := 0, lightLead := 0, lightHold := 0,
        punchLead := 0, outOffset := 0 }) station12
    u.flt.counts.getD 13 0 = 1 ∧
    u.flt.first = some { kind := .orphanBody, stamp := 8000000, pos := none, chan := none, cue := some (2, 40), sender := some 0 } ∧
    (after (.writeFault 8000001 ⟨0, 0⟩) { u with svc := { Svc.reset with pending := .write ⟨8, 0, 0⟩ } }).flt.first = none := by decide +kernel

/-! ## The line: 01 sections 1.7 and 1.8 -/

def aBeacon : Beacon := { rank := 1, motion := 1, kind := 0, wrap := 0, frame := 700, phase := 0, interval := 0, age := 0 }

/-- The beacon of stamp 7,000,100 goes out at 7,000,900 with age 800; one of stamp 6,996,000 is withdrawn. -/
theorem test_beacon_age :
    (after (.transmitStart 7000900) { station12 with clp := { station12.clp with slot := some ⟨aBeacon, 7000100⟩ } }).clp.inFlight =
      some { frame := .beacon { aBeacon with age := 800 }, source := .slot false } ∧
    (after (.transmitStart 7000900) { station12 with clp := { station12.clp with slot := some ⟨aBeacon, 6996000⟩ } }).clp.slot = none := by
  decide

/-- R3: a receiver that enters HUNT counts 11 recessive bit times before READY; a peer's start bit then gives RECEIVING, and one
after only 10 recessive bit times is LINE_FRAMING. -/
theorem test_receiver :
    let hunting := { station12 with timebase := 100, clp := { station12.clp with rx := .hunt, rxCount := 0 } }
    (after (.receiverReady 110) hunting).clp.rx = .hunt ∧ (after (.receiverReady 111) hunting).clp.rx = .ready ∧
    (after (.framingViolation 111) (after (.framingViolation 105) hunting)).clp.rxCount = 0 ∧
    (let peer := after (.framingViolation 120) (after (.receiverReady 111) hunting)
     peer.clp.rx = .receiving ∧ peer.clp.rxStamp = 120) ∧
    (after (.framingViolation 110) { hunting with clp := { hunting.clp with rx := .ready } }).flt.counts.getD 1 0 = 1 := by decide

/-- R4's Note: READY comes 11 bit times after the last dominant bit: 8 after class 7, 4 after the header 011 11111, whose last dominant
bit is its first, 11 after one of sender 24, and 7 after a failed frame that ends in 4 recessive bits. -/
theorem test_hunt_count :
    let s := { station12 with timebase := 100, clp := { station12.clp with rx := .receiving } }
    let ready := fun h n => (after (.receiverReady (103 + n)) (after (.badClassOrSender 103 h) s)).clp.rx
    ready none 7 = .hunt ∧ ready none 8 = .ready ∧ ready (some (3, 31)) 3 = .hunt ∧ ready (some (3, 31)) 4 = .ready ∧
    ready (some (0, 24)) 10 = .hunt ∧ ready (some (0, 24)) 11 = .ready ∧
    (after (.receiverReady 110) (after (.lineCheck 103 ⟨12, 4⟩) s)).clp.rx = .ready := by decide

/-- R3, R9: the own start bit read recessive leaves the receiver in READY, a later bit error in RECEIVING; LINE_BIT either way,
with a STATUS frame for the fault flag. -/
theorem test_bit_error :
    let sent := after (.transmitStart 7000900) { station12 with clp := { station12.clp with queue := [.frame (.control 0 anOrder)] } }
    sent.clp.rx = .receiving ∧ (after (.ownBitError 7000900) sent).clp.rx = .ready ∧ (after (.ownBitError 7000905) sent).clp.rx = .receiving ∧
    (after (.ownBitError 7000900) sent).clp.queue = [.status] ∧ (after (.ownBitError 7000905) sent).flt.counts.getD 2 0 = 1 := by decide

/-- A STATUS frame of station 12 reaches station 20's peer table. -/
theorem test_peer :
    (after (.statusFrame 2104400 2104310 12 { refState := 1, motion := 1, mode := 1, lockA := 2, lockB := 0, fault := 0 })
      { st20 with clp := { Clp.reset with line := .joining, rx := .ready } }).clp.peers.getD 12 Peer.reset =
      { heard := true, refState := .tracking, motion := .forward, mode := .record, lockA := .sync, lockB := .unlocked,
        fault := false, last := 2104310 } := by decide

/-- The listen timer's expiry gives ACTIVE with a STATUS frame after what waits. -/
theorem test_join :
    let u := after (.joinListenExpiry 2300000)
      { st20 with clp := { Clp.reset with line := .joining, joinTimer := some 2300000, queue := [.frame (.control 0 anOrder)] } }
    u.clp.line = .active ∧ u.clp.queue = [.frame (.control 0 anOrder), .status] := by decide

/-- A frame with the own number in JOINING gives DUPLICATE with an empty queue and DUP_STATION. -/
theorem test_duplicate :
    let u := after (.ownNumberFrame 2104310)
      { st20 with clp := { Clp.reset with line := .joining, rx := .ready, joinTimer := some 2300000, queue := [.frame (.control 0 anOrder)] } }
    u.clp.line = .duplicate ∧ u.clp.queue = [] ∧ u.clp.joinTimer = none ∧ u.flt.counts.getD 4 0 = 1 := by decide +kernel

/-! ## Tach channels: 02 -/

/-- Channel A of the QUAD example just before its fourth edge: frame 100 by the offset, unit counter 3. -/
def quad : State :=
  { station12 with
    settings := { desk with a := { picture with offset := 100 } }
    pins := { idleLevels with ap2 := true }
    chA := { Channel.reset with
      p1 := ⟨some false, some 1020000⟩, p2 := ⟨some true, some 1010000⟩, unit := 3, lastDir := some true, motion := .forward
      stall := some 1270000, fwd := 3 } }

/-- P2 falls: a forward unit completes the frame, with record B = 101. -/
theorem test_quad_forward :
    let u := (after (.tachEdge 1030000 .a .p2 false) quad).chA
    u.unit = 0 ∧ u.frame = 1 ∧ u.recNew = some { b := 101, stamp := 1030000, dir := .forward, wrap := false } := by decide

/-- P2 rises again: a reverse unit goes back to unit 3 of frame 100, with record B = 101; its hold position is 100:192. -/
theorem test_quad_reverse :
    let s := { quad with
      pins := idleLevels
      chA := { quad.chA with unit := 0, frame := 1, p2 := ⟨some false, some 1030000⟩ } }
    let u := (after (.tachEdge 1040000 .a .p2 true) s).chA
    u.unit = 3 ∧ u.frame = 0 ∧ u.motion = .reverse ∧ u.recNew = some { b := 101, stamp := 1040000, dir := .reverse, wrap := false } ∧
    holdPosition { picture with offset := 100 } u = 100 * 256 + 192 := by decide

/-- The stall timer's expiry gives STOPPED. -/
theorem test_stall :
    (after (.tachStallExpiry 1290000 .a) { quad with chA := { quad.chA with stall := some 1290000 } }).chA.motion = .stopped := by
  decide

/-- Index slip: a forward index pulse at unit counter 3 of 4 slips and gives record B = 2. -/
theorem test_index_slip :
    let s := { station12 with
      settings := { desk with b := { recorder with index := true, pulse := true } }
      chB := { Channel.reset with ix := ⟨some false, none⟩, unit := 3, frame := 1, lastDir := some true } }
    let u := after (.indexPulse 50 .b true) s
    u.chB.slips = 1 ∧ u.chB.unit = 0 ∧ (u.chB.recNew.map fun r => r.b) = some 2 ∧ u.flt.counts.getD 7 0 = 1 := by decide

/-- The loop wraps: at frame 1503 of the pair 1500, 1503 the step goes to 1500 with the wrap flag; a reverse step from 1500 gives B =
1504; with E = 1499 the pair is disabled. -/
theorem test_wrap :
    forwardStep { picture with offset := 1000 } { Channel.reset with frame := 503, wrap := ⟨true, 1500, 1503⟩ } =
      { frame := 500, b := 1500, dir := .forward, wrap := true } ∧
    reverseStep { picture with offset := 1000 } { Channel.reset with frame := 500, wrap := ⟨true, 1500, 1503⟩ } =
      { frame := 503, b := 1504, dir := .reverse, wrap := true } ∧
    (after (.wrap 9 5 0 { anOrder with arg1 := 1500, arg2 := 1499 }) rolling).chA.wrap.enabled = false := by decide

/-! ## The reference: 03 -/

/-- The worked cases of prediction. -/
theorem test_predict :
    playing.position 5020000 = some 256122 ∧ { playing with motion := .reverse }.position 5020000 = some 255878 ∧
    playing.position 5050000 = some 256255 ∧ playing.position 4999000 = some 256000 := by decide

/-- Station 10: its first beacon, B = 500 of age 300, takes the reference to TRACKING with the record at 999,700. -/
theorem test_first_beacon :
    let u := (after (.beaconFrame 1000050 1000000 6 { aBeacon with frame := 500, age := 300 }) station12).ptr
    u.state = .tracking ∧ u.chosen = some 6 ∧ u.recNew = some { b := 500, stamp := 999700, dir := .forward, wrap := false } := by decide +kernel

/-- The only source ages out: HOLD, and SOURCE_LOST with its number. -/
theorem test_aging :
    let u := after (.sourceAgingExpiry 5500000 2) rolling
    u.ptr.state = .hold ∧ (u.flt.first.bind fun r => r.sender) = some 2 := by decide +kernel

/-! ## Locks: 04 section 4.7 -/

/-- The record 1002 at 5,090,000 is good with error −40, the third in a row: SYNC. -/
theorem test_lock_sync :
    (lockBoundary .b { b := 1002, stamp := 5090000, dir := .forward, wrap := false }
      { rolling with
        chB := { Channel.reset with motion := .forward }, lockB := ⟨.chasing, -38, 2, 0⟩
        ptr := { playing with recNew := some { b := 1002, stamp := 5083334, dir := .forward, wrap := false } } }).lockB =
      ⟨.sync, -40, 0, 0⟩ := by decide

/-- The record 1006 against boundary 1007 has error −307, the second bad one: CHASING. -/
theorem test_lock_lost :
    (lockBoundary .b { b := 1006, stamp := 5300000, dir := .forward, wrap := false }
      { rolling with
        chB := { Channel.reset with motion := .forward }, lockB := ⟨.sync, -255, 0, 1⟩
        ptr := { playing with recNew := some { b := 1007, stamp := 5291669, dir := .forward, wrap := false } } }).lockB =
      ⟨.chasing, -307, 0, 0⟩ := by decide +kernel

/-! ## Cue loading: 05 -/

/-- Eviction: a header of station 14 takes the place of the oldest of 1, 2, 5, 8, with STAGE_EVICT and sender 1. -/
theorem test_evict :
    let s := { station12 with ctb := { Ctb.reset with staging := [⟨1, aHead⟩, ⟨2, aHead⟩, ⟨5, aHead⟩, ⟨8, aHead⟩] } }
    let u := after (.cueheadFrame 9 5 14 aHead) s
    (u.ctb.staging.map fun x => x.sender) = [2, 5, 8, 14] ∧ (u.flt.first.bind fun r => r.sender) = some 1 ∧
    ((after (.cueheadFrame 9 5 5 aHead) s).ctb.staging.map fun x => x.sender) = [1, 2, 8, 5] := by decide

/-- The body of cue 42 with beep count 6 and spacing 0 stores count 4 and spacing 1, with CUE_FIELD twice. -/
theorem test_commit :
    let s := { station12 with ctb := { Ctb.reset with staging := [⟨0, { aHead with id := 42 }⟩] } }
    let u := after (.cuebodyFrame 9 5 0
      { id := 42, reel := 2, streamer := 0, colour := 0, beeps := 6, spacing := 0, light := 0, lightLead := 0, lightHold := 0,
        punchLead := 0, outOffset := 0 }) s
    ((u.entry 0).map fun e => (e.cue.beeps, e.cue.spacing, e.run.state)) = some (4, 1, .idle) ∧ u.flt.counts.getD 10 0 = 2 := by decide

/-- A drop overtakes a load: DROPREEL empties the entry and removes the staged header. -/
theorem test_dropreel :
    let s := { rolling with ctb := { rolling.ctb with staging := [⟨0, { aHead with id := 31 }⟩] } }
    let u := after (.dropreel 9 5 0 anOrder) (withCue (inRun .armed) s)
    u.entry 5 = none ∧ u.ctb.staging = [] := by decide +kernel

/-! ## Scheduling: 06 -/

/-- 06 Table 6-5: the positions of the elements of entry 5. -/
theorem test_elements :
    ((allElements.filter (relevant desk cue31)).map fun el => elementPos desk cue31 el) =
      [250056, 255688, 255648, 254152, 252104, 250056, 266400, 266440, 266440] := by decide

/-- The fire times of the boundary 998 at 3,000,000: PUNCH_IN at 3,026,042, LIGHT_ON at 3,032,553, and BEEP 1 of another cue at
3,016,277. -/
theorem test_fire_times :
    fireTime 998 3000000 41667 255648 = 3026042 ∧ fireTime 998 3000000 41667 255688 = 3032553 ∧
    fireTime 998 3000000 41667 (998 * 256 + 100) = 3016277 := by decide

/-- PUNCH_IN in RECORD and SYNC: RECORDED, the punch open on the channel of the group, and its frame queued. -/
theorem test_punch_in :
    let u := after (.elementTimerExpiry 5026042) (withDue [⟨5, .punchIn, 255648, 5026042⟩] (withCue (inRun .running) rolling))
    ((u.entry 5).map fun e => (e.run.punch, e.run.punchOpen, e.run.punched)) = some (.recorded, true, true) ∧ u.cou.punchB = 1 ∧
    u.clp.queue.length = 1 := by decide

/-- SPAN_END: PASSED, COMPLETE, a take for a PUNCHED run, CUE_DONE. -/
theorem test_span_end :
    let u := after (.elementTimerExpiry 5026042)
      (withDue [⟨5, .spanEnd, 266440, 5026042⟩] (withCue { inRun .running with punched := true } rolling))
    ((u.entry 5).map fun e => (e.run.state, e.run.outcome, e.run.takes)) = some (.passed, .complete, 1) ∧ u.flt.causes = causeCueDone := by
  decide

/-- Rock and roll: DISARM of the running cue closes its punch with ABORT. -/
theorem test_disarm :
    let s := { rolling with cou := { Cou.reset with punchB := 1, holds := [1, 0, 0, 0] } }
    let u := after (.disarm 5012000 5011900 0 anOrder)
      (withCue { inRun .running with fired := 7, punched := true, punchOpen := true, lightOpen := true, punch := .recorded } s)
    ((u.entry 5).map fun e => (e.run.state, e.run.outcome, e.run.punch)) = some (.idle, .interrupted, .aborted) ∧ u.cou.punchB = 0 ∧
    u.cou.holds = [0, 0, 0, 0] := by decide

/-! ## Outputs: 07 -/

/-- Overlapping beeps: a beep at 1,020,000 moves the gate end from 1,040,000 to 1,060,000, where the gate closes. -/
theorem test_beeps :
    (beep { rolling with timebase := 1020000, cou := { Cou.reset with gate := some ⟨1040000, 1000000⟩ } }).cou.gate =
      some ⟨1060000, 1000000⟩ ∧
    (after (.toneGateEnd 1060000) { rolling with cou := { Cou.reset with gate := some ⟨1060000, 1000000⟩ } }).cou.gate = none := by decide

def punch31 : PunchArgs := { group := 2, reel := 2, id := 31, reason := 1, frame := 1000, phase := 0 }

/-- Tally: PUNCH IN of station 20 for the running cue joins and gives the tally notice; PUNCH OUT removes it. -/
theorem test_tally :
    let u := after (.punchInFrame 5012000 5011900 20 punch31) (withCue (inRun .running) rolling)
    (u.cou.tally.map fun x => (x.station, x.id)) = [(20, 31)] ∧ ((u.entry 5).map fun e => e.run.punched) = some true ∧
    (after (.punchOutFrame 5013000 5012900 20 punch31) u).cou.tally = [] := by decide

/-! ## The overlay: 08 -/

/-- VSYNC edge 5 of the first example settles 960 with 262 and 263 lines; edge 7 is unmeasurable. -/
theorem test_settle :
    let s := { st20 with ovl := { Ovl.reset with raster := .acquiring, watch := some 9, run := ⟨3, 960, 262, 263⟩ } }
    (after (.vsyncEdge 5 262 [960, 960]) s).ovl.settled = some ⟨960, 262, 263⟩ ∧
    (after (.vsyncEdge 5 262 [960, 864]) s).ovl.run.count = 0 := by decide

/-- AUTO captures 960, 120, 720, 262, 21, 218 from it. -/
theorem test_capture :
    captureOf ⟨960, 262, 263⟩ = { total := 960, start := 120, width := 720, lines := 262, first := 21, active := 218 } := by decide

/-- The streamers' first pixels of the second example: entries 2, 6, 9, 11 and 14. -/
theorem test_streamer_pixels :
    let g := captureOf ⟨960, 262, 263⟩
    streamerX g 72 9216 = 480 ∧ streamerX g 24 1336 = 683 ∧ streamerX g 48 312 = 821 ∧ streamerX g 48 3996 = 605 ∧
    streamerX g 72 10296 = 437 := by decide

/-- Sample pixels of that field: line 20, the border at 200 of line 22, the streamers of entries 2 and 9 over it. -/
theorem test_pixels :
    let l : FieldList :=
      { streamers := [⟨9, 312, 821, 0⟩, ⟨6, 1336, 683, 2⟩, ⟨11, 3996, 605, 3⟩, ⟨2, 9216, 480, 1⟩], flash := some 17, border := true }
    let at_ := fun line pixel => l.pixel (captureOf ⟨960, 262, 263⟩) 4 line pixel
    at_ 20 200 = none ∧ at_ 22 200 = some 5 ∧ at_ 22 481 = some 1 ∧ at_ 22 822 = some 0 := by decide

/-! ## Marks: 09 -/

/-- The press at 5,022,300 latches 1000:137 and the running cue (2, 31). -/
theorem test_press :
    ((after (.marknFallingEdge 5022300) (withCue (inRun .running) rolling)).mkl.latch.map fun l => (l.pos, l.cue)) =
      some (some 256137, some (2, 31)) := by decide

/-- Its acceptance logs the mark (0, 17), raises the serial to 18 and queues the frame. -/
theorem test_mark :
    let s := { rolling with mkl := { Mkl.reset with
      key := .pressing, timer := some 5042300, serial := 17, latch := some ⟨some 256137, .tracking, .forward, .record, some (2, 31)⟩ } }
    let u := after (.keyDebounceExpiry 5042300) s
    u.mkl.key = .held ∧ u.mkl.serial = 18 ∧ (u.mkl.log.map fun r => (r.station, r.serial)) = [(12, 17)] ∧ u.clp.queue.length = 1 ∧
    u.flt.causes = causeMark := by decide

/-! ## Resets -/

/-- R189, R191: with AUTOSTART the station joins; R187: station number 24 is BAD_STRAP. -/
theorem test_full_reset :
    (after (.fullReset 100 { station := 5, rank := 0, autostart := true } idleLevels) rolling).clp.line = .joining ∧
    (after (.fullReset 100 { station := 24, rank := 0, autostart := true } idleLevels) rolling).flt.counts.getD 5 0 = 1 := by decide

/-- R190: a RESTART keeps the settings and the counts. -/
theorem test_restart :
    let u := after (.restart 100 ⟨⟨0, 0, 0⟩, 0⟩ { station := 5, rank := 0, autostart := false })
      { rolling with flt := { Flt.reset with counts := Flt.reset.counts.set 3 7, causes := 5 } }
    u.settings = desk ∧ u.flt.counts.getD 3 0 = 7 ∧ u.flt.causes = 1 ∧ u.clp.line = .config ∧ u.straps.station = 5 := by decide +kernel

/-- R14, R191: while RESETN is active the receiver's recessive count stays 0, with commands and without. -/
theorem test_held_receiver :
    let s := holdReset rolling
    (after (.idleFrame 5099000) s).clp.rxCount = 0 ∧ s.tick.clp.rxCount = 0 ∧ rolling.tick.timebase = s.tick.timebase := by
  decide +kernel

/-- Tables 12-12, 12-16 and 12-20: words of a running cue, of the line, and of the own peer entry. -/
theorem test_view_words :
    (let s := withCue (inRun .running) rolling
     (s.viewWords 2 5).take 2 = [0x801F, 0x0202] ∧ (s.viewWords 2 5).getD 10 0 = 0x0002) ∧
    (rolling.viewWords 1 0).getD 0 0 = 0x0006 ∧ (rolling.viewWords 4 12).getD 0 0 = 0x0115 := by
  decide +kernel

/-! ## Witnesses: every hypothesis of every statement can be met -/

theorem takes_of {s : State} {n : BitVec 5}
    (h : s.resetActive = false ∧ s.clp.rx ≠ .hunt ∧ s.listening = true ∧ n.toNat < 24 ∧ n ≠ s.own) : s.takes n := h

theorem room_of {c : Clp} (h : c.queue.length < 8 ∨ c.line ≠ .active) : c.room := h

theorem portTakes_of {s : State} {fr : ServiceFrame}
    (h : s.resetActive = false ∧ s.svc.sampled = [] ∧ false ∈ fr.bits ∧ runs64 s.svc.ones fr.bits = false) : s.portTakes fr := h

theorem portFree_of {s : State} {fr : ServiceFrame}
    (h : (s.resetActive = false ∧ s.svc.sampled = [] ∧ false ∈ fr.bits ∧ runs64 s.svc.ones fr.bits = false) ∧
      s.svc.pending = .none) : s.portFree fr := h

/-- A command frame whose not-used bits are ones, and a data frame. -/
def aCommand (code : BitVec 5) (f : CmdFields) : ServiceFrame := .command code f 63
def aData (d : DataWord) : ServiceFrame := .data d 0x7FFF

def withSvc (x : PendingCmd) (s : State) : State := { s with svc := { s.svc with pending := x } }

/-- A CONTROL order to every station, of the running cue. -/
def allStations : ControlArgs := anOrder

theorem witness_StepTakesTheFrontCommand : rolling.pending = [] ∧ (holdReset rolling).pending = [] := by decide

theorem witness_EveryCommandCompletes : samplesStraps (.idleFrame 0) = false := by decide

theorem witness_HeldPartOnlyLetsTimePass :
    (holdReset rolling).resetActive = true ∧ (holdReset rolling).heldOk = true ∧
    (∀ t st levels, Instr.tachEdge 9 .a .p1 true ≠ .fullReset t st levels) ∧ (holdReset rolling).pending = [] ∧
    rolling.heldOk = true ∧ ∃ u, step (holdReset rolling) = .next u :=
  ⟨rfl, by decide +kernel, fun _ _ _ => nofun, rfl, rfl, _, rfl⟩

theorem witness_FullResetResult :
    24 ≤ ({ station := 24, rank := 0, autostart := true } : Straps).station.toNat ∧
    ({ station := 23, rank := 0, autostart := true } : Straps).station.toNat < 24 := by decide

theorem witness_RestartResult :
    rolling.portFree (aCommand 6 ⟨0, 0, 0⟩) ∧ rolling.flt.ok = true ∧
    ({ station := 24, rank := 0, autostart := true } : Straps).station.toNat = 24 ∧
    ({ station := 23, rank := 0, autostart := true } : Straps).station.toNat < 24 :=
  ⟨portFree_of (by decide), by decide⟩

theorem witness_ReadGoesThroughTheCaptureBuffer :
    rolling.portFree (aCommand 1 ⟨0, 0, 36⟩) ∧ wordExists ⟨0, 0, 36⟩ = true ∧ (0 : BitVec 4) ≠ markView ∧ viewSize 0 = some (1, 37) ∧
    (let s := { rolling with svc := { Svc.reset with capture := some ⟨0, 0, [1, 2]⟩ } }
     s.portFree (aCommand 1 ⟨0, 0, 1⟩) ∧ s.svc.capture = some ⟨0, 0, [1, 2]⟩ ∧ (1 : BitVec 10) ≠ 0 ∧ wordExists ⟨0, 0, 1⟩ = true) :=
  ⟨portFree_of (by decide), by decide, by decide, by decide, portFree_of (by decide), rfl, by decide, by decide⟩

theorem witness_MarkReadsAreLive :
    let r : MarkRec := { serial := 17, station := 12, latch := ⟨none, .none, .stopped, .rehearse, none⟩ }
    let s := { rolling with mkl := { Mkl.reset with log := [r] } }
    s.portFree (aCommand 1 markTakeFields) ∧ s.portFree (.command 1 markTakeFields 0) ∧ wordExists markTakeFields = true ∧ s.mkl.log = r :: [] ∧
    wordExists ⟨markView, 7, 5⟩ = true ∧ rolling.mkl.log = [] :=
  ⟨portFree_of (by decide), portFree_of (by decide), by decide, rfl, by decide, rfl⟩

theorem witness_CommandFramesTaken :
    rolling.portFree (aCommand 3 ⟨2, 31, 12⟩) ∧ wordExists ⟨2, 31, 12⟩ = true ∧ rolling.portFree (aCommand 0 ⟨0, 0, 0⟩) ∧
    rolling.svc.watch = none ∧ ({ rolling with svc := { Svc.reset with watch := some ⟨1, 0, 0⟩ } } : State).portFree (aCommand 0 ⟨0, 0, 0⟩) ∧
    rolling.portFree (aCommand 2 ⟨9, 0, 0⟩) ∧ (9 : BitVec 4).toNat < 10 ∧
    rolling.portFree (.command 4 (sendFields 5 63 1023 127) 63) ∧ (5 : BitVec 3).toNat < 6 :=
  ⟨portFree_of (by decide), by decide, portFree_of (by decide), rfl, portFree_of (by decide), portFree_of (by decide), by decide,
    portFree_of (by decide), by decide⟩

theorem witness_BadNamesAreRefused :
    rolling.portFree (aCommand 1 ⟨0, 0, 37⟩) ∧ rolling.portFree (aCommand 3 ⟨0, 0, 37⟩) ∧ wordExists ⟨0, 0, 37⟩ = false ∧
    rolling.portFree (aCommand 2 ⟨10, 0, 0⟩) ∧ 10 ≤ (10 : BitVec 4).toNat ∧ rolling.portFree (.command 4 (sendFields 6 0 0 0) 0) ∧
    6 ≤ (6 : BitVec 3).toNat ∧ rolling.portFree (aCommand 7 ⟨0, 0, 0⟩) ∧ rolling.portFree (aCommand 31 ⟨15, 63, 1022⟩) :=
  ⟨portFree_of (by decide), portFree_of (by decide), by decide, portFree_of (by decide), by decide, portFree_of (by decide), by decide,
    portFree_of (by decide), portFree_of (by decide)⟩

theorem witness_FramesThatDoNotFitAreRefused :
    (let s := withSvc (.write ⟨0, 0, 3⟩) rolling
     commandOf (.nop 9 ⟨⟨0, 0, 0⟩, 63⟩) = some (9, 0, ⟨0, 0, 0⟩, 63) ∧ s.portTakes (aCommand 0 ⟨0, 0, 0⟩) ∧ s.svc.pending ≠ .none) ∧
    rolling.portFree (aData 7) ∧ dataOf (.writeConfig 9 ⟨7, 0x7FFF⟩) = dataOf (.strayDataFrame 9 ⟨7, 0x7FFF⟩) ∧
    dataOf (.writeConfig 9 ⟨7, 0x7FFF⟩) ≠ none :=
  ⟨⟨by decide, portTakes_of (by decide), by decide⟩, portFree_of (by decide), by decide, by decide⟩

theorem witness_IdleAndResynchronise :
    rolling.resetActive = false ∧ rolling.svc.sampled = [] ∧ rolling.svc.ones < 32 ∧ rolling.svc.pending = .none ∧
    (let s := withSvc (.write ⟨0, 0, 3⟩) { rolling with svc := { Svc.reset with ones := 31 } }
     s.svc.ones < 32 ∧ s.svc.pending ≠ .none ∧ s.resetActive = false ∧ s.svc.sampled = []) ∧
    (let s := { rolling with svc := { Svc.reset with ones := 32 } }
     32 ≤ s.svc.ones ∧ s.svc.ones < 64 ∧ s.svc.sampled = []) := by decide

theorem witness_ConfigWritesAreVerified :
    let s := withSvc (.write ⟨0, 0, 36⟩) st20
    s.svc.pending = .write ⟨0, 0, 36⟩ ∧ s.portTakes (aData 255) ∧ s.portTakes (aData 256) ∧ s.clp.line = .config ∧
    inStoredRange 36 255 ∧ ¬inStoredRange 36 256 ∧ inStoredRange 9 (BitVec.ofInt 16 (-9999)) ∧
    ¬inStoredRange 9 (BitVec.ofInt 16 (-10000)) ∧ ¬inStoredRange 3 3 := by
  refine ⟨rfl, portTakes_of (by decide), portTakes_of (by decide), rfl, ?_⟩
  unfold inStoredRange; decide

theorem witness_ForbiddenWritesAreRefused :
    let s := withSvc (.write ⟨0, 0, 3⟩) rolling
    s.svc.pending = .write ⟨0, 0, 3⟩ ∧ s.portTakes (aData 7) ∧ ¬s.writable ⟨0, 0, 3⟩ ∧ ¬st20.writable ⟨0, 0, 2⟩ ∧
    ¬st20.writable ⟨9, 0, 2⟩ ∧ wordExists ⟨0, 0, 37⟩ = false := by
  refine ⟨rfl, portTakes_of (by decide), ?_⟩
  unfold State.writable; decide

theorem witness_AlertWrites :
    let s := withSvc (.write ⟨9, 0, 1⟩) rolling
    s.svc.pending = .write ⟨9, 0, 1⟩ ∧ s.portTakes (aData 20) ∧ (withSvc (.write ⟨9, 0, 0⟩) rolling).svc.pending = .write ⟨9, 0, 0⟩ :=
  ⟨rfl, portTakes_of (by decide), rfl⟩

theorem witness_FaultWriteClearsTheRecord :
    let s := withSvc (.write ⟨8, 0, 18⟩) rolling
    s.svc.pending = .write ⟨8, 0, 18⟩ ∧ s.portTakes (aData 0) ∧ (18 : BitVec 10).toNat < 19 ∧ s.clp.room :=
  ⟨rfl, portTakes_of (by decide), by decide, room_of (by decide)⟩

theorem witness_SendPayloadWords :
    let s := withSvc (.send 2 [0x0604, 0x03E0, 0, 0] 5) rolling
    s.svc.pending = .send 2 [0x0604, 0x03E0, 0, 0] 5 ∧ s.portTakes (aData 0) ∧
    frameClass (.control 0 { anOrder with target := 12 }) = 2 ∧
    ([0x0604, 0x03E0, 0, 0] ++ [0] : List DataWord).flatMap fieldBits =
      framePayload (.control 0 { anOrder with target := 12 }) ++ List.replicate 5 false ∧
    s.clp.line = .active ∧ s.clp.queue.length < 8 ∧
    (withSvc (.send 2 [0, 0, 0] 5) rolling).svc.pending = .send 2 [0, 0, 0] 5 ∧ ([0, 0, 0] : List DataWord).length + 1 < 5 :=
  ⟨rfl, portTakes_of (by decide), by decide⟩

theorem witness_StartResult :
    rolling.portFree (aCommand 5 ⟨0, 0, 0⟩) ∧ rolling.clp.line ≠ .config ∧
    (let s := { st20 with straps := { station := 24, rank := 0, autostart := false } }
     s.portFree (aCommand 5 ⟨0, 0, 0⟩) ∧ s.clp.line = .config ∧ 24 ≤ s.straps.station.toNat) ∧
    st20.portFree (aCommand 5 ⟨0, 0, 0⟩) ∧ st20.clp.line = .config ∧ st20.straps.station.toNat < 24 ∧ st20.flt.ok = true ∧
    st20.quiet = true ∧ st20.settings.clamped.picture = none ∧
    (let s := { st20 with
       settings := { st20.settings with programmed := true, geometry := ⟨960, 120, 720, 300, 21, 218⟩ }
       ovl := { Ovl.reset with raster := .stable, watch := some 9, settled := some ⟨960, 262, 263⟩ } }
     s.portFree (aCommand 5 ⟨0, 0, 0⟩) ∧ s.clp.line = .config ∧ s.flt.ok = true ∧ s.settings.clamped.picture = none ∧
     (s.ovl.settled.any fun m => !decide (m.total = 960 ∧ (m.least = 300 ∨ m.least = 301))) = true) :=
  ⟨portFree_of (by decide), by decide, ⟨portFree_of (by decide), by decide⟩, portFree_of (by decide), by decide, by decide, by decide,
    by decide, by decide, portFree_of (by decide), by decide⟩

theorem witness_StartAtAPictureStation :
    let s := { st20 with settings := desk }
    s.portFree (aCommand 5 ⟨0, 0, 0⟩) ∧ s.quiet = true ∧ s.clp.line = .config ∧ s.straps.station.toNat < 24 ∧ s.ptr = .reset ∧
    s.settings.clamped.picture = some .a :=
  ⟨portFree_of (by decide), by decide⟩

/-- A state with every invariant in which a cue runs, from which a step is taken. -/
def busy : State := { rolling with pending := [.idleFrame 5010010] }

theorem witness_invariants_step : ∃ u, step busy = .next u := ⟨_, rfl⟩

theorem witness_SizesAreKept : busy.sized = true := by decide

theorem witness_TransmitterContentsAreKept : busy.lineOk = true := by decide

theorem witness_CuesOverlayKeyAndFaultsAreKept : busy.cuesOk = true ∧ busy.ovl.ok = true ∧ busy.mkl.ok = true ∧ busy.flt.ok = true := by
  decide

theorem witness_ReferenceFollowsThePreferredSource : busy.sourcesOk = true ∧ busy.tallyOk = true := by decide

theorem witness_RunningStationKeepsWorkingSettings :
    busy.workingOk = true ∧ busy.clp.line ≠ .config ∧ busy.svc.sampled = [] ∧
    (∀ i ∈ busy.pending.head?, i.wf = true ∧ samplesStraps i = false) ∧
    ∀ i ∈ busy.pending.head?, ∀ t st levels, i ≠ .fullReset t st levels := by
  simp [busy, rolling, station12, State.workingOk, Settings.working]; decide

theorem witness_ChannelsAndLocksStayConsistent : busy.chA.motionOk = true ∧ busy.chB.motionOk = true ∧ busy.locksOk = true := by decide

theorem witness_OutputsCountWhatRunningCuesHoldOpen :
    (withCue { inRun .running with fired := 7, punchOpen := true, lightOpen := true }
      { busy with cou := { Cou.reset with punchB := 1, holds := [1, 0, 0, 0] } }).outputsOk = true := by decide

theorem witness_LineFramesDecodeAsSent :
    (23 : BitVec 5).toNat < 24 ∧ 3 ≤ 3 ∧ 98 < 24 + payloadLength (frameClass (.control 0 anOrder)) := by decide

theorem witness_ServiceFramesDecodeAsSent :
    false ∈ (ServiceFrame.command 31 ⟨15, 63, 1022⟩ 63).bits ∧ false ∈ (aData 0xFFFF).bits ∧
    (let s := { rolling with svc := { Svc.reset with sampled := List.replicate 5 true, ones := 5 } }
     serviceOf (.nop 9 ⟨⟨0, 0, 0⟩, 63⟩) = some (9, aCommand 0 ⟨0, 0, 0⟩) ∧ samplesStraps (.nop 9 ⟨⟨0, 0, 0⟩, 63⟩) = false ∧
     s.resetActive = false ∧ s.svc.sampled.length < 32 ∧ runs64 s.svc.ones (aCommand 0 ⟨0, 0, 0⟩).bits = false) := by decide

theorem witness_FaultsAreRecorded :
    rolling.flt.first.isSome = false ∧ rolling.clp.statusLost = false ∧
    ({ rolling.clp with queue := List.replicate 8 (.frame (.control 0 anOrder)) } : Clp).statusLost = true := by decide

theorem witness_ReceiverEvents :
    rolling.resetActive = false ∧ rolling.clp.room ∧ rolling.clp.rx = .ready ∧ rolling.listening = true ∧ st20.listening = false ∧
    24 ≤ (31 : BitVec 5).toNat ∧ (3 : BitVec 3) ≠ 7 ∧ (∀ i, i < 7 → ((3 : BitVec 3) ++ (31 : BitVec 5)).getLsbD i = true) ∧
    ((3 : BitVec 3) ++ (31 : BitVec 5)).getLsbD 7 = false ∧ ((0 : BitVec 3) ++ (24 : BitVec 5)).getLsbD 0 = false ∧
    (12 : BitVec 5).toNat < 24 ∧ ({ rolling.clp with rxCount := 0 } : Clp).rxCount + since 5010010 rolling.timebase < 11 ∧
    11 ≤ ({ rolling.clp with rxCount := 0 } : Clp).rxCount + since 5010011 rolling.timebase ∧
    ({ rolling.clp with rx := .hunt } : Clp).rx = .hunt ∧ ({ rolling.clp with rx := .receiving } : Clp).rx = .receiving :=
  ⟨rfl, room_of (by decide), by decide⟩

theorem witness_OwnNumberGivesDuplicate :
    rolling.resetActive = false ∧ rolling.clp.rx ≠ .hunt ∧ rolling.listening = true ∧ rolling.ctb.entries.length = 32 := by decide

theorem witness_TransmitterStarts :
    let s := { station12 with clp := { station12.clp with slot := some ⟨aBeacon, 0⟩, queue := [.status] } }
    s.resetActive = false ∧ (s.clp.line = .active ∧ s.clp.rx = .ready ∧ 11 ≤ s.clp.rxCount + since 4095 s.timebase ∧ s.clp.inFlight = none) ∧
    since (4095 : Time) 0 ≤ 4095 ∧ 4095 < since (4096 : Time) 0 ∧ s.clp.queue = [.status] ∧ station12.clp.slot = none ∧
    st20.clp.line ≠ .active := by decide

/-- Its STATUS frame in flight. -/
def sending : State :=
  { station12 with clp := { station12.clp with
      queue := [.status], rx := .receiving, inFlight := some { frame := .status ⟨0, 0, 0, 0, 0, 0⟩, source := .queue } } }

theorem witness_TransmitterEnds :
    sending.clp.inFlight = some { frame := .status ⟨0, 0, 0, 0, 0, 0⟩, source := .queue } ∧ sending.resetActive = false ∧
    ({ sending.advance 9 with clp := (sending.advance 9).clp.left ⟨.status ⟨0, 0, 0, 0, 0, 0⟩, .queue⟩ 9 } : State).clp.room ∧
    ({ sending.advance 0 with clp := { (sending.advance 0).clp.left ⟨.status ⟨0, 0, 0, 0, 0, 0⟩, .queue⟩ 0 with rx := .ready, rxCount := 11 } }
      : State).clp.room ∧ sending.clp.rxStamp = 0 :=
  ⟨rfl, rfl, room_of (by decide), room_of (by decide), rfl⟩

/-- A picture station in JOINING, its projector standing. -/
def joining : State :=
  { station12 with
    clp := { Clp.reset with line := .joining, joinTimer := some 300000 }
    ptr := { Ptr.reset with
      sources := some { projector with sender := 12, isLocal := true, hold := some 0, aging := none } :: List.replicate 7 none } }

theorem witness_LineTimers :
    joining.resetActive = false ∧ joining.clp.line = .joining ∧ expired 300000 joining.clp.joinTimer = true ∧
    joining.settings.picture = some .a ∧ joining.ptr.localHold = some 0 ∧ (joining.chan .a).motion = .stopped ∧
    ({ joining with chA := { Channel.reset with motion := .forward } } : State).chA.motion ≠ .stopped ∧ st20.settings.picture = none ∧
    ({ Clp.reset with line := .active, queue := List.replicate 8 (.frame (.control 0 anOrder)) } : Clp).statusLost = true ∧
    (let s := { station12 with clp := { station12.clp with spacingTimer := some 5, statusDue := true } }
     expired 5 s.clp.spacingTimer = true ∧ s.clp.line = .active ∧ s.clp.statusDue = true ∧ s.clp.queue.length < 8) ∧
    (let s := { station12 with clp := { station12.clp with spacingTimer := some 5 } }
     expired 5 s.clp.spacingTimer = true ∧ ¬(s.clp.line = .active ∧ s.clp.statusDue = true)) := by decide

theorem witness_FramesWithoutEffect :
    frameOf (.attention 9 5 0 anOrder) = some (9, 5, 0, .control 9 anOrder) ∧ rolling.resetActive = false ∧
    st20.clp.rx = .hunt ∧ ({ st20 with clp := { Clp.reset with rx := .ready } } : State).listening = false ∧
    rolling.takes 0 ∧ ({ anOrder with target := 24 } : ControlArgs).target ≠ rolling.own ∧
    ({ anOrder with target := 24 } : ControlArgs).target ≠ 31 :=
  ⟨rfl, rfl, rfl, by decide, takes_of (by decide), by decide, by decide⟩

/-- The running cue stands in entry 5 and answers the orders of `allStations`. -/
def withRunning : State := withCue (inRun .running) rolling
def withIdle : State := withCue (inRun .idle) rolling

theorem witness_orders :
    rolling.takes 0 ∧ withIdle.takes 0 ∧ withRunning.takes 23 ∧ withIdle.targeted 31 = true ∧ withIdle.targeted 12 = true ∧
    withIdle.isCue 5 2 31 = true ∧ withRunning.isCue 5 2 31 = true ∧ rolling.noCue 2 31 = true ∧ withIdle.ctb.entries.length = 32 ∧
    withIdle.noneRunning (fun _ => true) = true :=
  ⟨takes_of (by decide), takes_of (by decide), takes_of (by decide), by decide⟩

theorem witness_ArmOrders : withIdle.entry 5 = some { cue := cue31, run := inRun .idle } := by decide

theorem witness_RunsEndAsInterruptions :
    let e : CueEntry := { cue := cue31, run := { inRun .running with punchOpen := true } }
    let s := withCue e.run { rolling with cou := { Cou.reset with punchB := 1 } }
    s.entry 5 = some e ∧ e.run.state = .running ∧ 5 < s.ctb.entries.length ∧ s.listening = true ∧ s.clp.queue.length < 8 ∧
    s.settings.recorder e.cue.group = some .b ∧ 0 < s.cou.punch .b := by decide

theorem witness_DisarmOrders :
    withRunning.entry 5 = some { cue := cue31, run := inRun .running } ∧ (inRun .running).state = .running ∧
    (withCue (inRun .passed) rolling).entry 5 = some { cue := cue31, run := inRun .passed } ∧ (inRun .passed).state ≠ .running := by decide

theorem witness_DropOrders : withRunning.takes 0 ∧ withRunning.targeted 31 = true ∧ withRunning.ctb.entries.length = 32 :=
  ⟨takes_of (by decide), by decide⟩

/-- At one position the beeps of different cues go by entry index, whatever their k, and PUNCH_IN goes before them (R104). -/
theorem test_beeps_are_one_place :
    sortBy dueLe [⟨5, .beep1, 256, 0⟩, ⟨9, .punchIn, 256, 0⟩, ⟨3, .beep2, 256, 0⟩] =
      [⟨9, .punchIn, 256, 0⟩, ⟨3, .beep2, 256, 0⟩, ⟨5, .beep1, 256, 0⟩] := by decide

/-- Cue 31 is ARMED: its SPAN_START and BEEP 3 at 976:200 are late for a boundary of frame 977, and listed by one of frame 976. -/
theorem witness_BoundariesAndReportsMoveTheCues :
    let s := { rolling with ptr := { playing with recNew := some ⟨999, 5010000, .forward, false⟩ } }
    let armed := withCue (inRun .armed) s
    s.ctb.entries.length = 32 ∧ s.csh.halted = false ∧ Report.stop ≠ .playable true ∧ s.ptr.motion = .forward ∧
    armed.lists (fun p => decide (p < 977 * 256)) (fun _ => 0) [⟨5, .spanStart, 250056, 0⟩, ⟨5, .beep3, 250056, 0⟩] = true ∧
    armed.lists (fun p => decide (p < 976 * 256)) (fun _ => 0) [] = true ∧ s.ptr.playable = true ∧ s.ptr.interval = some 41667 ∧
    armed.lists (fun p => decide (976 * 256 ≤ p ∧ p ≤ 976 * 256 + 255)) (fun p => later 5010000 (((p - 976 * 256).toNat * 41667 + 255) / 256))
      [⟨5, .spanStart, 250056, 5042553⟩, ⟨5, .beep3, 250056, 5042553⟩] = true ∧ station12.ptr.playable = false ∧ ({ s with csh := { Csh.reset with halted := true } }
      : State).csh.halted = true := by decide +kernel

theorem witness_ModeOrder :
    rolling.takes 0 ∧ rolling.targeted 31 = true ∧ rolling.clp.room ∧ rolling.csh.mode = .record ∧ station12.csh.mode = .rehearse ∧
    (1 : BitVec 24).toNat = 1 ∧ (0 : BitVec 24).toNat = 0 ∧ rolling.ctb.entries.length = 32 ∧
    rolling.noneRunning (fun e => e.run.punchOpen) = true ∧ 2 ≤ (2 : BitVec 24).toNat :=
  ⟨takes_of (by decide), by decide, room_of (by decide), by decide⟩

theorem witness_WrapAndUnknownOrders : 10 ≤ (10 : BitVec 4).toNat ∧ rolling.clp.room := ⟨by decide, room_of (by decide)⟩

theorem witness_AttentionOrder :
    rolling.takes 0 ∧ (let s := { st20 with clp := { Clp.reset with rx := .ready } }
      s.resetActive = false ∧ s.clp.rx ≠ .hunt ∧ (0 : BitVec 5).toNat < 24 ∧ s.clp.line = .config) ∧
    (let s := { station12 with clp := { station12.clp with inFlight := some { frame := .control 9 anOrder, source := .queue } } }
     s.resetActive = false ∧ s.clp.inFlight = some { frame := .control 9 anOrder, source := .queue }) :=
  ⟨takes_of (by decide), by decide, by decide⟩

theorem witness_HeadersAreStaged :
    rolling.takes 14 ∧ rolling.clp.room ∧ ({ aHead with id := 0 } : CueHead).id = 0 ∧ aHead.id ≠ 0 ∧
    ([⟨14, aHead⟩] : List Staged).filter (fun x => decide (x.sender ≠ 14)) ≠ [⟨14, aHead⟩] ∧
    ([⟨1, aHead⟩, ⟨2, aHead⟩, ⟨5, aHead⟩] : List Staged).length < 4 ∧
    ([⟨1, aHead⟩, ⟨2, aHead⟩, ⟨5, aHead⟩, ⟨8, aHead⟩] : List Staged).filter (fun x => decide (x.sender ≠ 14)) =
      [⟨1, aHead⟩, ⟨2, aHead⟩, ⟨5, aHead⟩, ⟨8, aHead⟩] ∧
    (([⟨1, aHead⟩, ⟨2, aHead⟩, ⟨5, aHead⟩, ⟨8, aHead⟩] : List Staged).map fun x => x.sender).Nodup :=
  ⟨takes_of (by decide), room_of (by decide), by decide⟩

/-- The header of `mask` is staged from station 0. -/
def loading (mask : BitVec 16) (entries : List (Option CueEntry)) : State :=
  { rolling with ctb := { entries := entries, staging := [⟨0, { aHead with mask := mask }⟩], pointer := 30 } }

def full (st : RunState) : List (Option CueEntry) := List.replicate 32 (some { cue := cue31, run := inRun st })

def cue40 : CueDef := { cue31 with id := 40 }

def only (e : CueEntry) : List (Option CueEntry) := some e :: List.replicate 31 none

theorem witness_BodiesCommitTheirCues :
    (loading 8 rolling.ctb.entries).takes 0 ∧ (loading 8 rolling.ctb.entries).clp.room ∧ rolling.ctb.entries.length = 32 ∧
    (full .idle).length = 32 ∧ (only { cue := cue40, run := inRun .idle }).length = 32 ∧
    (loading 8 []).ctb.staging.filter (fun x => decide (x.sender = 0)) = [⟨0, { aHead with mask := 8 }⟩] ∧
    ((rolling.ctb.staging.filter fun x => decide (x.sender = 0)).all fun x => !decide (x.head.reel = 2 ∧ x.head.id = 40)) = true ∧
    (loading 8 rolling.ctb.entries).noCue 2 40 = true ∧ (desk.served.any fun p => (8 : BitVec 16).getLsbD p) = true ∧
    (desk.served.any fun p => (512 : BitVec 16).getLsbD p) = false ∧ aHead.group = 31 ∧
    (loading 8 (only { cue := cue40, run := inRun .passed })).isCue 0 2 40 = true ∧
    (loading 8 (only { cue := cue40, run := inRun .running })).isCue 0 2 40 = true ∧
    (loading 8 rolling.ctb.entries).entry 0 = none ∧
    (List.range 32).all (fun i => ((loading 8 (full .idle)).entry i).isSome) = true ∧ (loading 8 (full .idle)).inState 30 .idle = true ∧
    (List.range 32).all (fun i => !(loading 8 (full .armed)).inState i .idle) = true ∧
    (loading 8 (full .idle)).noCue 2 40 = true ∧ rolling.flt.ok = true ∧ rolling.flt.first = none ∧
    [decide (4 < (5 : BitVec 3).toNat), decide ((1 : Nat) ≠ 0), false, false].count true = 2 :=
  ⟨takes_of (by decide), room_of (by decide), by decide⟩

theorem witness_PunchInFrames :
    withRunning.takes 20 ∧ withRunning.ctb.entries.length = 32 ∧ rolling.noCue 2 31 = true ∧
    withRunning.entry 5 = some { cue := cue31, run := inRun .running } ∧ withRunning.ptr.motion = .forward ∧
    (desk.served.any fun p => cue31.mask.getLsbD p) = true ∧
    ({ desk with lt0 := 16 }.served.any fun p => cue31.mask.getLsbD p) = false ∧ withRunning.cou.tally = [] :=
  ⟨takes_of (by decide), by decide⟩

theorem witness_PunchOutFrames : rolling.takes 20 := takes_of (by decide)

theorem witness_MarkAndStatusFrames :
    rolling.takes 20 ∧ rolling.clp.room ∧ refStateOf 3 = none ∧ refStateOf 1 = some .tracking ∧ lockStateOf 2 = some .sync ∧
    rolling.settings.collect = true ∧ (1 : BitVec 2).toNat < 2 ∧ rolling.mkl.log.length < 8 ∧ 2 ≤ (2 : BitVec 2).toNat :=
  ⟨takes_of (by decide), room_of (by decide), by decide⟩

/-- Eight remote sources of rank 3. -/
def crowd : Ptr :=
  { playing with sources := (List.range 8).map fun n => some { projector with sender := n, rank := 3 }, chosen := some 0 }

theorem witness_BeaconsFillTheSourceList :
    rolling.takes 6 ∧ rolling.sourcesOk = true ∧ rolling.ptr.sources.length = 8 ∧ rolling.ptr.motion = rolling.ptr.derivedMotion ∧
    rolling.ptr.playable = rolling.ptr.isPlayable ∧ rolling.ptr.remote 6 = none ∧ rolling.ptr.sources.getD 1 none = none ∧
    (rolling.ptr.sources.getD 0 none).isSome = true ∧ (station12.ptr.sources.filterMap id) = [] ∧
    (let s := { rolling with ptr := crowd }
     s.takes 9 ∧ s.sourcesOk = true ∧ s.ptr.motion = s.ptr.derivedMotion ∧ s.ptr.playable = s.ptr.isPlayable ∧
     s.ptr.remote 9 = none ∧ s.ptr.sources.all (fun o => o.isSome) = true ∧
     ((s.ptr.sources.filterMap id).all fun x => x.isLocal || decide (x.rank < 3 ∨ x.rank = 3 ∧ x.sender ≤ 7)) = true) :=
  ⟨takes_of (by decide), by decide +kernel, by decide +kernel, by decide +kernel, by decide +kernel, by decide +kernel,
    by decide +kernel, by decide +kernel, by decide +kernel, takes_of (by decide), by decide +kernel⟩

theorem witness_ChosenBeaconsMoveTheReference :
    rolling.takes 2 ∧ rolling.sourcesOk = true ∧ rolling.ptr.chosen = some 2 ∧ rolling.ptr.remote 2 = some projector ∧
    rolling.ptr.motion = rolling.ptr.derivedMotion ∧ rolling.ptr.playable = rolling.ptr.isPlayable ∧
    aBeacon.kind = 0 ∧ aBeacon.motion ≠ 0 ∧ ({ aBeacon with kind := 1, motion := 0 } : Beacon).kind = 1 ∧
    (after (.beaconFrame 5020000 5019000 2 aBeacon) rolling).ptr.sources.getD 0 none ≠ none ∧
    (let s := { rolling with ptr := crowd }
     s.takes 7 ∧ s.sourcesOk = true ∧ s.ptr.motion = s.ptr.derivedMotion ∧ s.ptr.playable = s.ptr.isPlayable ∧ s.ptr.chosen = some 0 ∧
     s.ptr.remote 7 = some { projector with sender := 7, rank := 3 } ∧ s.ptr.remote 0 = some { projector with sender := 0, rank := 3 } ∧
     (after (.beaconFrame 5020000 5019000 7 { aBeacon with rank := 3 }) s).ptr.chosen = some 0 ∧
     (after (.beaconFrame 5020000 5019000 7 { aBeacon with rank := 2 }) s).ptr.chosen = some 7 ∧
     (after (.beaconFrame 5020000 5019000 0 { aBeacon with rank := 4 }) s).ptr.chosen = some 1) :=
  ⟨takes_of (by decide), by decide +kernel, by decide +kernel, by decide +kernel, by decide +kernel, by decide +kernel, by decide,
    by decide, by decide, by decide +kernel, takes_of (by decide), by decide +kernel⟩

theorem witness_SourcesAgeAndHoldBeaconsRepeat :
    rolling.resetActive = false ∧ rolling.sourcesOk = true ∧ rolling.ptr.motion = rolling.ptr.derivedMotion ∧
    rolling.ptr.playable = rolling.ptr.isPlayable ∧ rolling.ptr.remote 2 = some projector ∧
    expired 5500000 projector.aging = true ∧ rolling.ptr.sources.filterMap id = [projector] ∧ rolling.clp.room ∧
    rolling.flt.ok = true ∧ crowd.remote 7 = some { projector with sender := 7, rank := 3 } ∧ crowd.chosen ≠ some 7 ∧
    ({ rolling with ptr := crowd } : State).sourcesOk = true ∧
    (let s := { rolling with ptr := { playing with holdTimer := some 5010000 } }
     s.settings.picture = some .a ∧ (s.chan .a).motion = .stopped ∧ expired 5010000 s.ptr.holdTimer = true) ∧
    (let s := { rolling with ptr := crowd }
     s.ptr.chosen = some 0 ∧ s.ptr.remote 0 = some { projector with sender := 0, rank := 3 } ∧
     s.ptr.sources.getD 1 none = some { projector with sender := 1, rank := 3 } ∧ s.ptr.playable = s.ptr.isPlayable ∧
     s.ptr.motion = s.ptr.derivedMotion ∧ ((s.ptr.sources.filterMap id).all fun y =>
       decide (y = { projector with sender := 0, rank := 3 }) || decide (3 < y.rank ∨ 3 = y.rank ∧ 1 ≤ y.sender)) = true) :=
  ⟨rfl, by decide +kernel, by decide +kernel, by decide +kernel, by decide +kernel, by decide +kernel, by decide +kernel,
    room_of (by decide), by decide +kernel, by decide +kernel, by decide +kernel, by decide +kernel, by decide +kernel,
    by decide +kernel⟩

/-- A picture station whose channel has just taken the boundary of frame 101, following its own source and another. -/
theorem witness_PictureRecordsAndMotion :
    let r : BRec := { b := 101, stamp := 5010000, dir := .forward, wrap := false }
    let s := { rolling with chA := { Channel.reset with motion := .forward, recNew := some r } }
    let own := { s with ptr := { playing with sources := some { projector with sender := 12, isLocal := true } :: List.replicate 7 none, chosen := some 12 } }
    s.ptr.motion = s.ptr.derivedMotion ∧ s.ptr.playable = s.ptr.isPlayable ∧ (s.chan .a).recNew = some r ∧
    (s.chan .a).motion ≠ .stopped ∧ s.ptr.followsLocal = false ∧ own.ptr.followsLocal = true ∧
    own.ptr.motion = own.ptr.derivedMotion ∧ own.ptr.playable = own.ptr.isPlayable ∧
    (let still := { own with chA := { Channel.reset with recNew := some r } }
     (still.chan .a).recNew = some r ∧ (still.chan .a).motion = .stopped ∧ still.ptr.followsLocal = true) ∧
    (let still := { s with chA := { Channel.reset with recNew := some r } }
     (still.chan .a).motion = .stopped ∧ still.ptr.followsLocal = false) := by decide +kernel

/-- The edge is the channel's fourth unit, at the frame's end, and the range test refuses it at the last frame. -/
theorem witness_TachEdgesCountUnits :
    let s := { quad with chA := { quad.chA with frame := 8388607 } }
    quad.resetActive = false ∧ pinOf quad.pins .a .p2 ≠ false ∧ quad.clp.line ≠ .config ∧ picture.role ≠ .none ∧
    (quad.chA.line .p2).level ≠ some false ∧ picture.glitch = 0 ∧ pinOf quad.pins .a .p1 = false ∧ quad.chA.motion = .forward ∧
    quad.chA.atBoundary (quad.settings.chan .a) true = true ∧
    ({ quad.chA with unit := 1 } : Channel).atBoundary (quad.settings.chan .a) true = false ∧
    quad.chA.mayStep 100 true = true ∧ s.chA.mayStep 100 true = false ∧
    ((quad.chA.counted (quad.settings.chan .a) true 1030000).recNew.map fun r => r.b) = some 101 ∧ ¬(3 : Nat) ≤ since (1020002 : Time) 1020000 := by decide

/-- An index pulse at a full frame, and one that slips. -/
theorem witness_IndexPulsesAndStalls :
    let s := { station12 with
      settings := { desk with b := { recorder with index := true } }
      chB := { Channel.reset with ix := ⟨some false, none⟩, unit := 4, lastDir := some true, motion := .forward, stall := some 9 } }
    s.resetActive = false ∧ s.flt.ok = true ∧ indexPinOf s.pins .b ≠ true ∧ s.clp.line ≠ .config ∧ (s.settings.chan .b).role ≠ .none ∧
    (s.settings.chan .b).index = true ∧ s.chB.ix.level ≠ some true ∧ (s.settings.chan .b).glitch = 0 ∧ s.chB.lastDir = some true ∧
    expired 9 s.chB.stall = true ∧ indexPinOf s.pins .b = false := by decide

/-- The recorder's channel moves along with the picture, against it, and stands. -/
theorem witness_LocksMeasureBoundaries :
    let s := { rolling with chB := { Channel.reset with motion := .forward } }
    rolling.clp.room ∧ rolling.clp.queue.length < 8 ∧ rolling.ctb.entries.length = 32 ∧ (rolling.chan .b).motion = .stopped ∧
    (s.chan .b).motion ≠ .stopped ∧ (s.ptr.state = .tracking ∧ s.ptr.motion = .forward) ∧ s.ptr.interval.isSome = true ∧
    s.ptr.position 5020000 = some 256122 ∧ s.lockActs .b = true ∧ (256122 - 1000 * 256 : Int).natAbs > s.settings.tolerance ∧
    (256061 - 1000 * 256 : Int).natAbs ≤ s.settings.tolerance ∧ s.ptr.position 5010000 = some 256061 ∧
    station12.ptr.state ≠ .tracking ∧ rolling.listening = true ∧ rolling.cou.punch .b = 0 ∧
    (let v := withCue { inRun .running with punchOpen := true } { rolling with cou := { Cou.reset with punchB := 1 } }
     v.lockB.state = .sync ∧ 0 < v.cou.punch .b ∧ v.clp.queue.length < 8 ∧ v.listening = true ∧
     (after (.tachStallExpiry 9 .b) { v with chB := { Channel.reset with motion := .forward, stall := some 9 } }).flt.counts.getD 18 0 = 1) :=
  ⟨room_of (by decide), by decide +kernel⟩

theorem witness_ElementsFireOnTime :
    let s := withDue [⟨5, .punchIn, 255648, 5026042⟩] withRunning
    s.resetActive = false ∧ rolling.csh.due = [] ∧ s.csh.due = [⟨5, .punchIn, 255648, 5026042⟩] ∧
    reached 5026041 (5026042 : Time) = false ∧ reached 5026042 (5026042 : Time) = true ∧
    s.entry 5 = some { cue := cue31, run := inRun .running } ∧ (inRun .running).state = firesIn .punchIn ∧
    (inRun .passed).state ≠ firesIn .punchIn ∧ s.listening = true ∧ s.clp.queue.length < 8 ∧ 5 < s.ctb.entries.length ∧
    s.opensOn cue31 = some .b ∧ (s.lock .b).state = .sync ∧ ({ s with lockB := .reset } : State).lockB.state ≠ .sync ∧
    ({ rolling with cou := { Cou.reset with gate := some ⟨1060000, 1000000⟩ } } : State).cou.gate = some ⟨1060000, 1000000⟩ := by decide

theorem witness_FieldsMeasureTheRaster :
    let o : Ovl := { Ovl.reset with raster := .acquiring, watch := some 9, run := ⟨3, 960, 262, 263⟩ }
    st20.resetActive = false ∧ st20.flt.ok = true ∧ st20.ovl.raster = .noSignal ∧
    (o.run.joined (fieldMeasured 262 [960, 960])).count = 4 ∧ (o.run.joined (fieldMeasured 262 [960, 864])).count ≠ 4 ∧
    o.frozen = none ∧ ({ o with raster := .stable, settled := some ⟨960, 262, 263⟩ } : Ovl).settled = some ⟨960, 262, 263⟩ ∧
    ({ o with frozen := some desk.geometry } : Ovl).frozen = some desk.geometry ∧
    (let s := { st20 with ovl := { o with raster := .mismatch, frozen := some desk.geometry, settled := some ⟨960, 262, 263⟩ } }
     s.ovl.settled = some ⟨960, 262, 263⟩ ∧ s.ovl.raster = .mismatch) ∧
    fieldMeasured 15 [960] = ⟨none, 15⟩ ∧ fieldMeasured 16 [64] = ⟨some 64, 16⟩ ∧ fieldMeasured 2048 [960] = ⟨none, 2048⟩ := by decide

theorem witness_FieldListsShowTheCues :
    let s := { withRunning with ovl := { Ovl.reset with frozen := some desk.geometry } }
    s.resetActive = false ∧ s.ctb.entries.length = 32 ∧ s.ptr.position 5020000 = some 256122 ∧
    s.streams 256122 { cue := cue31, run := inRun .running } = true ∧ s.drawn { cue := cue31, run := inRun .running } = true ∧
    station12.ptr.position 9 = none ∧
    (after (.vsyncEdge 5020000 262 [960]) s).ovl.frozen = some desk.geometry ∧
    ((after (.vsyncEdge 5020000 262 [960]) s).ovl.back.streamers.map fun x => x.r) = [78] ∧
    (let u := { s with ovl := { s.ovl with
       raster := .stable, frozen := some (captureOf ⟨960, 262, 263⟩)
       front := { streamers := [⟨9, 312, 821, 0⟩], flash := some 17, border := true } } }
     u.ovl.raster = .stable ∧ u.keyPixel 20 200 = none ∧ u.keyPixel 103 390 = some 4 ∧ u.keyPixel 102 390 = none ∧
     u.keyPixel 22 821 = some 0 ∧ u.keyPixel 21 120 = some 5 ∧ u.keyPixel 238 839 = some 5 ∧ s.keyPixel 22 200 = none) := by
  decide +kernel

theorem witness_KeyPressesMakeMarks :
    let pressing := { rolling with mkl := { Mkl.reset with
      key := .pressing, timer := some 5030000, latch := some ⟨some 256137, .tracking, .forward, .record, none⟩ } }
    rolling.resetActive = false ∧ rolling.pins.markn = true ∧ rolling.mkl.key = .armed ∧ rolling.ptr.position 5020000 = some 256122 ∧
    cue31.ps ≤ 256122 ∧ 256122 ≤ cue31.pe ∧ station12.ptr.position 9 = none ∧ expired 5029999 pressing.mkl.timer = false ∧
    expired 5030000 pressing.mkl.timer = true ∧ pressing.mkl.latch = some ⟨some 256137, .tracking, .forward, .record, none⟩ ∧
    pressing.mkl.log.length < 8 := by decide

end Sys2Proof.Tests
end

section
/-! SUPPORT. The rules of the tach channels: what each operation on a channel does to that channel, said once, and what the
blocks a channel delivers to leave of it. -/

namespace Sys2Proof.Machine
open Sys2Proof

/-! ## Channels as blocks of the state -/

/-- Changing a channel replaces it. -/
theorem State.modChan_eq_withChan (s : State) (c : Chan) (f : Channel → Channel) : s.modChan c f = s.withChan c (f (s.chan c)) := by
  cases c <;> rfl

@[simp] theorem State.withChan_chan (s : State) (c : Chan) (ch : Channel) : (s.withChan c ch).chan c = ch := by cases c <;> rfl

@[simp] theorem State.withChan_other (s : State) (c : Chan) (ch : Channel) :
    (s.withChan c ch).chan (otherChan c) = s.chan (otherChan c) := by cases c <;> rfl

@[simp] theorem State.withChan_withChan (s : State) (c : Chan) (x y : Channel) : (s.withChan c x).withChan c y = s.withChan c y := by
  cases c <;> rfl

@[simp] theorem State.withChan_lock (s : State) (c d : Chan) (ch : Channel) : (s.withChan c ch).lock d = s.lock d := by
  cases c <;> cases d <;> rfl

/-- Replacing a channel leaves every other block. -/
@[simp] theorem State.withChan_keeps (s : State) (c : Chan) (ch : Channel) :
    (s.withChan c ch).timebase = s.timebase ∧ (s.withChan c ch).pins = s.pins ∧
    (s.withChan c ch).resetActive = s.resetActive ∧ (s.withChan c ch).straps = s.straps ∧
    (s.withChan c ch).settings = s.settings ∧ (s.withChan c ch).clp = s.clp ∧ (s.withChan c ch).ptr = s.ptr ∧
    (s.withChan c ch).lockA = s.lockA ∧ (s.withChan c ch).lockB = s.lockB ∧ (s.withChan c ch).ctb = s.ctb ∧
    (s.withChan c ch).csh = s.csh ∧ (s.withChan c ch).cou = s.cou ∧ (s.withChan c ch).ovl = s.ovl ∧
    (s.withChan c ch).mkl = s.mkl ∧ (s.withChan c ch).svc = s.svc ∧ (s.withChan c ch).flt = s.flt ∧
    (s.withChan c ch).freeCount = s.freeCount ∧ (s.withChan c ch).pending = s.pending := by
  cases c <;> simp [State.withChan]

/-- An operation that leaves both channels leaves the channel named. -/
theorem State.chan_congr {s u : State} (ha : u.chA = s.chA) (hb : u.chB = s.chB) (c : Chan) : u.chan c = s.chan c := by
  cases c <;> simpa [State.chan]

/-- An operation that leaves both locks leaves the lock named. -/
theorem State.lock_congr {s u : State} (ha : u.lockA = s.lockA) (hb : u.lockB = s.lockB) (c : Chan) : u.lock c = s.lock c := by
  cases c <;> simpa [State.lock]

@[simp] theorem State.advance_chan (s : State) (t : Time) (c : Chan) : (s.advance t).chan c = s.chan c := by cases c <;> rfl

@[simp] theorem recordFault_chan (i : FaultInfo) (s : State) (c : Chan) : (recordFault i s).chan c = s.chan c :=
  State.chan_congr (by simp) (by simp) c

@[simp] theorem deliverMotion_chan (c d : Chan) (s : State) : (deliverMotion c s).chan d = s.chan d :=
  State.chan_congr (by simp) (by simp) d

@[simp] theorem deliverRecord_chan (c d : Chan) (r : BRec) (s : State) : (deliverRecord c r s).chan d = s.chan d :=
  State.chan_congr (by simp) (by simp) d

/-! ## Delivery to a channel's block (R21) -/

theorem deliverMotion_role (c : Chan) (s : State) (h : (s.settings.chan c).role ≠ .none) :
    deliverMotion c s = if (s.settings.chan c).role = .picture then pictureMotion c s else lockMotion c s := by
  unfold deliverMotion
  cases hr : (s.settings.chan c).role <;> simp_all

theorem deliverRecord_role (c : Chan) (r : BRec) (s : State) (h : (s.settings.chan c).role ≠ .none) :
    deliverRecord c r s = if (s.settings.chan c).role = .picture then pictureRecord c r s else lockBoundary c r s := by
  unfold deliverRecord
  cases hr : (s.settings.chan c).role <;> simp_all

/-! ## The boundary step (R28 to R32) -/

/-- The step of a direction. -/
def stepOf (g : ChanSettings) (forward : Bool) (ch : Channel) : Step := if forward then forwardStep g ch else reverseStep g ch

/-- The boundary record of a step at `t`. -/
def Step.record (st : Step) (t : Time) : BRec := { b := st.b, stamp := t, dir := st.dir, wrap := st.wrap }

theorem stepOf_eq (g : ChanSettings) (forward : Bool) (ch : Channel) :
    stepOf g forward ch =
      { frame := (ch.stepped g.offset forward).1, b := (ch.stepped g.offset forward).2.1
        dir := if forward then .forward else .reverse, wrap := (ch.stepped g.offset forward).2.2 } := by
  cases forward
  · by_cases h : ch.wrap.enabled = true ∧ ch.frame + g.offset = ch.wrap.s <;>
      simp [stepOf, reverseStep, Channel.stepped, Channel.reported, h]
  · by_cases h : ch.wrap.enabled = true ∧ ch.frame + g.offset = ch.wrap.e <;>
      simp [stepOf, forwardStep, Channel.stepped, Channel.reported, h]

theorem stepOf_inRange (g : ChanSettings) (forward : Bool) (ch : Channel) :
    (stepOf g forward ch).inRange g = ch.mayStep g.offset forward := by
  rw [stepOf_eq]; rfl

/-- The channel a boundary step leaves, by the range test (R30, R38). -/
theorem boundary_of_mayStep (ch : Channel) (g : ChanSettings) (forward : Bool) (t : Time) (m n : Nat)
    (h : ch.mayStep g.offset forward = true) :
    ch.boundary g.offset forward t m n =
      { ch with
        frame := (stepOf g forward ch).frame, unit := m, recNew := some ((stepOf g forward ch).record t), recOld := ch.recNew } := by
  simp [Channel.boundary, h, stepOf_eq, Step.record]

theorem boundary_of_not_mayStep (ch : Channel) (g : ChanSettings) (forward : Bool) (t : Time) (m n : Nat)
    (h : ch.mayStep g.offset forward = false) : ch.boundary g.offset forward t m n = { ch with unit := n } := by
  simp [Channel.boundary, h]

/-- A boundary step that the range test takes: the channel is settled, then its record is delivered (R30, R38). -/
theorem takeStep_taken (c : Chan) (forward : Bool) (m n : Nat) (s : State)
    (h : (s.chan c).mayStep (s.settings.chan c).offset forward = true) :
    takeStep c (stepOf (s.settings.chan c) forward (s.chan c)) m n s =
      deliverRecord c ((stepOf (s.settings.chan c) forward (s.chan c)).record s.timebase)
        (s.withChan c ((s.chan c).boundary (s.settings.chan c).offset forward s.timebase m n)) := by
  rw [boundary_of_mayStep _ _ _ _ _ _ h]
  simp only [takeStep, stepOf_inRange, h, if_true, State.modChan_eq_withChan]
  rfl

/-- A boundary step that the range test refuses is COUNT_RANGE (R30). -/
theorem takeStep_refused (c : Chan) (forward : Bool) (m n : Nat) (s : State)
    (h : (s.chan c).mayStep (s.settings.chan c).offset forward = false) :
    takeStep c (stepOf (s.settings.chan c) forward (s.chan c)) m n s =
      recordFault { kind := .countRange, chan := some c }
        (s.withChan c ((s.chan c).boundary (s.settings.chan c).offset forward s.timebase m n)) := by
  rw [boundary_of_not_mayStep _ _ _ _ _ _ h]
  simp [takeStep, stepOf_inRange, h, State.modChan_eq_withChan]

theorem takeStep_chan (c : Chan) (forward : Bool) (m n : Nat) (s : State) :
    (takeStep c (stepOf (s.settings.chan c) forward (s.chan c)) m n s).chan c =
      (s.chan c).boundary (s.settings.chan c).offset forward s.timebase m n := by
  cases h : (s.chan c).mayStep (s.settings.chan c).offset forward
  · simp [takeStep_refused, h]
  · simp [takeStep_taken, h]

@[simp] theorem takeStep_other (c : Chan) (st : Step) (m n : Nat) (s : State) :
    (takeStep c st m n s).chan (otherChan c) = s.chan (otherChan c) := by
  unfold takeStep
  split <;> simp [State.modChan_eq_withChan]

/-! ## Units (R26, R27, R33 to R35) -/

/-- A unit counts its channel from the marked channel on (R26): `Channel.counted` starts with `Channel.markUnit`. -/
theorem counted_eq (ch : Channel) (g : ChanSettings) (forward : Bool) (t : Time) :
    ch.counted g forward t =
      if ch.atBoundary g forward = true then
        (ch.markUnit forward t).boundary g.offset forward t (if forward then 0 else g.u - 1) (if forward then g.u - 1 else 0)
      else { ch.markUnit forward t with
        unit := if forward then (if g.index then satInc 255 ch.unit else ch.unit + 1) else ch.unit - 1 } := by
  cases hi : g.index <;> cases forward <;>
    simp [Channel.counted, Channel.atBoundary, hi, Channel.markUnit, ChanSettings.u, unitMotion, wrapInc16, satInc]

/-- A unit that is not at the frame's boundary only moves the unit counter (R33 to R35). -/
theorem countUnit_inside (c : Chan) (forward : Bool) (s : State) (ch : Channel) (t : Time)
    (hm : s.chan c = ch.markUnit forward t) (h : ch.atBoundary (s.settings.chan c) forward = false) :
    countUnit c forward s = s.withChan c (ch.counted (s.settings.chan c) forward t) := by
  have hu : (s.chan c).unit = ch.unit := by rw [hm]; rfl
  rw [counted_eq, if_neg (by simp [h])]
  unfold countUnit countForward countReverse
  cases hi : (s.settings.chan c).index <;> cases forward <;>
    simp_all [Channel.atBoundary, State.modChan_eq_withChan, ChanSettings.u, Channel.markUnit]

/-- A unit at the frame's boundary takes a boundary step, or tries to (R33, R34). -/
theorem countUnit_atBoundary (c : Chan) (forward : Bool) (s : State) (ch : Channel) (t : Time)
    (hm : s.chan c = ch.markUnit forward t) (h : ch.atBoundary (s.settings.chan c) forward = true) :
    countUnit c forward s = takeStep c (stepOf (s.settings.chan c) forward (s.chan c))
      (if forward then 0 else (s.settings.chan c).u - 1) (if forward then (s.settings.chan c).u - 1 else 0) s := by
  have hu : (s.chan c).unit = ch.unit := by rw [hm]; rfl
  unfold countUnit countForward countReverse
  cases hi : (s.settings.chan c).index <;> cases forward <;>
    simp_all [Channel.atBoundary, ChanSettings.u, stepOf]

theorem markUnit_mayStep (ch : Channel) (forward d : Bool) (t : Time) (offset : Int) :
    (ch.markUnit forward t).mayStep offset d = ch.mayStep offset d := rfl

end Sys2Proof.Machine
end

section
/-! The proofs about the edges of the tach lines. -/

namespace Sys2Proof.Machine
open Sys2Proof

/-! ## A unit, from the mark to the count (R26, R27, R33 to R35) -/

/-- `s` with the unit marked in its channel and a change of motion delivered, before the unit is counted (R26, R27). -/
def unitDelivered (c : Chan) (forward : Bool) (s : State) : State :=
  let marked := s.withChan c ((s.chan c).markUnit forward s.timebase)
  if (s.chan c).motion = unitMotion forward then marked else deliverMotion c marked

theorem takeUnit_eq_countUnit (c : Chan) (forward : Bool) (s : State) :
    takeUnit c forward s = countUnit c forward (unitDelivered c forward s) := by
  simp only [takeUnit, State.modChan_eq_withChan]; rfl

@[simp] theorem unitDelivered_keeps (c : Chan) (forward : Bool) (s : State) :
    (unitDelivered c forward s).chan c = (s.chan c).markUnit forward s.timebase ∧
    (unitDelivered c forward s).chan (otherChan c) = s.chan (otherChan c) ∧
    (unitDelivered c forward s).timebase = s.timebase ∧ (unitDelivered c forward s).settings = s.settings := by
  unfold unitDelivered
  dsimp only
  split <;> simp

section
variable (c : Chan) (forward : Bool) (s : State)

/-- A unit inside the frame is counted and delivers no record. -/
theorem takeUnit_inside (h : (s.chan c).atBoundary (s.settings.chan c) forward = false) :
    takeUnit c forward s =
      (unitDelivered c forward s).withChan c ((s.chan c).counted (s.settings.chan c) forward s.timebase) := by
  have hs : (unitDelivered c forward s).settings = s.settings := by simp
  rw [takeUnit_eq_countUnit, countUnit_inside c forward _ (s.chan c) s.timebase (by simp) (by rwa [hs]), hs]

/-- A unit at the frame's boundary is counted by a boundary step. -/
theorem takeUnit_atBoundary (h : (s.chan c).atBoundary (s.settings.chan c) forward = true) :
    takeUnit c forward s =
      takeStep c (stepOf (s.settings.chan c) forward ((unitDelivered c forward s).chan c))
        (if forward then 0 else (s.settings.chan c).u - 1) (if forward then (s.settings.chan c).u - 1 else 0)
        (unitDelivered c forward s) := by
  have hs : (unitDelivered c forward s).settings = s.settings := by simp
  rw [takeUnit_eq_countUnit, countUnit_atBoundary c forward _ (s.chan c) s.timebase (by simp) (by rwa [hs]), hs]

theorem takeUnit_chan : (takeUnit c forward s).chan c = (s.chan c).counted (s.settings.chan c) forward s.timebase := by
  have hs : (unitDelivered c forward s).settings = s.settings := by simp
  cases h : (s.chan c).atBoundary (s.settings.chan c) forward
  · simp [takeUnit_inside, h]
  · rw [takeUnit_atBoundary c forward s h, ← hs, takeStep_chan, counted_eq, hs, if_pos h]
    simp

theorem takeUnit_other : (takeUnit c forward s).chan (otherChan c) = s.chan (otherChan c) := by
  cases h : (s.chan c).atBoundary (s.settings.chan c) forward
  · simp [takeUnit_inside, h]
  · simp [takeUnit_atBoundary, h]

/-- A unit whose boundary step the range test refuses is COUNT_RANGE (R30). -/
theorem takeUnit_refused (h : (s.chan c).atBoundary (s.settings.chan c) forward = true)
    (hm : (s.chan c).mayStep (s.settings.chan c).offset forward = false) :
    takeUnit c forward s = recordFault { kind := .countRange, chan := some c }
      ((unitDelivered c forward s).withChan c ((s.chan c).counted (s.settings.chan c) forward s.timebase)) := by
  have hs : (unitDelivered c forward s).settings = s.settings := by simp
  rw [takeUnit_atBoundary c forward s h, ← hs, takeStep_refused c forward _ _ _ (by simpa [markUnit_mayStep] using hm), counted_eq, hs,
    if_pos h]
  simp

/-- A unit that takes a boundary step delivers the channel's new record, stamped with the moment (R30, R38). -/
theorem takeUnit_taken (h : (s.chan c).atBoundary (s.settings.chan c) forward = true)
    (hm : (s.chan c).mayStep (s.settings.chan c).offset forward = true) (r : BRec)
    (hr : ((s.chan c).counted (s.settings.chan c) forward s.timebase).recNew = some r) :
    r.stamp = s.timebase ∧ takeUnit c forward s = deliverRecord c r
      ((unitDelivered c forward s).withChan c ((s.chan c).counted (s.settings.chan c) forward s.timebase)) := by
  have hs : (unitDelivered c forward s).settings = s.settings := by simp
  have hm' : ((unitDelivered c forward s).chan c).mayStep (s.settings.chan c).offset forward = true := by
    simpa [markUnit_mayStep] using hm
  rw [takeUnit_atBoundary c forward s h, ← hs, takeStep_taken c forward _ _ _ (by rwa [hs])]
  simp only [counted_eq, if_pos h, hs, unitDelivered_keeps] at hr hm' ⊢
  rw [boundary_of_mayStep _ _ _ _ _ _ hm'] at hr
  obtain rfl := Option.some.inj hr
  exact ⟨rfl, rfl⟩

end

/-! ## The edge (R23 to R25) -/

theorem counting_iff (s : State) (c : Chan) : s.counting c = true ↔ s.clp.line ≠ .config ∧ (s.settings.chan c).role ≠ .none := by
  simp [State.counting, State.started]

/-- The test of G as the statements write it. -/
theorem LineRec.free_iff (l : LineRec) (g : Nat) (t : Time) :
    l.free g t = true ↔ g = 0 ∨ (l.edge.all fun e => decide (g ≤ since t e)) = true := by
  simp [LineRec.free]

/-- The decode modes as the statements write them; `same` says that the two recorded levels are equal (R24, R25). -/
theorem edgeUnit_eq (pulse : Bool) (line : TachLine) (p1 p2 : Bool) :
    edgeUnit pulse line p1 p2 =
      if (if pulse then decide (line = .p1) && p1 else true) = true then
        some (if pulse then p2 else if line = .p1 then !decide (p1 = p2) else decide (p1 = p2))
      else none := by
  cases pulse <;> cases line <;> cases p1 <;> cases p2 <;> rfl

section
variable (c : Chan) (line : TachLine) (level : Bool) (s : State)

/-- A line that does not change level changes nothing (log entry 4). -/
theorem tachChange_same (h : pinOf s.pins c line = level) : tachChange c line level s = s := by simp [tachChange, h]

/-- An edge that the channel does not examine moves the pin alone. -/
theorem tachChange_unexamined (h : pinOf s.pins c line ≠ level)
    (hx : ¬(s.clp.line ≠ .config ∧ (s.settings.chan c).role ≠ .none ∧ ((s.chan c).line line).level ≠ some level)) :
    tachChange c line level s = s.modPins fun p => setPin p c line level := by
  have hchan : (s.modPins fun p => setPin p c line level).chan c = s.chan c := by simp
  simp only [tachChange, if_neg h, hchan]
  rw [if_pos]
  by_contra hc
  simp only [not_or, Bool.not_eq_false, counting_iff] at hc
  obtain ⟨⟨hline, hrole⟩, hlevel⟩ := hc
  exact hx ⟨hline, hrole, hlevel⟩

/-- An examined edge is accepted or a glitch, as G lets it through (R23). -/
theorem tachChange_examined (h : pinOf s.pins c line ≠ level) (hl : s.clp.line ≠ .config)
    (hr : (s.settings.chan c).role ≠ .none) (hx : ((s.chan c).line line).level ≠ some level) :
    tachChange c line level s =
      let s₁ := s.modPins fun p => setPin p c line level
      if ((s.chan c).line line).free (s.settings.chan c).glitch s.timebase then acceptEdge c line level s₁
      else s₁.withChan c { s.chan c with glitches := ((s.chan c).glitches + 1) % 65536 } := by
  have hchan : (s.modPins fun p => setPin p c line level).chan c = s.chan c := by simp
  have hc : (s.modPins fun p => setPin p c line level).counting c = true := (counting_iff _ _).2 ⟨hl, hr⟩
  simp only [tachChange, if_neg h, hchan, hc, hx, countGlitch, State.modChan_eq_withChan]
  rfl

/-- The channel with an accepted edge recorded (R23). -/
def Channel.edged (ch : Channel) (line : TachLine) (level : Bool) (t : Time) : Channel :=
  ch.setLine line { level := some level, edge := some t }

/-- An accepted edge that is no unit is only recorded (R23, R25). -/
theorem acceptEdge_noUnit
    (h : edgeUnit (s.settings.chan c).pulse line (((s.chan c).edged line level s.timebase).p1.level.getD false)
      (((s.chan c).edged line level s.timebase).p2.level.getD false) = none) :
    acceptEdge c line level s = s.withChan c ((s.chan c).edged line level s.timebase) := by
  simp only [acceptEdge, State.modChan_eq_withChan, State.withChan_chan, State.withChan_keeps]
  rw [Channel.edged] at h ⊢
  rw [h]

/-- An accepted edge that is a unit is recorded and the unit taken (R24, R25). -/
theorem acceptEdge_unit (forward : Bool)
    (h : edgeUnit (s.settings.chan c).pulse line (((s.chan c).edged line level s.timebase).p1.level.getD false)
      (((s.chan c).edged line level s.timebase).p2.level.getD false) = some forward) :
    acceptEdge c line level s = takeUnit c forward (s.withChan c ((s.chan c).edged line level s.timebase)) := by
  simp only [acceptEdge, State.modChan_eq_withChan, State.withChan_chan, State.withChan_keeps]
  rw [Channel.edged] at h ⊢
  rw [h]

/-- In decode mode PULSE the unit is a rising edge of P1, in the direction that P2 gives (R25). -/
theorem edged_pulse (t : Time) (ch : Channel) (h : line = .p1) :
    (ch.edged line level t).p1.level.getD false = level ∧ (ch.edged line level t).p2 = ch.p2 := by
  subst h; exact ⟨rfl, rfl⟩

end

end Sys2Proof.Machine

namespace Sys2Proof.Machine
open Sys2Proof

/-- The delivery of the statements: a change of motion goes to the tracker or the lock (R21, R27). -/
theorem unitDelivered_eq (c : Chan) (forward : Bool) (s : State) (h : (s.settings.chan c).role ≠ .none) :
    unitDelivered c forward s =
      let marked := s.withChan c ((s.chan c).markUnit forward s.timebase)
      if (s.chan c).motion = (if forward then .forward else .reverse) then marked
      else if (s.settings.chan c).role = .picture then pictureMotion c marked else lockMotion c marked := by
  unfold unitDelivered
  dsimp only
  rw [deliverMotion_role _ _ (by simpa using h)]
  simp [unitMotion]

/-- A unit as `Obligations.TachEdgesCountUnits` says it. -/
theorem takeUnit_result (c : Chan) (forward : Bool) (s : State) (h : (s.settings.chan c).role ≠ .none) :
    let g := s.settings.chan c
    let ch := s.chan c
    let u := takeUnit c forward s
    let marked := s.withChan c (ch.markUnit forward s.timebase)
    let v := if ch.motion = (if forward then .forward else .reverse) then marked
      else if g.role = .picture then pictureMotion c marked else lockMotion c marked
    let w := v.withChan c (ch.counted g forward s.timebase)
    (ch.atBoundary g forward = false → u = w) ∧
    (ch.atBoundary g forward = true → ch.mayStep g.offset forward = false →
      u = recordFault { kind := .countRange, chan := some c } w) ∧
    (ch.atBoundary g forward = true → ch.mayStep g.offset forward = true →
      ∀ r, (ch.counted g forward s.timebase).recNew = some r →
        r.stamp = s.timebase ∧ u = if g.role = .picture then pictureRecord c r w else lockBoundary c r w) := by
  dsimp only
  have hv := unitDelivered_eq c forward s h
  dsimp only at hv
  rw [← hv]
  refine ⟨takeUnit_inside c forward s, takeUnit_refused c forward s, fun hb hm r hr => ?_⟩
  obtain ⟨hstamp, hu⟩ := takeUnit_taken c forward s hb hm r hr
  rw [deliverRecord_role _ _ _ (by simpa using h)] at hu
  exact ⟨hstamp, by simpa using hu⟩

/-- Settles O54: the tests of R23 by the lemmas about `tachChange`, the unit by those about `takeUnit`. -/
theorem tachEdgesCountUnits : Obligations.TachEdgesCountUnits := by
  unfold Obligations.TachEdgesCountUnits
  intro t c line level s hr g ch l s₁ run examined free
  have hrun : run = .next (tachChange c line level (s.advance t)) := by
    simp [run, exec, execTachEdge, State.pinEvent, hr]
  have hch : (s.advance t).chan c = ch := by simp [ch]
  have hfree : l.free g.glitch t = true ↔ free := LineRec.free_iff l g.glitch t
  have haccept : examined → tachChange c line level (s.advance t) =
      if l.free g.glitch t then acceptEdge c line level s₁ else s₁.withChan c { ch with glitches := (ch.glitches + 1) % 65536 } := by
    rintro ⟨hpin, hline, hrole, hlevel⟩
    rw [tachChange_examined _ _ _ _ (by simpa using hpin) (by simpa using hline) (by simpa using hrole) (by simpa [hch] using hlevel), hch]
    rfl
  have hs₁ : s₁.chan c = ch := hch
  refine ⟨fun h => ?_, fun h hx => ?_, fun hx hf => ?_, fun hx hf => ?_⟩
  · rw [hrun, tachChange_same _ _ _ _ (by simpa using h)]
  · rw [hrun, tachChange_unexamined _ _ _ _ (by simpa using h) (by simpa [hch] using fun a b d => hx ⟨h, a, b, d⟩)]
    rfl
  · rw [hrun, haccept hx, if_neg (fun h => hf (hfree.1 h))]
  · intro ch₁ same unit forward
    rw [haccept hx, if_pos (hfree.2 hf)] at hrun
    have hunit : edgeUnit g.pulse line (ch₁.p1.level.getD false) (ch₁.p2.level.getD false) = if unit then some forward else none := by
      rw [edgeUnit_eq]
      cases hp : g.pulse with
      | false => simp [unit, forward, same, hp]
      | true =>
        by_cases hline : line = .p1
        · obtain ⟨h1, h2⟩ : ch₁.p1.level.getD false = level ∧ ch₁.p2 = ch.p2 := edged_pulse line level t ch hline
          simp [unit, forward, hp, hline, h1, h2]
        · simp [unit, hp, hline]
    refine ⟨fun hu => ?_, fun hu => ?_⟩ <;> rw [hu] at hunit
    · rw [hrun, acceptEdge_noUnit c line level s₁ (by rw [hs₁]; exact hunit), hs₁]
      rfl
    · have hedge : ((s₁.chan c).edged line level s₁.timebase) = ch₁ := by rw [hs₁]; rfl
      rw [acceptEdge_unit c line level s₁ forward (by rw [hs₁]; exact hunit), hedge] at hrun
      have hchan : (s₁.withChan c ch₁).chan c = ch₁ := State.withChan_chan ..
      have hmotion : ch₁.motion = ch.motion := by cases line <;> rfl
      refine ⟨_, hrun, ?_, ?_, by simp, by simp [s₁], by simp [s₁], by simp [s₁], by simp [s₁], ?_⟩
      · rw [takeUnit_chan, hchan]; simp [s₁, g]
      · rw [takeUnit_other, State.withChan_other]; exact s.advance_chan t _
      · have := takeUnit_result c forward (s₁.withChan c ch₁) (by simpa [s₁] using hx.2.2.1)
        simpa [hchan, hmotion, s₁] using this

end Sys2Proof.Machine
end

section
/-! SUPPORT. The fault counts that the Record Lock, the Position Tracker, the Cue Scheduler, Cue Outputs and the status exchange never
move: each fault those blocks record is one of TX_OVERFLOW, SOURCE_LOST, LATE_FIRE, PUNCH_NOSYNC and PUNCH_DROPOUT. -/

namespace Sys2Proof.Machine
open Sys2Proof

/-- What every part of an event at the tracker keeps, the event keeps (R62). -/
theorem trackerEvent_invariant (P : State → Prop) (ev : TrackerEvent) (s : State) (hp : P (s.modPtr fun _ => ev.settle s.ptr))
    (hs : ∀ v, P v → P (statusChange v)) (hf : ∀ v i, i.kind = .sourceLost → P v → P (recordFault i v))
    (hr : ∀ v r, P v → P (deliverReport r v)) (hb : ∀ v r, ev.boundary = some r → P v → P (takeBoundary r v))
    (hh : ∀ v, P v → P (takeHold v)) : P (trackerEvent ev s) := by
  have hg : ∀ (p : Bool) (f : State → State) (v : State), (P v → P (f v)) → P v → P (guarded p f v) := by
    intro p f v hf hv
    cases p
    · exact hv
    · exact hf hv
  have hl : ∀ (l : List Report) (v : State), P v → P (l.foldl (fun v r => deliverReport r v) v) := by
    intro l
    induction l with
    | nil => exact fun v hv => hv
    | cons r l ih => exact fun v hv => ih _ (hr v r hv)
  unfold trackerEvent
  refine hg _ _ _ (hh _) ?_
  have before : ∀ v, P v → P (match ev.lost with
      | some n => recordFault { kind := .sourceLost, pos := (ev.settle s.ptr).frozen, sender := some (BitVec.ofNat 5 n) } v
      | none => v) := by
    intro v hv
    split
    · exact hf _ _ rfl hv
    · exact hv
  split
  · exact hb _ _ ‹_› (hl _ _ (before _ (hg _ _ _ (hs _) (hg _ _ _ (hs _) hp))))
  · exact hl _ _ (before _ (hg _ _ _ (hs _) (hg _ _ _ (hs _) hp)))

theorem takeHold_flt (s : State) : (takeHold s).flt = s.flt := by
  unfold takeHold
  split <;> simp

/-- The place of a fault count that those blocks leave. -/
def SparedCount (k : Nat) : Prop := k ∉ [3, 9, 16, 17, 18]

theorem sparedCount_iff (k : Nat) : SparedCount k ↔ k ≠ 3 ∧ k ≠ 9 ∧ k ≠ 16 ∧ k ≠ 17 ∧ k ≠ 18 := by simp [SparedCount]

section
variable {k : Nat} (s : State)

/-- A fault moves the count of its kind alone (R192). -/
theorem bumpFault_count (i : FaultInfo) (h : i.kind.code - 1 ≠ k) : (bumpFault i s).flt.counts[k]? = s.flt.counts[k]? := by
  simp [bumpFault, setCause, List.getElem?_set_ne h]

/-- The count of a fault's own kind goes up and stays at 255 (R192). -/
theorem bumpFault_count_own (i : FaultInfo) (h : i.kind.code - 1 = k) (hk : k < s.flt.counts.length) :
    (bumpFault i s).flt.counts[k]? = some (satInc 255 (s.flt.counts[k]?.getD 0)) := by
  subst h; simp [bumpFault, setCause, hk]

/-- The status change of a fault moves no count but that of TX_OVERFLOW (R18, R194). -/
theorem statusEffect_bump_count (i : FaultInfo) (h : i.kind = .txOverflow) (hk : k ≠ 3) :
    (statusEffect (bumpFault i) s).flt.counts[k]? = s.flt.counts[k]? := by
  have hb : ∀ v : State, (bumpFault i v).flt.counts[k]? = v.flt.counts[k]? :=
    fun v => bumpFault_count v i (by simpa [h, FaultKind.code] using hk.symm)
  unfold statusEffect placeStatus
  (repeat' split) <;> simp [hb]

theorem recordFault_count (i : FaultInfo) (h : i.kind.code - 1 ≠ k) (hk : k ≠ 3) :
    (recordFault i s).flt.counts[k]? = s.flt.counts[k]? := by
  unfold recordFault
  split
  · rw [statusEffect_bump_count _ _ rfl hk, bumpFault_count _ _ h]
  · exact bumpFault_count _ _ h

theorem recordFault_count_own (i : FaultInfo) (h : i.kind.code - 1 = k) (hk : k ≠ 3) (hl : k < s.flt.counts.length) :
    (recordFault i s).flt.counts[k]? = some (satInc 255 (s.flt.counts[k]?.getD 0)) := by
  unfold recordFault
  split
  · rw [statusEffect_bump_count _ _ rfl hk, bumpFault_count_own _ _ h hl]
  · exact bumpFault_count_own _ _ h hl

@[simp] theorem setCause_count (c : BitVec 6) : (setCause c s).flt.counts = s.flt.counts := rfl

end

section
variable {k : Nat} (s : State) (hk : SparedCount k)
include hk

theorem statusChange_count : (statusChange s).flt.counts[k]? = s.flt.counts[k]? := by
  rw [sparedCount_iff] at hk
  have ho : ∀ v : State, (statusOverflow v).flt.counts[k]? = v.flt.counts[k]? :=
    fun v => recordFault_count v _ (by simpa [FaultKind.code] using hk.1.symm) hk.1
  unfold statusChange statusEffect placeStatus
  (repeat' split) <;> simp [ho]

/-! ## Cue Outputs -/

theorem placeFrame_count (f : LineFrame) (c : Option (BitVec 6 × BitVec 12)) :
    (placeFrame f c s).flt.counts[k]? = s.flt.counts[k]? := by
  rw [sparedCount_iff] at hk
  unfold placeFrame
  (repeat' split)
  · rfl
  · rfl
  · exact recordFault_count s _ (by simpa [FaultKind.code] using hk.1.symm) hk.1

theorem openPunch_count (c : Chan) (d : CueDef) (q : Option Int) : (openPunch c d q s).flt.counts[k]? = s.flt.counts[k]? := by
  unfold openPunch placePunch
  split <;> simp [placeFrame_count, hk]

theorem closePunch_count (c : Chan) (d : CueDef) (r : BitVec 2) (q : Option Int) :
    (closePunch c d r q s).flt.counts[k]? = s.flt.counts[k]? := by
  unfold closePunch placePunch
  split <;> simp [placeFrame_count, hk]

theorem closeCuePunch_count (d : CueDef) (r : BitVec 2) (q : Option Int) :
    (closeCuePunch d r q s).flt.counts[k]? = s.flt.counts[k]? := by
  unfold closeCuePunch
  split <;> simp [closePunch_count, hk]

theorem dropPunch_count (c : Chan) (i : Nat) : (dropPunch c i s).flt.counts[k]? = s.flt.counts[k]? := by
  have h := (sparedCount_iff k).1 hk
  unfold dropPunch
  (repeat' split)
  · rw [show ∀ f v, (modRun i f v).flt = v.flt from fun _ _ => by simp,
      recordFault_count _ _ (by simp [FaultKind.code]; omega) (by omega), closePunch_count _ hk]
  · rfl
  · rfl

theorem syncLost_count (c : Chan) : (syncLost c s).flt.counts[k]? = s.flt.counts[k]? := by
  unfold syncLost
  exact forIndexes_same (fun v => v.flt.counts[k]?) _ (fun i v => dropPunch_count v hk c i) _ s

/-! ## The Cue Scheduler -/

theorem endRun_count (r : RunState) (i : Nat) : (endRun r i s).flt.counts[k]? = s.flt.counts[k]? := by
  unfold endRun
  (repeat' split) <;> simp [closeCuePunch_count, hk]

theorem interruptAll_count : (interruptAll s).flt.counts[k]? = s.flt.counts[k]? := by
  unfold interruptAll
  exact forIndexes_same (fun v => v.flt.counts[k]?) (endRun .passed) (fun i v => endRun_count v hk _ i) _ s

theorem elementAction_count (q : Option Int) (i : Nat) (e : CueEntry) (el : Element) :
    (elementAction q i e el s).flt.counts[k]? = s.flt.counts[k]? := by
  have h := (sparedCount_iff k).1 hk
  have hf : ∀ (v : State) (j : FaultInfo), j.kind = .punchNosync → (recordFault j v).flt.counts[k]? = v.flt.counts[k]? :=
    fun v j hj => recordFault_count v j (by rw [hj]; simp [FaultKind.code]; omega) (by omega)
  cases el
  case spanStart => simp only [elementAction, fireSpanStart]; split <;> simp
  case lightOn => simp [elementAction, fireLightOn]
  case lightOff => simp only [elementAction, fireLightOff]; split <;> simp
  case punchIn => simp only [elementAction, firePunchIn]; (repeat' split) <;> simp [openPunch_count, hk, hf]
  case punchOut => simp only [elementAction, firePunchOut]; split <;> simp [closeCuePunch_count, hk]
  case spanEnd => simp only [elementAction, fireSpanEnd]; (repeat' split) <;> simp [closeCuePunch_count, hk]
  all_goals simp [elementAction]

theorem fireElement_count (q : Option Int) (i : Nat) (el : Element) : (fireElement q i el s).flt.counts[k]? = s.flt.counts[k]? := by
  unfold fireElement
  (repeat' split) <;> simp [elementAction_count, hk]

theorem lateTurn_count (q : Option Int) (d : Due) : (lateTurn q d s).flt.counts[k]? = s.flt.counts[k]? := by
  have h := (sparedCount_iff k).1 hk
  have hf : ∀ (v : State) (j : FaultInfo), j.kind = .lateFire → (recordFault j v).flt.counts[k]? = v.flt.counts[k]? :=
    fun v j hj => recordFault_count v j (by rw [hj]; simp [FaultKind.code]; omega) (by omega)
  simp only [lateTurn]
  (repeat' split) <;> simp [fireElement_count, hk, hf]

theorem lateFiring_count (b : Int) : (lateFiring b s).flt.counts[k]? = s.flt.counts[k]? :=
  foldl_same (fun v => v.flt.counts[k]?) _ (fun v d => lateTurn_count v hk _ d) _ s

theorem listing_count (b : Int) (t : Time) (n : Nat) : (listing b t n s).flt.counts[k]? = s.flt.counts[k]? := by
  have hd : ∀ (v : State) (d : Due), (fireReached d v).flt.counts[k]? = v.flt.counts[k]? := by
    intro v d
    unfold fireReached
    split <;> simp [fireElement_count, hk]
  exact foldl_same (fun v => v.flt.counts[k]?) _ hd _ _

theorem boundaryList_count (r : BRec) : (boundaryList r s).flt.counts[k]? = s.flt.counts[k]? := by
  unfold boundaryList
  split
  · exact listing_count s hk _ _ _
  · exact forIndexes_same (fun v => v.flt.counts[k]?) _ (fun i v => by simp) _ s

theorem takeBoundary_count (r : BRec) : (takeBoundary r s).flt.counts[k]? = s.flt.counts[k]? := by
  unfold takeBoundary
  (repeat' split)
  · rfl
  · rw [forIndexes_same (fun v => v.flt.counts[k]?) _ (fun i v => by simp) _ _, boundaryList_count _ hk, lateFiring_count _ hk]
  · simp

theorem schedulerReport_count (r : Report) : (schedulerReport r s).flt.counts[k]? = s.flt.counts[k]? := by
  unfold schedulerReport
  split <;> simp [interruptAll_count, hk]

/-! ## The Record Lock -/

theorem setLock_count (c : Chan) (l : LockState) : (setLock c l s).flt.counts[k]? = s.flt.counts[k]? := by
  simp only [setLock, guarded]
  split <;> simp [syncLost_count, statusChange_count, hk]

theorem unlock_count (c : Chan) : (unlock c s).flt.counts[k]? = s.flt.counts[k]? := by
  unfold unlock
  split <;> simp [setLock_count, hk]

theorem countChasing_count (c : Chan) (g : Bool) : (countChasing c g s).flt.counts[k]? = s.flt.counts[k]? := by
  unfold countChasing
  (repeat' split) <;> simp [setLock_count, hk]

theorem countSync_count (c : Chan) (g : Bool) : (countSync c g s).flt.counts[k]? = s.flt.counts[k]? := by
  unfold countSync
  (repeat' split) <;> simp [setLock_count, hk]

theorem lockBoundary_count (c : Chan) (r : BRec) : (lockBoundary c r s).flt.counts[k]? = s.flt.counts[k]? := by
  have hm : ∀ b p, (measure c b p s).flt.counts[k]? = s.flt.counts[k]? := by
    intro b p
    simp only [measure]
    split <;> simp [countChasing_count, countSync_count, setLock_count, hk]
  unfold lockBoundary
  (repeat' split) <;> simp [unlock_count, hk, hm]

theorem lockReport_count (r : Report) (c : Chan) : (lockReport r c s).flt.counts[k]? = s.flt.counts[k]? := by
  unfold lockReport
  (repeat' split) <;> simp [unlock_count, setLock_count, hk]

/-! ## The Position Tracker -/

theorem deliverReport_count (r : Report) : (deliverReport r s).flt.counts[k]? = s.flt.counts[k]? := by
  simp [deliverReport, lockReport_count, schedulerReport_count, hk]

theorem trackerEvent_count (ev : TrackerEvent) : (trackerEvent ev s).flt.counts[k]? = s.flt.counts[k]? := by
  have h := (sparedCount_iff k).1 hk
  refine trackerEvent_invariant (fun v => v.flt.counts[k]? = s.flt.counts[k]?) ev s rfl (fun v hv => ?_) (fun v i hi hv => ?_)
    (fun v r hv => ?_) (fun v r _ hv => ?_) (fun v hv => ?_)
  · rwa [statusChange_count v hk]
  · rwa [recordFault_count v i (by rw [hi]; simp [FaultKind.code]; omega) (by omega)]
  · rwa [deliverReport_count v hk]
  · rwa [takeBoundary_count v hk]
  · rwa [takeHold_flt]

theorem pictureRecord_count (c : Chan) (r : BRec) : (pictureRecord c r s).flt.counts[k]? = s.flt.counts[k]? := by
  simp [pictureRecord, trackerEvent_count, hk]

theorem deliverRecord_count (c : Chan) (r : BRec) : (deliverRecord c r s).flt.counts[k]? = s.flt.counts[k]? := by
  unfold deliverRecord
  split
  · rfl
  · exact pictureRecord_count s hk c r
  · exact lockBoundary_count s hk c r

theorem startTracker_count : (startTracker s).flt.counts[k]? = s.flt.counts[k]? := by
  unfold startTracker
  split <;> simp [trackerEvent_count, hk]

end

end Sys2Proof.Machine
end

section
/-! Index pulses and stalls (R35 to R37, R27). -/

namespace Sys2Proof.Machine
open Sys2Proof

theorem State.withChan_self (s : State) (c : Chan) : s.withChan c (s.chan c) = s := by cases c <;> rfl

/-! ## Index pulses (R35 to R37) -/

/-- The unit counter is not where an index pulse of the direction expects it (R36, R37). -/
def Channel.offIndex (ch : Channel) (g : ChanSettings) (forward : Bool) : Bool :=
  if forward then decide (ch.unit ≠ g.u) else decide (ch.unit ≠ 0)

/-- The channel with a slip counted where the pulse is one (R36, R37). -/
def Channel.slipped (ch : Channel) (g : ChanSettings) (forward : Bool) : Channel :=
  { ch with slips := if ch.offIndex g forward = true ∧ ch.slips < 255 then ch.slips + 1 else ch.slips }

/-- `s` with an index pulse's slip counted and recorded, before its boundary step. -/
def slipTaken (c : Chan) (forward : Bool) (s : State) : State :=
  let v := s.withChan c ((s.chan c).slipped (s.settings.chan c) forward)
  if (s.chan c).offIndex (s.settings.chan c) forward then recordFault { kind := .tachSlip, chan := some c } v else v

@[simp] theorem slipTaken_keeps (c : Chan) (forward : Bool) (s : State) :
    (slipTaken c forward s).chan c = (s.chan c).slipped (s.settings.chan c) forward ∧
    (slipTaken c forward s).chan (otherChan c) = s.chan (otherChan c) ∧
    (slipTaken c forward s).timebase = s.timebase ∧ (slipTaken c forward s).settings = s.settings := by
  unfold slipTaken
  dsimp only
  split <;> simp

theorem slipTaken_eq (c : Chan) (forward : Bool) (s : State) :
    slipTaken c forward s = if (s.chan c).offIndex (s.settings.chan c) forward then slip c s else s := by
  unfold slipTaken
  dsimp only
  split
  · next h => simp [slip, State.modChan_eq_withChan, Channel.slipped, h, satInc]
  · next h =>
    have hx : (s.chan c).slipped (s.settings.chan c) forward = s.chan c := by simp [Channel.slipped, h]
    rw [hx, State.withChan_self]

section
variable (c : Chan) (s : State)

/-- An index pulse of either direction: the slip, then a boundary step (R36, R37). -/
theorem indexForward_eq :
    indexForward c s = takeStep c (stepOf (s.settings.chan c) true ((s.chan c).slipped (s.settings.chan c) true)) 0 (s.chan c).unit
      (slipTaken c true s) := by
  have h : (if (s.chan c).unit = (s.settings.chan c).u then s else slip c s) = slipTaken c true s := by
    rw [slipTaken_eq]; simp [Channel.offIndex, ite_not]
  have hu : ((slipTaken c true s).chan c).unit = (s.chan c).unit := by simp [Channel.slipped]
  simp only [indexForward, h, hu]
  simp [stepOf]

theorem indexReverse_eq :
    indexReverse c s = takeStep c (stepOf (s.settings.chan c) false ((s.chan c).slipped (s.settings.chan c) false))
      ((s.settings.chan c).u - 1) (s.chan c).unit (slipTaken c false s) := by
  have h : (if (s.chan c).unit = 0 then s else slip c s) = slipTaken c false s := by
    rw [slipTaken_eq]; simp [Channel.offIndex, ite_not]
  have hu : ((slipTaken c false s).chan c).unit = (s.chan c).unit := by simp [Channel.slipped]
  simp only [indexReverse, h, hu]
  simp [stepOf]

/-- An index pulse. -/
def indexStep (c : Chan) (forward : Bool) (s : State) : State := if forward then indexForward c s else indexReverse c s

theorem indexStep_eq (forward : Bool) :
    indexStep c forward s = takeStep c (stepOf (s.settings.chan c) forward ((s.chan c).slipped (s.settings.chan c) forward))
      (if forward then 0 else (s.settings.chan c).u - 1) (s.chan c).unit (slipTaken c forward s) := by
  cases forward
  · exact indexReverse_eq c s
  · exact indexForward_eq c s

theorem acceptIndex_recorded (level : Bool) (h : level = false ∨ (s.chan c).lastDir = none) :
    acceptIndex c level s = s.withChan c { s.chan c with ix := { level := some level, edge := some s.timebase } } := by
  rcases h with rfl | h
  · simp [acceptIndex, State.modChan_eq_withChan]
  · cases level <;> simp [acceptIndex, State.modChan_eq_withChan, h]

theorem acceptIndex_pulse (forward : Bool) (h : (s.chan c).lastDir = some forward) :
    acceptIndex c true s =
      indexStep c forward (s.withChan c { s.chan c with ix := { level := some true, edge := some s.timebase } }) := by
  cases forward <;> simp [acceptIndex, State.modChan_eq_withChan, h, indexStep]

/-- A line that does not change level changes nothing (log entry 4). -/
theorem indexChange_same (level : Bool) (h : indexPinOf s.pins c = level) : indexChange c level s = s := by simp [indexChange, h]

/-- An index edge that the channel does not examine moves the pin alone. -/
theorem indexChange_unexamined (level : Bool) (h : indexPinOf s.pins c ≠ level)
    (hx : ¬(s.clp.line ≠ .config ∧ (s.settings.chan c).role ≠ .none ∧ (s.settings.chan c).index = true ∧
      (s.chan c).ix.level ≠ some level)) :
    indexChange c level s = s.modPins fun p => setIndexPin p c level := by
  have hchan : (s.modPins fun p => setIndexPin p c level).chan c = s.chan c := by simp
  simp only [indexChange, if_neg h, hchan]
  rw [if_pos]
  by_contra hc
  simp only [not_or, Bool.not_eq_false, counting_iff] at hc
  obtain ⟨⟨hline, hrole⟩, hindex, hlevel⟩ := hc
  exact hx ⟨hline, hrole, hindex, hlevel⟩

/-- An examined index edge is accepted or a glitch, as G lets it through (R23). -/
theorem indexChange_examined (level : Bool) (h : indexPinOf s.pins c ≠ level) (hl : s.clp.line ≠ .config)
    (hr : (s.settings.chan c).role ≠ .none) (hi : (s.settings.chan c).index = true) (hx : (s.chan c).ix.level ≠ some level) :
    indexChange c level s =
      let s₁ := s.modPins fun p => setIndexPin p c level
      if (s.chan c).ix.free (s.settings.chan c).glitch s.timebase then acceptIndex c level s₁
      else s₁.withChan c { s.chan c with glitches := ((s.chan c).glitches + 1) % 65536 } := by
  have hchan : (s.modPins fun p => setIndexPin p c level).chan c = s.chan c := by simp
  have hc : (s.modPins fun p => setIndexPin p c level).counting c = true := (counting_iff _ _).2 ⟨hl, hr⟩
  simp only [indexChange, if_neg h, hchan, hc, hx, hi, countGlitch, State.modChan_eq_withChan, State.modPins_settings]
  rfl

/-! ## The result of a pulse -/

variable (forward : Bool)

theorem slipped_mayStep (ch : Channel) (g : ChanSettings) (offset : Int) (d : Bool) :
    (ch.slipped g forward).mayStep offset d = ch.mayStep offset d := rfl

theorem indexStep_chan :
    (indexStep c forward s).chan c = ((s.chan c).slipped (s.settings.chan c) forward).boundary (s.settings.chan c).offset forward
      s.timebase (if forward then 0 else (s.settings.chan c).u - 1) (s.chan c).unit := by
  have h := takeStep_chan c forward (if forward then 0 else (s.settings.chan c).u - 1) (s.chan c).unit (slipTaken c forward s)
  simpa [indexStep_eq] using h

theorem indexStep_refused (h : (s.chan c).mayStep (s.settings.chan c).offset forward = false) :
    indexStep c forward s =
      recordFault { kind := .countRange, chan := some c } ((slipTaken c forward s).withChan c ((indexStep c forward s).chan c)) := by
  have := takeStep_refused c forward (if forward then 0 else (s.settings.chan c).u - 1) (s.chan c).unit (slipTaken c forward s)
    (by simpa [slipped_mayStep] using h)
  rw [indexStep_chan, indexStep_eq]
  simpa using this

theorem indexStep_taken (h : (s.chan c).mayStep (s.settings.chan c).offset forward = true) (r : BRec)
    (hr : ((indexStep c forward s).chan c).recNew = some r) :
    indexStep c forward s = deliverRecord c r ((slipTaken c forward s).withChan c ((indexStep c forward s).chan c)) := by
  have := takeStep_taken c forward (if forward then 0 else (s.settings.chan c).u - 1) (s.chan c).unit (slipTaken c forward s)
    (by simpa [slipped_mayStep] using h)
  rw [indexStep_chan, boundary_of_mayStep _ _ _ _ _ _ (by rwa [slipped_mayStep])] at hr
  obtain rfl := Option.some.inj hr
  rw [indexStep_chan]
  conv_lhs => rw [indexStep_eq]
  simpa using this

end

/-! ## The stall (R27) -/

/-- The reference after an event at the tracker is the one the event settles on (R62). -/
theorem trackerEvent_ptr (ev : TrackerEvent) (s : State) : (trackerEvent ev s).ptr = ev.settle s.ptr := by
  refine trackerEvent_invariant (fun v => v.ptr = ev.settle s.ptr) ev s rfl (fun v hv => ?_) (fun v i _ hv => ?_) (fun v r hv => ?_)
    (fun v r _ hv => ?_) (fun v hv => ?_) <;> simpa using hv

/-- Settling the reference leaves its beacon times and the channel interval. -/
@[simp] theorem settle_timers (ev : TrackerEvent) (before : Ptr) :
    (ev.settle before).holdTimer = ev.ptr.holdTimer ∧ (ev.settle before).lastBeacon = ev.ptr.lastBeacon ∧
    (ev.settle before).chanInterval = ev.ptr.chanInterval := by
  unfold TrackerEvent.settle
  dsimp only
  split <;> simp

@[simp] theorem holdLocal_timers (ev : TrackerEvent) (before : Motion) (h : Int) :
    (ev.holdLocal before h).ptr.holdTimer = ev.ptr.holdTimer ∧ (ev.holdLocal before h).ptr.lastBeacon = ev.ptr.lastBeacon ∧
    (ev.holdLocal before h).ptr.chanInterval = ev.ptr.chanInterval := by
  unfold TrackerEvent.holdLocal
  dsimp only
  split <;> simp [TrackerEvent.takeHold, Ptr.modLocal]

/-- A picture channel that comes to stand has beaconed at once, and its hold beacon timer starts (R46, R49). -/
theorem pictureMotion_stopped (c : Chan) (s : State) (h : (s.chan c).motion = .stopped) :
    (pictureMotion c s).ptr.holdTimer = some (later s.timebase 200000) ∧ (pictureMotion c s).ptr.lastBeacon = some s.timebase ∧
    (pictureMotion c s).ptr.chanInterval = none := by
  simp [pictureMotion, h, trackerEvent_ptr, TrackerEvent.of, Ptr.modLocal, sendHold]

/-- What a change of lock state makes of the lock (R75). -/
theorem setLock_lock (c : Chan) (l : LockState) (s : State) :
    (setLock c l s).lock c = { s.lock c with state := l, good := 0, bad := 0 } := by
  have h : ∀ v : State, (statusChange (setCause causeLock v)).lock c = v.lock c :=
    fun v => State.lock_congr (by simp) (by simp) c
  have hs : ∀ v : State, (syncLost c v).lock c = v.lock c := fun v => State.lock_congr (by simp) (by simp) c
  unfold setLock guarded
  split <;> simp [h, hs]

theorem unlock_unlocked (c : Chan) (s : State) : ((unlock c s).lock c).state = .unlocked := by
  unfold unlock
  split
  · assumption
  · rw [setLock_lock]

theorem lockMotion_stopped (c : Chan) (s : State) (h : (s.chan c).motion = .stopped) : lockMotion c s = unlock c s := by
  simp [lockMotion, h]

theorem stallChannel_eq (c : Chan) (s : State) :
    stallChannel c s = deliverMotion c (s.withChan c { s.chan c with motion := .stopped, stall := none }) := by
  simp [stallChannel, State.modChan_eq_withChan]

/-! ## The counts of TACH_SLIP and COUNT_RANGE -/

/-- What a well-formed Fault and Alert says of a count (R192). -/
theorem Flt.ok_count {f : Flt} (h : f.ok = true) (k : Nat) : f.counts.length = 21 ∧ f.counts.getD k 0 ≤ 255 := by
  simp only [Flt.ok, Bool.and_eq_true, decide_eq_true_eq, List.all_eq_true] at h
  obtain ⟨⟨hlen, hall⟩, -⟩ := h
  refine ⟨hlen, ?_⟩
  rw [List.getD_eq_getElem?_getD]
  cases hk : f.counts[k]? with
  | none => simp
  | some n => exact hall n (List.mem_of_getElem? hk)

/-- A count of a well-formed Fault and Alert that goes up. -/
theorem satInc_count {f : Flt} (h : f.ok = true) {k : Nat} : satInc 255 (f.counts[k]?.getD 0) = min 255 (f.counts.getD k 0 + 1) := by
  have hle := (Flt.ok_count h k).2
  rw [List.getD_eq_getElem?_getD] at hle ⊢
  rw [satInc]
  split <;> omega

theorem slipTaken_count (c : Chan) (forward : Bool) (s : State) (k : Nat) (h : k ≠ 7) (h3 : k ≠ 3) :
    (slipTaken c forward s).flt.counts[k]? = s.flt.counts[k]? := by
  unfold slipTaken
  dsimp only
  split
  · rw [recordFault_count _ _ (by simpa [FaultKind.code] using h.symm) h3]; simp
  · simp

theorem slipTaken_slips (c : Chan) (forward : Bool) (s : State) (h : s.flt.ok = true) :
    (slipTaken c forward s).flt.counts[7]?.getD 0 =
      if (s.chan c).offIndex (s.settings.chan c) forward then min 255 (s.flt.counts.getD 7 0 + 1) else s.flt.counts.getD 7 0 := by
  have hl : s.flt.counts.length = 21 := (Flt.ok_count h 0).1
  unfold slipTaken
  dsimp only
  split
  · rw [recordFault_count_own _ _ (by rfl) (by decide) (by simp [hl])]
    simpa using satInc_count h
  · simp

/-! ## The fault counts that a pulse leaves -/

section
variable (c : Chan) (forward : Bool) (s : State)

/-- A pulse moves the count of TACH_SLIP by its slip alone. -/
theorem indexStep_slips (hf : s.flt.ok = true) :
    (indexStep c forward s).flt.counts.getD 7 0 =
      if (s.chan c).offIndex (s.settings.chan c) forward then min 255 (s.flt.counts.getD 7 0 + 1) else s.flt.counts.getD 7 0 := by
  rw [← slipTaken_slips c forward s hf, List.getD_eq_getElem?_getD]
  cases hm : (s.chan c).mayStep (s.settings.chan c).offset forward
  · rw [indexStep_refused c s forward hm, recordFault_count _ _ (by simp [FaultKind.code]) (by decide)]
    simp
  · have hr := indexStep_chan c s forward
    rw [boundary_of_mayStep _ _ _ _ _ _ (by rwa [slipped_mayStep])] at hr
    rw [indexStep_taken c s forward hm _ (by rw [hr]), deliverRecord_count _ ((sparedCount_iff 7).2 (by decide))]
    simp

/-- A pulse moves the count of COUNT_RANGE when the range test refuses its step. -/
theorem indexStep_ranges (hf : s.flt.ok = true) :
    (indexStep c forward s).flt.counts.getD 8 0 =
      if (s.chan c).mayStep (s.settings.chan c).offset forward then s.flt.counts.getD 8 0
      else min 255 (s.flt.counts.getD 8 0 + 1) := by
  have hl : s.flt.counts.length = 21 := (Flt.ok_count hf 0).1
  have hs := slipTaken_count c forward s 8 (by decide) (by decide)
  have hlt : 8 < (slipTaken c forward s).flt.counts.length := by
    by_contra hn
    rw [List.getElem?_eq_none (by omega)] at hs
    simp [hl] at hs
  rw [List.getD_eq_getElem?_getD]
  cases hm : (s.chan c).mayStep (s.settings.chan c).offset forward
  · rw [indexStep_refused c s forward hm, recordFault_count_own _ _ (by rfl) (by decide) (by simpa using hlt)]
    simpa [hs] using satInc_count hf
  · have hr := indexStep_chan c s forward
    rw [boundary_of_mayStep _ _ _ _ _ _ (by rwa [slipped_mayStep])] at hr
    rw [indexStep_taken c s forward hm _ (by rw [hr]), deliverRecord_count _ ((sparedCount_iff 8).2 (by decide))]
    simp [hs]

@[simp] theorem indexStep_keeps :
    (indexStep c forward s).chan (otherChan c) = s.chan (otherChan c) ∧ (indexStep c forward s).pins = s.pins ∧
    (indexStep c forward s).settings = s.settings ∧ (indexStep c forward s).mkl = s.mkl ∧ (indexStep c forward s).ovl = s.ovl := by
  refine ⟨by rw [indexStep_eq]; simp, ?_⟩
  cases forward <;> simp [indexStep]

/-- A stall as `Obligations.IndexPulsesAndStalls` says it. -/
theorem stallChannel_result :
    let g := s.settings.chan c
    let u := stallChannel c s
    u.chan c = { s.chan c with motion := .stopped, stall := none } ∧
    (let v := s.withChan c (u.chan c)
     u = if g.role = .picture then pictureMotion c v else if g.role = .record then lockMotion c v else v) ∧
    u.chan (otherChan c) = s.chan (otherChan c) ∧
    (g.role = .record → (u.lock c).state = .unlocked ∧ u.ptr = s.ptr) ∧
    (g.role = .picture → u.ptr.holdTimer = some (later s.timebase 200000) ∧ u.ptr.lastBeacon = some s.timebase ∧
      u.ptr.chanInterval = none) := by
  intro g u
  have hchan : u.chan c = { s.chan c with motion := .stopped, stall := none } := by simp [u, stallChannel_eq]
  have hu : u = deliverMotion c (s.withChan c (u.chan c)) := by rw [hchan]; exact stallChannel_eq c s
  have hstop : ((s.withChan c (u.chan c)).chan c).motion = .stopped := by simp [hchan]
  have hrole : ((s.withChan c (u.chan c)).settings.chan c).role = g.role := by simp [g]
  refine ⟨hchan, ?_, by simp [u, stallChannel_eq], fun hr => ?_, fun hr => ?_⟩
  · unfold deliverMotion at hu
    rw [hrole] at hu
    cases hr : g.role <;> simpa [hr] using hu
  · rw [hu, deliverMotion_role _ _ (by rw [hrole, hr]; decide), if_neg (by rw [hrole, hr]; decide)]
    exact ⟨by rw [lockMotion_stopped _ _ hstop]; exact unlock_unlocked _ _, by simp⟩
  · rw [hu, deliverMotion_role _ _ (by rw [hrole, hr]; decide), if_pos (by rw [hrole, hr])]
    simpa using pictureMotion_stopped _ _ hstop

end

/-- Settles O55: the tests of R23 by the lemmas about `indexChange`, the pulse by those about `indexStep`, the stall by
`stallChannel_result`. -/
theorem indexPulsesAndStalls : Obligations.IndexPulsesAndStalls := by
  unfold Obligations.IndexPulsesAndStalls
  intro t c level s hr hf g ch u₀ s₁ run examined free ch₁
  have hrun : run = .next (indexChange c level (s.advance t)) := by
    simp [run, exec, execIndexPulse, State.pinEvent, hr]
  have hch : (s.advance t).chan c = ch := by simp [ch]
  have hs₁ : s₁.chan c = ch := hch
  have hrec : { s₁.chan c with ix := { level := some level, edge := some s₁.timebase } } = ch₁ := by rw [hs₁]; rfl
  have hfree : ch.ix.free g.glitch t = true ↔ free := LineRec.free_iff ch.ix g.glitch t
  have haccept : examined → indexChange c level (s.advance t) =
      if ch.ix.free g.glitch t then acceptIndex c level s₁ else s₁.withChan c { ch with glitches := (ch.glitches + 1) % 65536 } := by
    rintro ⟨hpin, hline, hrole, hindex, hlevel⟩
    rw [indexChange_examined _ _ _ (by simpa using hpin) (by simpa using hline) (by simpa using hrole) (by simpa using hindex)
      (by simpa [hch] using hlevel), hch]
    rfl
  refine ⟨fun h => ?_, fun h hx => ?_, fun hx hn => ?_, fun hx hn h => ?_, fun hx hn hl forward hd => ?_, fun he => ?_⟩
  · rw [hrun, indexChange_same _ _ _ (by simpa using h)]
  · rw [hrun, indexChange_unexamined _ _ _ (by simpa using h) (by simpa [hch] using fun a b d e => hx ⟨h, a, b, d, e⟩)]
    rfl
  · rw [hrun, haccept hx, if_neg (fun h => hn (hfree.1 h))]
  · rw [hrun, haccept hx, if_pos (hfree.2 hn), acceptIndex_recorded _ _ _ (by rw [hs₁]; exact h), hrec]
  · intro slips ch₂
    subst hl
    rw [haccept hx, if_pos (hfree.2 hn), acceptIndex_pulse c s₁ forward (by rw [hs₁]; exact hd), hrec] at hrun
    have hchan : (s₁.withChan c ch₁).chan c = ch₁ := State.withChan_chan ..
    have hg : (s₁.withChan c ch₁).settings.chan c = g := by simp [s₁, g]
    have hoff : ch₁.offIndex g forward = slips := rfl
    have hslip : ch₁.slipped g forward = ch₂ := rfl
    have htaken : slipTaken c forward (s₁.withChan c ch₁) =
        if slips then recordFault { kind := .tachSlip, chan := some c } (s₁.withChan c ch₂) else s₁.withChan c ch₂ := by
      simp only [slipTaken, hchan, hg, hoff, hslip, State.withChan_withChan]
    have hrange : ch₁.mayStep g.offset forward = ch.mayStep g.offset forward := rfl
    have hother : s₁.chan (otherChan c) = s.chan (otherChan c) := s.advance_chan t _
    have hflt : (s₁.withChan c ch₁).flt = s.flt := by simp [s₁]
    have hslips := indexStep_slips c forward (s₁.withChan c ch₁) (by rwa [hflt])
    have hranges := indexStep_ranges c forward (s₁.withChan c ch₁) (by rwa [hflt])
    have hrefused := indexStep_refused c (s₁.withChan c ch₁) forward
    have hstep := indexStep_taken c (s₁.withChan c ch₁) forward
    rw [hchan, hg, hoff, hflt] at hslips
    rw [hchan, hg, hrange, hflt] at hranges
    rw [hchan, hg, hrange] at hrefused hstep
    rw [htaken] at hrefused
    refine ⟨_, hrun, ?_, by simp [hother], by simp, by simp [s₁], by simp [s₁], by simp [s₁], hslips, hranges, hrefused, ?_⟩
    · rw [indexStep_chan, hchan, hg, hslip]
      simp [s₁, u₀, ChanSettings.u, ch₁]
    · intro hm r hr
      have hset : ∀ x, ((slipTaken c forward (s₁.withChan c ch₁)).withChan c x).settings.chan c = g := fun x => by simp [s₁, g]
      refine (hstep hm r hr).trans ?_
      rw [deliverRecord_role _ _ _ (by rw [hset]; exact hx.2.2.1), hset, htaken]
  · have hstall : exec (.tachStallExpiry t c) s = .next (stallChannel c (s.advance t)) := by
      simp [exec, execTachStallExpiry, State.event_next, hr, guarded, he, ch]
    obtain ⟨h1, h2, h3, h4, h5⟩ := stallChannel_result c (s.advance t)
    simp only [hch, State.advance_chan, State.advance_settings, State.advance_timebase, State.advance_ptr] at h1 h2 h3 h4 h5
    exact ⟨_, hstall, h1, h2, h3, by simp, by simp, by simp, by simp, h4, h5⟩

end Sys2Proof.Machine
end

section
/-! Frames that take effect, faults recorded where no STATUS frame can be dropped, and CONTROL WRAP. -/

namespace Sys2Proof.Machine
open Sys2Proof

/-- The receiver after a completed frame, whatever recessive bit times had passed (R4). -/
theorem setReceiver_ready_advance (s : State) (t : Time) : setReceiver .ready 0 (s.advance t) = s.heard t := by
  obtain ⟨n, hn⟩ := s.advance_clp t
  simp only [setReceiver, State.modClp, State.heard, hn]
  rfl

/-- A frame that takes effect does so with the receiver in READY (R4, R5). -/
theorem receiveFrame_takes (s : State) (t : Time) (sender : BitVec 5) (effect : State → State) (h : s.takes sender) :
    receiveFrame sender effect (s.advance t) = effect (s.heard t) := by
  obtain ⟨-, hrx, hl, hn, hown⟩ := h
  have hl' : (s.heard t).listening = true := hl
  have hown' : sender ≠ (s.heard t).own := hown
  simp only [receiveFrame, State.advance_clp_rx, if_neg hrx, if_neg (Nat.not_le.2 hn), setReceiver_ready_advance, hl', hown']
  rfl

/-- A status change for which no STATUS frame can be dropped (R18). -/
theorem statusEffect_room (overflow : State → State) (s : State) (h : s.clp.room) :
    statusEffect overflow s = { s with clp := s.clp.statusChanged } := by
  unfold statusEffect Clp.statusChanged
  by_cases hl : s.clp.line = .active
  · have hq : s.clp.queue.length < Config.queueSize := h.resolve_right (fun hn => hn hl)
    by_cases hs : s.clp.statusInFlight = true <;> by_cases hc : .status ∈ s.clp.queue <;>
      by_cases ht : s.clp.spacingTimer.isSome = true <;>
      simp_all [placeStatus, State.modClp]
  · simp [hl]

/-- A fault where no STATUS frame can be dropped (R192 to R194). -/
theorem recordFault_eq_faulted (i : FaultInfo) (s : State) (h : s.clp.room) : recordFault i s = s.faulted i := by
  have hflt : (bumpFault i s).flt = s.flt.recorded
      { kind := i.kind, stamp := s.timebase, pos := if i.pos.isSome then i.pos else s.here, chan := i.chan, cue := i.cue, sender := i.sender } := by
    have hpos : i.pos.or s.here = if i.pos.isSome then i.pos else s.here := by cases i.pos <;> rfl
    simp only [bumpFault, setCause, State.modFlt, faultRecord, hpos, Flt.recorded]
    cases s.flt.first <;> rfl
  have hbump : bumpFault i s = { s with flt := (bumpFault i s).flt } := rfl
  unfold recordFault State.faulted
  rw [← hflt]
  cases hf : s.flt.first
  · rw [statusEffect_room _ _ (by simpa using h), hbump]; simp
  · rw [hbump]; simp

/-- A CONTROL frame that names this station carries out its order (R5; 12 Table 12-4). -/
theorem applyControl_targeted (sender : BitVec 5) (op : BitVec 4) (p : ControlArgs) (s : State) (h : s.targeted p.target = true) :
    applyControl sender op p s = orderOf sender op p s := by simp [applyControl, guarded, h]

/-- A wrap pair is taken by a counting channel that follows (R29). -/
theorem wrapChannel_eq (x y : Int) (c : Chan) (s : State) (h : s.clp.line ≠ .config) :
    wrapChannel x y c s = s.withChan c (
      if (s.settings.chan c).role ≠ .none ∧
          ((s.settings.chan c).follow = .on ∨ (s.settings.chan c).follow = .byRole ∧ (s.settings.chan c).role = .picture) then
        { s.chan c with wrap := { enabled := decide (x ≤ y), s := x, e := y } }
      else s.chan c) := by
  have hcond : (s.counting c && (s.settings.chan c).follows) = true ↔ (s.settings.chan c).role ≠ .none ∧
      ((s.settings.chan c).follow = .on ∨ (s.settings.chan c).follow = .byRole ∧ (s.settings.chan c).role = .picture) := by
    rw [Bool.and_eq_true, counting_iff, ChanSettings.follows]
    cases (s.settings.chan c).follow <;> simp [h]
  unfold wrapChannel
  split
  · next hc => rw [if_pos (hcond.1 hc), State.modChan_eq_withChan]
  · next hc => rw [if_neg (fun h => hc (hcond.2 h)), State.withChan_self]

/-- Settles O43: the orders as `orderOf` gives them, at a frame that takes effect. -/
theorem wrapAndUnknownOrders : Obligations.WrapAndUnknownOrders := by
  unfold Obligations.WrapAndUnknownOrders
  intro t stamp sender op p s ht htarget follows pair
  have hline : (s.heard t).clp.line ≠ .config := by
    obtain ⟨-, -, hl, -⟩ := ht
    intro hc
    replace hc : s.clp.line = .config := hc
    simp [State.listening, hc] at hl
  have hrun : ∀ o, frameEvent t sender (applyControl sender o p) s = .next (orderOf sender o p (s.heard t)) := by
    intro o
    rw [frameEvent, State.event_next _ _ _ ht.1, receiveFrame_takes _ _ _ _ ht, applyControl_targeted _ _ _ (s.heard t) htarget]
  refine ⟨?_, fun hop hroom => ?_⟩
  · have horder : orderOf sender 8 p (s.heard t) = wrapOrder p.arg1.toInt p.arg2.toInt (s.heard t) := rfl
    simp only [exec, execWrap]
    rw [hrun, horder, wrapOrder, wrapChannel_eq _ _ .a _ hline, wrapChannel_eq _ _ .b _ (by simpa using hline)]
    rfl
  · have horder : orderOf sender op p (s.heard t) = unknownOrder sender (s.heard t) := by
      obtain ⟨n, hn⟩ := Nat.exists_eq_add_of_le hop
      simp only [orderOf, hn, Nat.add_comm 10 n]
    simp only [exec, execControlUnknown]
    rw [hrun, horder, unknownOrder, recordFault_eq_faulted _ (s.heard t) hroom]

end Sys2Proof.Machine
end

section
/-! SUPPORT. START, stage by stage: the working settings, the faults that the clamps record, the frozen geometry. -/

namespace Sys2Proof.Machine
open Sys2Proof

/-! ## The working settings (R22, R65, R138, R151) -/

theorem clamp_eq (lo hi n : Nat) (h : lo ≤ hi) : clamp lo hi n = max lo (min hi n) := by
  unfold clamp
  split
  · omega
  · split <;> omega

theorem clampGeometry_eq (g : Settings) (h : g.programmed = true) : clampGeometry g.geometry = g.clamped.geometry := by
  simp only [clampGeometry, Settings.clamped, h, if_true]
  rw [clamp_eq 64 4095 _ (by omega), clamp_eq 16 2047 _ (by omega), clamp_eq 32 _ _ (by omega), clamp_eq 0 _ _ (by omega),
    clamp_eq 8 _ _ (by omega), clamp_eq 1 _ _ (by omega)]
  simp

theorem clampRoles_settings (s : State) : (clampRoles s).settings = { s.settings with b := s.settings.clamped.b } := by
  simp only [clampRoles, guarded, Settings.clamped, Bool.or_eq_true, decide_eq_true_eq]
  split
  · simp
  · rfl

theorem clampSetting_settings (get : Settings → Nat) (set : Nat → Settings → Settings) (work : Nat → Nat) (s : State) :
    (clampSetting get set work s).settings = set (work (get s.settings)) s.settings := by
  simp only [clampSetting, guarded]
  split <;> simp

theorem clampOverlay_settings (s : State) :
    (clampOverlay s).settings = { s.settings with streamerWidth := s.settings.clamped.streamerWidth, geometry := s.settings.clamped.geometry } := by
  have hw : ∀ p v, (guarded p recordClamp v).settings = v.settings := by
    intro p v; unfold guarded; split <;> simp
  have hc : clamp 1 16 s.settings.streamerWidth = s.settings.clamped.streamerWidth := clamp_eq _ _ _ (by omega)
  simp only [clampOverlay, hw, hc, State.modSettings_settings]
  cases hp : s.settings.programmed
  · simp [Settings.clamped, hp, hw]
  · simp [hw, clampGeometry_eq, hp]

/-- Stage 1 of START leaves the working settings (R188). -/
theorem clampAll_settings (s : State) : (clampAll s).settings = s.settings.clamped := by
  unfold clampAll
  simp only [clampOverlay_settings, clampSetting_settings, clampRoles_settings]
  simp only [Settings.clamped, workPitch, clamp_eq 8 128 _ (by omega), clamp_eq 10 250 _ (by omega), clamp_eq 400 2000 _ (by omega)]

/-- The working settings are in their working ranges. -/
theorem clamped_working (g : Settings) : g.clamped.working = true := by
  have hp := Nat.mul_mod_left (max 400 (min 2000 g.pitch) / 10) 10
  simp only [Settings.working, Settings.clamped, Bool.and_eq_true, decide_eq_true_eq, Bool.or_eq_true, Bool.not_eq_true']
  refine ⟨⟨⟨⟨⟨⟨by omega, by omega⟩, by omega⟩, by omega⟩, ?_⟩, ?_⟩, ?_⟩
  · split
    · simp
    · next h => simp only [not_or, not_and] at h; simpa using h.1
  · split
    · simp
    · next h => simp only [not_or, not_and] at h; simpa using h.2
  · cases g.programmed
    · simp
    · right; simp only [if_true]; omega

/-- Settings in their working ranges are what START leaves. -/
theorem clamped_of_working (g : Settings) (h : g.working = true) : g.clamped = g := by
  obtain ⟨a, b, tolerance, lt0, lt1, lt2, lt3, beepMs, pitch, collect, programmed, geometry, width⟩ := g
  simp only [Settings.working, Bool.and_eq_true, decide_eq_true_eq, Bool.or_eq_true, Bool.not_eq_true', Bool.and_eq_false_iff,
    decide_eq_false_iff_not] at h
  obtain ⟨⟨⟨⟨⟨⟨htol, hbeep⟩, hpitch⟩, hwidth⟩, hpic⟩, hrec⟩, hgeo⟩ := h
  have hroles : ¬(a.role = .picture ∧ b.role = .picture ∨ a.role = .record ∧ b.role = .record ∧ a.group = b.group) := by
    rintro (⟨h1, h2⟩ | ⟨h1, h2, h3⟩)
    · simp [h1, h2] at hpic
    · simp [h1, h2, h3] at hrec
  simp only [Settings.clamped, if_neg hroles, Settings.mk.injEq, true_and]
  refine ⟨by omega, by omega, by omega, ?_, by omega⟩
  cases programmed
  · simp
  · obtain ⟨total, start, gwidth, lines, first, active⟩ := geometry
    simp only [reduceCtorEq, false_or] at hgeo
    simp only [if_true, Geometry.mk.injEq]
    omega

/-! ## The faults that the clamps record -/

/-- Outside ACTIVE a fault is no status change: Fault and Alert alone takes it (R18, R192). -/
theorem recordFault_inactive (i : FaultInfo) (s : State) (h : s.clp.line ≠ .active) :
    recordFault i s = { s with flt := s.flt.recorded (faultRecord i s) } := by
  rw [recordFault_eq_faulted i s (.inr h), State.faulted]
  have hpos : (if i.pos.isSome then i.pos else s.here) = i.pos.or s.here := by cases i.pos <;> rfl
  simp only [Clp.statusChanged, if_pos h, faultRecord, hpos, ite_self]

/-- The record of a clamp with no channel, or at a channel (R22, R65, R138, R151). -/
def State.clampRecord (s : State) (c : Option Chan) : FaultRec := faultRecord { kind := .configClamp, chan := c } s

/-- `s` with other settings, and CONFIG_CLAMP recorded `n` times without a channel. -/
def State.clampedTo (s : State) (g : Settings) (n : Nat) : State :=
  { s with settings := g, flt := (fun f => f.recorded (s.clampRecord none))^[n] s.flt }

theorem clampedTo_clampedTo (s : State) (g h : Settings) (m n : Nat) : (s.clampedTo g m).clampedTo h n = s.clampedTo h (m + n) := by
  simp only [State.clampedTo, Nat.add_comm m n, Function.iterate_add, Function.comp]
  rfl

@[simp] theorem clampedTo_settings (s : State) (g : Settings) (n : Nat) : (s.clampedTo g n).settings = g := rfl

@[simp] theorem clampedTo_clp (s : State) (g : Settings) (n : Nat) : (s.clampedTo g n).clp = s.clp := rfl

theorem recordClamp_clampedTo (s : State) (f : Settings → Settings) (h : s.clp.line ≠ .active) (p : Bool) :
    guarded p recordClamp (s.modSettings f) = s.clampedTo (f s.settings) p.toNat := by
  cases p
  · rfl
  · exact recordFault_inactive _ (s.modSettings f) h

theorem clampSetting_clampedTo (get : Settings → Nat) (set : Nat → Settings → Settings) (work : Nat → Nat) (s : State)
    (h : s.clp.line ≠ .active) :
    clampSetting get set work s =
      s.clampedTo (set (work (get s.settings)) s.settings) (decide (work (get s.settings) ≠ get s.settings)).toNat :=
  recordClamp_clampedTo s _ h _

theorem recordTimes_clampedTo (n : Nat) (s : State) (h : s.clp.line ≠ .active) :
    recordTimes { kind := .configClamp } n s = s.clampedTo s.settings n := by
  induction n generalizing s with
  | zero => rfl
  | succ n ih =>
    have hone : recordFault { kind := .configClamp } s = s.clampedTo s.settings 1 := recordFault_inactive _ s h
    rw [recordTimes, hone, ih (s.clampedTo s.settings 1) h, Nat.add_comm n 1]
    exact clampedTo_clampedTo s _ _ 1 n

theorem clampOverlay_clampedTo (s : State) (h : s.clp.line ≠ .active) :
    clampOverlay s = s.clampedTo
      { s.settings with streamerWidth := s.settings.clamped.streamerWidth, geometry := s.settings.clamped.geometry }
      ((decide (s.settings.clamped.streamerWidth ≠ s.settings.streamerWidth)).toNat +
        geometryChanges s.settings.geometry s.settings.clamped.geometry) := by
  have hc : clamp 1 16 s.settings.streamerWidth = s.settings.clamped.streamerWidth := clamp_eq _ _ _ (by omega)
  simp only [clampOverlay, hc, recordClamp_clampedTo s _ h, clampedTo_settings]
  cases hp : s.settings.programmed
  · have hg : s.settings.clamped.geometry = s.settings.geometry := by simp [Settings.clamped, hp]
    simp [hg, geometryChanges]
  · rw [if_pos rfl, clampGeometry_eq s.settings hp, recordTimes_clampedTo _ _ (by exact h)]
    exact clampedTo_clampedTo s _ _ _ _

/-- How many clamps without a channel apply. -/
def plainClamps (g h : Settings) : Nat :=
  (decide (h.tolerance ≠ g.tolerance)).toNat + (decide (h.beepMs ≠ g.beepMs)).toNat + (decide (h.pitch ≠ g.pitch)).toNat +
    ((decide (h.streamerWidth ≠ g.streamerWidth)).toNat + geometryChanges g.geometry h.geometry)

theorem clampCount_eq (g h : Settings) : clampCount g h = (decide (h.b.role ≠ g.b.role)).toNat + plainClamps g h := by
  have hd : ∀ (α : Type) [DecidableEq α] (x y : α) (l : List Bool),
      (decide (x ≠ y) :: l).count true = (decide (y ≠ x)).toNat + l.count true := by
    intro α _ x y l
    by_cases hxy : x = y
    · simp [hxy]
    · simp [hxy, Ne.symm hxy, Nat.add_comm]
  have hg : ∀ (x y : Nat), (decide (x ≠ y)).toNat = (decide (y ≠ x)).toNat := by
    intro x y; simp [eq_comm]
  simp only [clampCount, hd, List.count_nil, plainClamps, geometryChanges]
  rw [hg h.geometry.total, hg h.geometry.lines, hg h.geometry.width, hg h.geometry.start, hg h.geometry.active, hg h.geometry.first]
  omega

/-- The role clamps (R22): at most one fault, at channel B. -/
theorem clampRoles_eq (s : State) (h : s.clp.line ≠ .active) :
    clampRoles s = { s with
      settings := { s.settings with b := s.settings.clamped.b }
      flt := if s.settings.clamped.b.role = s.settings.b.role then s.flt else s.flt.recorded (s.clampRecord (some .b)) } := by
  simp only [clampRoles, guarded, Settings.clamped, Bool.or_eq_true, decide_eq_true_eq]
  split
  · next hc =>
    have hb : Role.none ≠ s.settings.b.role := by
      rcases hc with ⟨-, hb⟩ | ⟨-, hb, -⟩ <;> simp [hb]
    rw [if_neg hb, recordFault_inactive _ _ (by exact h)]
    rfl
  · simp

/-- Stage 1 of START while no STATUS frame is asked for: the working settings, and a CONFIG_CLAMP for each clamp (R188, R192). -/
theorem clampAll_eq (s : State) (h : s.clp.line ≠ .active) :
    clampAll s = { s with
      settings := s.settings.clamped
      flt := (fun f => f.recorded (s.clampRecord none))^[plainClamps s.settings s.settings.clamped]
        (if s.settings.clamped.b.role = s.settings.b.role then s.flt else s.flt.recorded (s.clampRecord (some .b))) } := by
  unfold clampAll
  have h' : (clampRoles s).clp.line ≠ .active := by simpa using h
  rw [clampSetting_clampedTo _ _ _ _ h', clampSetting_clampedTo _ _ _ _ (by simpa using h), clampSetting_clampedTo _ _ _ _ (by simpa using h),
    clampOverlay_clampedTo _ (by simpa using h), clampedTo_clampedTo, clampedTo_clampedTo, clampedTo_clampedTo]
  simp only [clampedTo_settings, clampRoles_settings, workPitch, clamp_eq 8 128 _ (by omega), clamp_eq 10 250 _ (by omega),
    clamp_eq 400 2000 _ (by omega)]
  rw [clampRoles_eq s h]
  simp only [State.clampedTo, plainClamps, Nat.add_assoc]
  rfl

/-! ## Faults of one kind, one after another (R192) -/

/-- Fault and Alert after `n` faults of the kind of `r`, of which `r` is the first. -/
def Flt.noted (f : Flt) (r : FaultRec) (n : Nat) : Flt :=
  { counts := f.counts.set (r.kind.code - 1) (min 255 (f.counts.getD (r.kind.code - 1) 0 + n))
    first := f.first.or (if n = 0 then none else some r)
    more := f.more || decide (1 < n) || f.first.isSome && decide (n ≠ 0)
    causes := if n = 0 then f.causes else f.causes ||| causeFault
    enable := f.enable }

/-- The code of every fault kind has its place among the counts. -/
theorem FaultKind.code_lt (k : FaultKind) : k.code - 1 < 21 := by cases k <;> decide

theorem noted_zero (f : Flt) (r : FaultRec) (h : f.ok = true) : f.noted r 0 = f := by
  obtain ⟨hlen, hle⟩ := Flt.ok_count h (r.kind.code - 1)
  have hlt : r.kind.code - 1 < f.counts.length := hlen ▸ r.kind.code_lt
  have hset : f.counts.set (r.kind.code - 1) (min 255 (f.counts.getD (r.kind.code - 1) 0 + 0)) = f.counts := by
    rw [Nat.add_zero, Nat.min_eq_right hle, List.getD_eq_getElem?_getD, List.getElem?_eq_getElem hlt, Option.getD_some,
      List.set_getElem_self]
  simp only [Flt.noted, hset]
  simp

/-- One more fault of the kind. -/
theorem noted_recorded (f : Flt) (r x : FaultRec) (n : Nat) (h : f.ok = true) (hk : x.kind = r.kind) (hx : n = 0 → x = r) :
    (f.noted r n).recorded x = f.noted r (n + 1) := by
  obtain ⟨hlen, hle⟩ := Flt.ok_count h (r.kind.code - 1)
  have hlt : r.kind.code - 1 < f.counts.length := hlen ▸ r.kind.code_lt
  have hget : (f.counts.set (r.kind.code - 1) (min 255 (f.counts.getD (r.kind.code - 1) 0 + n))).getD (r.kind.code - 1) 0 =
      min 255 (f.counts.getD (r.kind.code - 1) 0 + n) := by
    rw [List.getD_eq_getElem?_getD, List.getElem?_set_self hlt, Option.getD_some]
  have hnum : ∀ c : Nat, (if min 255 (c + n) < 255 then min 255 (c + n) + 1 else min 255 (c + n)) = min 255 (c + (n + 1)) := by
    intro c; split <;> omega
  simp only [Flt.recorded, Flt.noted, hk, hget, hnum, List.set_set, Flt.mk.injEq, true_and, and_true]
  refine ⟨?_, ?_, ?_⟩
  · cases f.first <;> by_cases hn : n = 0 <;> simp_all
  · cases f.first <;> cases f.more <;> by_cases hn : n = 0 <;> simp_all; omega
  · by_cases hn : n = 0 <;> simp [hn, BitVec.or_assoc]

theorem noted_iterate (f : Flt) (r x : FaultRec) (k n : Nat) (h : f.ok = true) (hk : x.kind = r.kind) (hx : k = 0 → x = r) :
    (fun f => f.recorded x)^[n] (f.noted r k) = f.noted r (k + n) := by
  induction n with
  | zero => rfl
  | succ n ih =>
    rw [Function.iterate_succ_apply', ih, noted_recorded f r x (k + n) h hk (fun h0 => hx (by omega)), Nat.add_assoc]

/-- The first CONFIG_CLAMP of a START (R22, R188). -/
def State.firstClamp (s : State) : FaultRec :=
  s.clampRecord (if s.settings.clamped.b.role = s.settings.b.role then none else some .b)

/-- Stage 1 of START at a station with a well-formed Fault and Alert. -/
theorem clampAll_noted (s : State) (h : s.clp.line ≠ .active) (hf : s.flt.ok = true) :
    clampAll s = { s with
      settings := s.settings.clamped
      flt := s.flt.noted s.firstClamp (clampCount s.settings s.settings.clamped) } := by
  rw [clampAll_eq s h, clampCount_eq, State.firstClamp]
  by_cases hb : s.settings.clamped.b.role = s.settings.b.role
  · have hit := noted_iterate s.flt (s.clampRecord none) (s.clampRecord none) 0
      (plainClamps s.settings s.settings.clamped) hf rfl (fun _ => rfl)
    rw [noted_zero _ _ hf] at hit
    simp [hb, hit]
  · have hone := noted_recorded s.flt (s.clampRecord (some .b)) (s.clampRecord (some .b)) 0 hf rfl (fun _ => rfl)
    rw [noted_zero _ _ hf] at hone
    have hit := noted_iterate s.flt (s.clampRecord (some .b)) (s.clampRecord none) 1
      (plainClamps s.settings s.settings.clamped) hf rfl (fun h0 => absurd h0 (by decide))
    simp [hb, hone, hit]

/-! ## The frozen geometry (R148, R151, R152) -/

/-- The raster is STABLE with a settled measurement that does not agree with the programmed geometry (R148). -/
def State.rasterDisagrees (s : State) : Bool :=
  s.settings.programmed && decide (s.ovl.raster = .stable) && s.ovl.settled.any fun m => !m.agrees s.settings.geometry

/-- The disagreement as the statements write it: a total or a line count that the geometry does not allow (R148). -/
theorem rasterDisagrees_iff (s : State) :
    let h := s.settings.geometry
    let within := fun (k : Nat) => k = h.lines ∨ k = h.lines + 1
    s.rasterDisagrees = true ↔ s.settings.programmed = true ∧ s.ovl.raster = .stable ∧
      (s.ovl.settled.any fun m => !decide (m.total = h.total ∧ within m.least ∧ within m.greatest)) = true := by
  intro h within
  have hagrees : (fun m : Settled => !m.agrees h) = fun m => !decide (m.total = h.total ∧ within m.least ∧ within m.greatest) := by
    funext m
    simp [Settled.agrees, linesFit, within, Bool.and_assoc]
  simp only [State.rasterDisagrees, Bool.and_eq_true, decide_eq_true_eq, and_assoc, ← hagrees, h]

/-- The overlay after START (R148, R151, R152). -/
def State.startedOverlay (s : State) : Ovl :=
  { s.ovl with
    raster := if s.rasterDisagrees then .mismatch else s.ovl.raster
    frozen := if s.settings.programmed then some s.settings.geometry
      else match s.ovl.raster, s.ovl.settled with
        | .stable, some m => some (Sys2Proof.Machine.captureOf m)
        | _, _ => s.ovl.frozen }

/-- The test of a settled measurement at a station that is not ACTIVE (R148). -/
theorem testSettled_eq (m : Settled) (g : Geometry) (s : State) (h : s.clp.line ≠ .active) (hr : s.ovl.raster = .stable) :
    testSettled m g s = { s with
      ovl := { s.ovl with raster := if !m.agrees g then .mismatch else s.ovl.raster }
      flt := if !m.agrees g then s.flt.recorded (faultRecord { kind := .rasterMismatch } s) else s.flt } := by
  unfold testSettled
  cases m.agrees g
  · exact recordFault_inactive _ _ (by exact h)
  · simp [State.modOvl, hr]

/-- START at the overlay of a station that is not ACTIVE: the geometry is frozen, and tested where the raster is STABLE. -/
theorem startOverlay_eq (s : State) (h : s.clp.line ≠ .active) :
    startOverlay s = { s with
      ovl := s.startedOverlay
      flt := if s.rasterDisagrees then s.flt.recorded (faultRecord { kind := .rasterMismatch } s) else s.flt } := by
  obtain ⟨_, _, _, _, g, clp, _, _, _, _, _, _, _, _, ⟨raster, _, _, _, settled, _, _, _⟩, _, _, _, _, _⟩ := s
  cases hp : g.programmed <;> cases raster <;> cases settled <;>
    simp only [startOverlay, State.startedOverlay, State.rasterDisagrees, hp, State.modOvl]
  case true.stable.some m =>
    exact testSettled_eq m g.geometry _ h rfl
  all_goals rfl

end Sys2Proof.Machine
end

section
/-! SUPPORT. A calm part: while no cue runs and the station is not ACTIVE, reports, lock changes and re-derivations send nothing and
leave the due list empty. -/

namespace Sys2Proof.Machine
open Sys2Proof

theorem forIndexes_id (n : Nat) (f : Nat → State → State) (s : State) (h : ∀ i, f i s = s) : forIndexes n f s = s := by
  unfold forIndexes
  induction List.range n with
  | nil => rfl
  | cons i l ih => rw [List.foldl_cons, h, ih]

/-- What every turn of a loop keeps, the loop keeps. -/
theorem forIndexes_invariant (P : State → Prop) (n : Nat) (f : Nat → State → State) (h : ∀ i v, P v → P (f i v)) (s : State) (hs : P s) :
    P (forIndexes n f s) := by
  unfold forIndexes
  induction List.range n generalizing s with
  | nil => exact hs
  | cons i l ih => exact ih _ (h i s hs)

/-! ## No cue runs -/

theorem calm_entry {s : State} (h : s.anyRunning = false) {i : Nat} {e : CueEntry} (he : s.entry i = some e) : e.run.state ≠ .running := by
  intro hr
  unfold State.entry at he
  rw [List.getD_eq_getElem?_getD] at he
  cases hx : s.ctb.entries[i]? with
  | none => simp [hx] at he
  | some o =>
    rw [hx, Option.getD_some] at he
    subst he
    have : s.anyRunning = true := by
      unfold State.anyRunning
      exact List.any_eq_true.2 ⟨_, List.mem_of_getElem? hx, by simp [hr]⟩
    simp [this] at h

/-- A run part that does not run takes the place of an entry's. -/
theorem modRun_calm (i : Nat) (f : RunPart → RunPart) (s : State) (h : s.anyRunning = false)
    (hf : ∀ e, s.entry i = some e → (f e.run).state ≠ .running) : (modRun i f s).anyRunning = false := by
  unfold State.anyRunning at h ⊢
  rw [List.any_eq_false] at h ⊢
  intro o ho
  change o ∈ s.ctb.entries.set i ((s.entry i).map fun e => { e with run := f e.run }) at ho
  rcases List.mem_or_eq_of_mem_set ho with ho | rfl
  · exact h o ho
  · cases he : s.entry i with
    | none => simp
    | some e => simpa using hf e he

theorem endRun_calm (r : RunState) (i : Nat) (s : State) (h : s.anyRunning = false) : endRun r i s = s := by
  unfold endRun
  split
  · next e he => rw [if_neg (calm_entry h he)]
  · rfl

theorem interruptAll_calm (s : State) (h : s.anyRunning = false) : interruptAll s = s :=
  forIndexes_id _ (endRun .passed) s fun i => endRun_calm _ i s h

theorem syncLost_calm (c : Chan) (s : State) (h : s.anyRunning = false) : syncLost c s = s := by
  refine forIndexes_id _ (dropPunch c) s fun i => ?_
  unfold dropPunch
  split
  · next e he => rw [if_neg (fun hr => calm_entry h he hr.1)]
  · rfl

/-- A re-derivation starts no run (R105). -/
theorem rederiveAll_calm (q : Option Int) (s : State) (h : s.anyRunning = false) : (rederiveAll q s).anyRunning = false := by
  unfold rederiveAll
  refine forIndexes_invariant (fun v => v.anyRunning = false) _ (rederive q) (fun i v hv => ?_) s h
  have hdue : ∀ w : State, (unlistEntry i w).anyRunning = w.anyRunning := fun w => rfl
  unfold rederive
  (repeat' split)
  · exact modRun_calm _ _ _ hv (by simp)
  · rw [hdue]; exact modRun_calm _ _ _ hv (by simp)
  · exact hv
  · exact hv

/-- A re-derivation lists nothing. -/
theorem rederiveAll_due (q : Option Int) (s : State) (h : s.csh.due = []) : (rederiveAll q s).csh.due = [] := by
  unfold rederiveAll
  refine forIndexes_invariant (fun v => v.csh.due = []) _ (rederive q) (fun i v hv => ?_) s h
  unfold rederive
  (repeat' split) <;> simp [unlistEntry, hv]

/-! ## The station is not ACTIVE -/

theorem statusChange_inactive (s : State) (h : s.clp.line ≠ .active) : statusChange s = s := by
  simp [statusChange, statusEffect, h]

/-- What a calm part keeps of its transmitter, its cues and its outputs. -/
def SameCues (s u : State) : Prop := u.clp = s.clp ∧ u.ctb = s.ctb ∧ u.csh = s.csh ∧ u.cou = s.cou

theorem setLock_calm (c : Chan) (l : LockState) (s : State) (h : s.anyRunning = false) (hl : s.clp.line ≠ .active) :
    SameCues s (setLock c l s) := by
  unfold setLock guarded
  rw [statusChange_inactive _ (by simpa using hl)]
  have hc : ∀ v : State, v.ctb = s.ctb → v.anyRunning = false := fun v hv => by rw [State.anyRunning, hv]; exact h
  split
  · rw [syncLost_calm _ _ (hc _ (by simp))]; simp [SameCues]
  · simp [SameCues]

theorem unlock_calm (c : Chan) (s : State) (h : s.anyRunning = false) (hl : s.clp.line ≠ .active) : SameCues s (unlock c s) := by
  unfold unlock
  split
  · exact ⟨rfl, rfl, rfl, rfl⟩
  · exact setLock_calm c _ s h hl

theorem lockReport_calm (r : Report) (c : Chan) (s : State) (h : s.anyRunning = false) (hl : s.clp.line ≠ .active) :
    SameCues s (lockReport r c s) := by
  have same : SameCues s s := ⟨rfl, rfl, rfl, rfl⟩
  unfold lockReport
  split
  · cases r
    case jump | wrap =>
      cases (s.lock c).state
      · exact same
      · simp [SameCues]
      · exact setLock_calm c _ s h hl
    case stop | fast | loss => exact unlock_calm c s h hl
    case reversal | playable => exact same
  · exact same

/-- A report at the scheduler of a calm part ends no run and empties the due list (R126). -/
theorem schedulerReport_calm (r : Report) (s : State) (h : s.anyRunning = false) (hd : s.csh.due = []) :
    (schedulerReport r s).clp = s.clp ∧ (schedulerReport r s).anyRunning = false ∧ (schedulerReport r s).csh.due = [] := by
  unfold schedulerReport
  split
  · exact ⟨rfl, h, hd⟩
  · rw [interruptAll_calm s h]
    exact ⟨by simp [emptyDue], rederiveAll_calm _ _ h, rederiveAll_due _ _ rfl⟩

/-- A part that is not ACTIVE, in which nothing runs and nothing is listed, with the transmitter as it was. -/
structure CalmFrom (c : Clp) (s : State) : Prop where
  clp : s.clp = c
  runs : s.anyRunning = false
  due : s.csh.due = []

theorem CalmFrom.same {c : Clp} {s u : State} (h : CalmFrom c s) (hu : SameCues s u) : CalmFrom c u := by
  obtain ⟨hclp, hctb, hcsh, -⟩ := hu
  exact ⟨hclp.trans h.clp, by rw [State.anyRunning, hctb]; exact h.runs, by rw [hcsh]; exact h.due⟩

/-- A report in a calm part sends nothing, starts nothing and leaves no tally (R62, R126, R142). -/
theorem deliverReport_calm (r : Report) {c : Clp} (hl : c.line ≠ .active) (s : State) (h : CalmFrom c s) :
    CalmFrom c (deliverReport r s) ∧ (deliverReport r s).cou.tally = [] := by
  obtain ⟨hclp, hruns, hdue⟩ := schedulerReport_calm r s h.runs h.due
  have hs : CalmFrom c (clearTally (schedulerReport r s)) := ⟨hclp.trans h.clp, hruns, hdue⟩
  have ha := lockReport_calm r .a _ hs.runs (by rw [hs.clp]; exact hl)
  have hb := lockReport_calm r .b _ (hs.same ha).runs (by rw [(hs.same ha).clp]; exact hl)
  refine ⟨(hs.same ha).same hb, ?_⟩
  obtain ⟨-, -, -, hcouA⟩ := ha
  obtain ⟨-, -, -, hcouB⟩ := hb
  unfold deliverReport
  rw [hcouB, hcouA]
  rfl

theorem takeHold_calm {c : Clp} (s : State) (h : CalmFrom c s) : CalmFrom c (takeHold s) := by
  unfold takeHold
  split
  · exact h
  · exact ⟨by simp [h.clp], rederiveAll_calm _ _ h.runs, rederiveAll_due _ _ h.due⟩

/-- An event at the tracker that carries no boundary leaves a calm part calm. -/
theorem trackerEvent_calm (ev : TrackerEvent) (hb : ev.boundary = none) {c : Clp} (hl : c.line ≠ .active) (s : State) (h : CalmFrom c s) :
    CalmFrom c (trackerEvent ev s) := by
  refine trackerEvent_invariant (CalmFrom c) ev s ⟨h.clp, h.runs, h.due⟩ (fun v hv => ?_) (fun v i _ hv => ?_) (fun v r hv => ?_)
    (fun v r hr _ => ?_) takeHold_calm
  · rwa [statusChange_inactive v (by rw [hv.clp]; exact hl)]
  · rw [recordFault_inactive i v (by rw [hv.clp]; exact hl)]
    exact ⟨hv.clp, hv.runs, hv.due⟩
  · exact (deliverReport_calm r hl v hv).1
  · simp [hb] at hr

@[simp] theorem choose_boundary (ev : TrackerEvent) (t : Time) : (ev.choose t).boundary = ev.boundary := by
  unfold TrackerEvent.choose
  (repeat' split) <;> rfl

/-- START at the tracker of a calm part (R41, R188). -/
theorem startTracker_calm {c : Clp} (hl : c.line ≠ .active) (s : State) (h : CalmFrom c s) : CalmFrom c (startTracker s) := by
  unfold startTracker
  split
  · exact h
  · exact trackerEvent_calm _ (by simp [TrackerEvent.of]) hl s h

end Sys2Proof.Machine
end

section
/-! START as a whole: what a command frame does at a framing position of 0, and what a taken START leaves. -/

namespace Sys2Proof.Machine
open Sys2Proof

/-! ## A command frame (R175 to R177, R205) -/

/-- The bits of a command frame, but for the idle frame's, spell it (R205). -/
theorem decode_command (code : BitVec 5) (f : CmdFields) (w : BitVec 6) (h : false ∈ (ServiceFrame.command code f w).bits) :
    ServiceFrame.decode (ServiceFrame.command code f w).bits = .command code f w := by
  have hall : (ServiceFrame.command code f w).bits.all id = false := List.all_eq_false.2 ⟨false, h, by simp⟩
  unfold ServiceFrame.decode
  rw [hall]
  simp [ServiceFrame.bits, drop_field]

/-- A 0 among bits ends the run before it, so what ran before the bits no longer counts (R176). -/
theorem onesAfter_of_mem (l : List Bool) (h : false ∈ l) (m n : Nat) : onesAfter m l = onesAfter n l := by
  induction l generalizing m n with
  | nil => simp at h
  | cons b l ih =>
    simp only [onesAfter, List.foldl_cons] at ih ⊢
    cases b
    · rfl
    · exact ih (by simpa using h) _ _

/-- The port as a command frame finds it: the frame's bits sampled, and the watch ended, but for NOP (R177). -/
def State.commanded (s : State) (code : BitVec 5) (f : CmdFields) (w : BitVec 6) : State :=
  { s with svc := { s.svc with
      sampled := [], ones := onesAfter s.svc.ones (ServiceFrame.command code f w).bits
      watch := if code = 0 then s.svc.watch else none } }

theorem sampleBits_command (st : Straps) (code : BitVec 5) (f : CmdFields) (w : BitVec 6) (s : State)
    (h : s.portFree (.command code f w)) :
    sampleBits st (ServiceFrame.command code f w).bits s = answer (commandAct st code f (s.commanded code f w)) := by
  obtain ⟨ht, hp⟩ := h
  obtain ⟨-, -, hmem, -⟩ := id ht
  rw [sampleBits_taken _ _ _ ht, decode_command _ _ _ hmem]
  exact takeCommand_free _ _ _ _ hp

/-- The row START at a port that takes it (R188). -/
theorem exec_start (t : Time) (f : CmdFields) (w : BitVec 6) (s : State) (h : s.portFree (.command 5 f w)) :
    exec (.start t ⟨f, w⟩) s = .next (answer (doStart ((s.advance t).commanded 5 f w))) := by
  have hp : (s.advance t).portFree (.command 5 f w) := h
  obtain ⟨⟨hreset, -⟩, -⟩ := h
  simp only [exec, execStart, State.event_next _ _ _ hreset, samplePort, sampleBits_command _ _ _ _ _ hp]
  rfl

/-- A START that is refused changes the port alone. -/
theorem exec_start_refused (t : Time) (f : CmdFields) (w : BitVec 6) (s : State) (d : DataWord) (h : s.portFree (.command 5 f w))
    (hdo : ∀ v : State, v.clp.line = s.clp.line → v.straps = s.straps → doStart v = (v, { data := d, refused := true })) :
    exec (.start t ⟨f, w⟩) s = .next ((s.advance t).answered (.command 5 f w) .none none s.svc.capture d true) := by
  have hpend : s.svc.pending = .none := h.2
  rw [exec_start t f w s h, hdo _ (by simp [State.commanded]) (by simp [State.commanded]), answer_eq]
  simp [State.commanded, State.answered, hpend]
  rfl

/-- A START in CONFIG with a good station number is taken (R188). -/
theorem doStart_taken (s : State) (hl : s.clp.line = .config) (hst : s.straps.station.toNat < 24) :
    doStart s = (startPart s, { data := 0, refused := false }) := by
  simp [doStart, hl, goodStraps, hst]

/-! ## What a taken START leaves (R188) -/

/-- A channel as START samples its lines (R22). -/
def Channel.started (ch : Channel) (g : ChanSettings) (pins : Levels) (c : Chan) : Channel :=
  if g.role = .none then ch
  else { ch with
    p1 := { level := some (pinOf pins c .p1), edge := none }
    p2 := { level := some (pinOf pins c .p2), edge := none }
    ix := { level := some (indexPinOf pins c), edge := none } }

theorem sampleChannel_eq (c : Chan) (s : State) :
    sampleChannel c s = s.withChan c ((s.chan c).started (s.settings.chan c) s.pins c) := by
  unfold sampleChannel Channel.started
  split
  · rw [State.withChan_self]
  · exact State.modChan_eq_withChan ..

/-- The part before the tracker's START: the clamps, the line and the channels (R188). -/
def State.prepared (s : State) : State :=
  { s with
    settings := s.settings.clamped
    flt := s.flt.noted s.firstClamp (clampCount s.settings s.settings.clamped)
    svc := { s.svc with capture := none }
    clp := { s.clp with line := .joining, joinTimer := some (later s.timebase 300000) }
    chA := s.chA.started s.settings.clamped.a s.pins .a
    chB := s.chB.started s.settings.clamped.b s.pins .b }

/-- The part that the tracker's START finds: clamped, JOINING, the channels sampled (R188). -/
def State.atTracker (s : State) : State := sampleChannel .b (sampleChannel .a (startLine (emptyCapture (clampAll s))))

theorem startPart_stages (s : State) : startPart s = startKey (startOverlay (startTracker s.atTracker)) := by
  rw [startPart, State.atTracker]

theorem atTracker_prepared (s : State) (h : s.clp.line = .config) (hf : s.flt.ok = true) : s.atTracker = s.prepared := by
  rw [State.atTracker, clampAll_noted s (by rw [h]; decide) hf, sampleChannel_eq, sampleChannel_eq]
  rfl

theorem prepared_chan (s : State) (c : Chan) : s.prepared.chan c = (s.chan c).started (s.settings.clamped.chan c) s.pins c := by
  cases c <;> rfl

/-- START leaves the working settings (R188). -/
theorem startPart_settings (s : State) : (startPart s).settings = s.settings.clamped := by
  simp [startPart, clampAll_settings]

theorem startTracker_prepared_disagrees (s : State) : (startTracker s.prepared).rasterDisagrees = s.prepared.rasterDisagrees := by
  simp [State.rasterDisagrees]

/-- The part after a START, block by block; the tracker's START moves the reference, the locks, the cues and the outputs. -/
theorem startPart_blocks (s : State) (h : s.clp.line = .config) (hf : s.flt.ok = true) :
    startPart s = { startTracker s.prepared with
      mkl := { s.mkl with key := if s.pins.markn then .armed else .held, timer := none, latch := none }
      ovl := s.prepared.startedOverlay
      flt := if s.prepared.rasterDisagrees then
          (startTracker s.prepared).flt.recorded (faultRecord { kind := .rasterMismatch } (startTracker s.prepared))
        else (startTracker s.prepared).flt } := by
  have hline : (startTracker s.prepared).clp.line ≠ .active := by simp [State.prepared]
  have ho : (startTracker s.prepared).startedOverlay = s.prepared.startedOverlay := by
    unfold State.startedOverlay
    rw [startTracker_prepared_disagrees]
    simp
  have hm : (startTracker s.prepared).mkl = s.mkl := by simp [State.prepared]
  have hp : (startTracker s.prepared).pins = s.pins := by simp [State.prepared]
  rw [startPart_stages, atTracker_prepared s h hf, startOverlay_eq _ hline, startTracker_prepared_disagrees]
  simp only [startKey, setKey, State.modMkl, ho, hm, hp]

/-- A fault moves the count of its kind alone, which stays at 255 (R192). -/
theorem recorded_count_other (f : Flt) (r : FaultRec) (k : Nat) (h : r.kind.code - 1 ≠ k) :
    (f.recorded r).counts[k]? = f.counts[k]? := by simp [Flt.recorded, List.getElem?_set_ne h]

/-- Every clamp of a START is one CONFIG_CLAMP (R188, R192). -/
theorem startPart_clamps (s : State) (h : s.clp.line = .config) (hf : s.flt.ok = true) :
    (startPart s).flt.counts.getD 6 0 = min 255 (s.flt.counts.getD 6 0 + clampCount s.settings s.settings.clamped) := by
  have htracker := startTracker_count (k := 6) s.prepared ((sparedCount_iff 6).2 (by decide))
  have hlen := (Flt.ok_count hf 6).1
  have hnoted : s.prepared.flt.counts[6]? = some (min 255 (s.flt.counts.getD 6 0 + clampCount s.settings s.settings.clamped)) :=
    List.getElem?_set_self (by rw [hlen]; exact FaultKind.code_lt _)
  rw [List.getD_eq_getElem?_getD, startPart_blocks s h hf]
  dsimp only
  split
  · rw [recorded_count_other _ _ _ (by simp [faultRecord, FaultKind.code]), htracker, hnoted]; rfl
  · rw [htracker, hnoted]; rfl

/-- A STABLE raster that disagrees with the frozen geometry is one RASTER_MISMATCH (R148, R192). -/
theorem startPart_mismatch (s : State) (h : s.clp.line = .config) (hf : s.flt.ok = true) :
    (startPart s).flt.counts.getD 19 0 =
      if s.prepared.rasterDisagrees then min 255 (s.flt.counts.getD 19 0 + 1) else s.flt.counts.getD 19 0 := by
  have htracker := startTracker_count (k := 19) s.prepared ((sparedCount_iff 19).2 (by decide))
  obtain ⟨hlen, hle⟩ := Flt.ok_count hf 19
  have hnoted : s.prepared.flt.counts[19]? = s.flt.counts[19]? :=
    List.getElem?_set_ne (by simp [State.firstClamp, State.clampRecord, faultRecord, FaultKind.code])
  have hget : (startTracker s.prepared).flt.counts.getD 19 0 = s.flt.counts.getD 19 0 := by
    rw [List.getD_eq_getElem?_getD, htracker, hnoted, ← List.getD_eq_getElem?_getD]
  have hlt : 19 < (startTracker s.prepared).flt.counts.length := by
    by_contra hn
    rw [List.getElem?_eq_none (by omega), hnoted] at htracker
    simp [hlen] at htracker
  rw [startPart_blocks s h hf]
  dsimp only
  split
  · have hset : ((startTracker s.prepared).flt.recorded (faultRecord { kind := .rasterMismatch } (startTracker s.prepared))).counts.getD 19 0 =
        satInc 255 ((startTracker s.prepared).flt.counts.getD 19 0) := by
      rw [List.getD_eq_getElem?_getD, Flt.recorded]
      simp [faultRecord, FaultKind.code, satInc, hlt]
    rw [hset, hget, satInc]
    split <;> omega
  · exact hget

/-- While no cue runs a START sends nothing (R188). -/
theorem startTracker_prepared_calm (s : State) (hq : s.quiet = true) :
    CalmFrom s.prepared.clp (startTracker s.prepared) := by
  simp only [State.quiet, Bool.and_eq_true, Bool.not_eq_true', List.isEmpty_iff] at hq
  obtain ⟨hruns, hdue⟩ := hq
  exact startTracker_calm (by simp [State.prepared]) _ ⟨rfl, hruns, hdue⟩

/-- Fault and Alert after the clamps and the mismatch of a START with no PICTURE channel, as `Obligations.StartResult` says it. -/
theorem noted_mismatch (f : Flt) (r m : FaultRec) (n : Nat) (d : Bool) (hf : f.ok = true) (hr : r.kind = .configClamp)
    (hm : m.kind = .rasterMismatch) :
    let g := if d then (f.noted r n).recorded m else f.noted r n
    let faults := n + if d then 1 else 0
    g = { counts := (f.counts.set 6 (g.counts.getD 6 0)).set 19 (g.counts.getD 19 0)
          first := f.first.or (if n ≠ 0 then some r else if d then some m else none)
          more := f.more || decide (1 < faults) || f.first.isSome && decide (faults ≠ 0)
          causes := if faults = 0 then f.causes else f.causes ||| causeFault
          enable := f.enable } := by
  have hlen := (Flt.ok_count hf 6).1
  intro g faults
  have hcounts : g.counts = (f.counts.set 6 (g.counts.getD 6 0)).set 19 (g.counts.getD 19 0) := by
    have h6 : 6 < f.counts.length := by omega
    have h19 : 19 < f.counts.length := by omega
    cases d
    · have hset : (f.noted r n).counts = f.counts.set 6 (min 255 (f.counts.getD 6 0 + n)) := by rw [Flt.noted, hr]; rfl
      have hget : (f.counts.set 6 (min 255 (f.counts.getD 6 0 + n))).getD 6 0 = min 255 (f.counts.getD 6 0 + n) := by simp [h6]
      have hget' : (f.counts.set 6 (min 255 (f.counts.getD 6 0 + n))).getD 19 0 = f.counts[19] := by simp [h19]
      simp only [g, Bool.false_eq_true, if_false, hset, hget, hget']
      rw [List.set_comm _ _ (by decide), List.set_getElem_self]
    · simp [g, Flt.recorded, Flt.noted, hr, hm, FaultKind.code, h6, h19]
  change Flt.mk g.counts g.first g.more g.causes g.enable = _
  rw [Flt.mk.injEq]
  refine ⟨hcounts, ?_, ?_, ?_, ?_⟩
  · cases d <;> by_cases hn : n = 0 <;> cases hx : f.first <;> simp [g, Flt.recorded, Flt.noted, hn, hx]
  · cases d <;> by_cases hn : n = 0 <;> cases hx : f.first <;> cases hy : f.more <;>
      simp [g, faults, Flt.recorded, Flt.noted, hn, hx, hy]
    omega
  · cases d <;> by_cases hn : n = 0 <;> simp [g, faults, Flt.recorded, Flt.noted, hn, BitVec.or_assoc]
  · cases d <;> rfl

theorem startPart_svc (s : State) : (startPart s).svc = { s.svc with capture := none } := by simp [startPart, emptyCapture]

/-- A frame that is taken and leaves nothing pending, watched or captured: the port shows its answer (R177, R178). -/
theorem answer_svc (fr : ServiceFrame) (s : State) (n : Nat) (h : false ∈ fr.bits) (hs : s.svc.sampled = [])
    (ho : s.svc.ones = onesAfter n fr.bits) (hp : s.svc.pending = .none) (hw : s.svc.watch = none) (hc : s.svc.capture = none) :
    (answer (s, { data := 0, refused := false })).svc =
      ((answer (s, { data := 0, refused := false })).answered fr .none none none 0 false).svc := by
  have hones : s.svc.ones = onesAfter s.svc.ones fr.bits := by
    conv_lhs => rw [ho]
    exact onesAfter_of_mem _ h _ _
  simp only [answer_eq, State.answered, hs, hp, hw, hc, Svc.mk.injEq, true_and]
  exact ⟨hones, rfl, trivial⟩

/-- Settles O18: the clamps by `clampAll_noted`, the overlay by `startOverlay_eq`, and that nothing is sent by
`startTracker_calm`. -/
theorem startResult : Obligations.StartResult := by
  unfold Obligations.StartResult
  intro t f w s h
  obtain ⟨⟨-, -, hmem, -⟩, hpend⟩ := id h
  refine ⟨fun hl => ?_, fun hl hst => ?_, fun hl hst hf => ?_⟩
  · exact exec_start_refused t f w s 1 h fun v hv _ => if_pos (by rwa [hv])
  · exact exec_start_refused t f w s 2 h fun v hv hs => by simp [doStart, goodStraps, hv, hl, hs, hst]
  · rw [exec_start t f w s h, doStart_taken _ (by simpa [State.commanded] using hl) (by simpa [State.commanded] using hst)]
    have hvl : ((s.advance t).commanded 5 f w).clp.line = .config := by simpa [State.commanded] using hl
    obtain ⟨v, hv⟩ : ∃ v, v = (s.advance t).commanded 5 f w := ⟨_, rfl⟩
    obtain ⟨P, hP⟩ : ∃ P, P = startPart v := ⟨_, rfl⟩
    have hblocks := startPart_blocks v (hv ▸ hvl) (by rw [hv]; exact hf)
    have hset := startPart_settings v
    have hclamps := startPart_clamps v (hv ▸ hvl) (by rw [hv]; exact hf)
    have hmis := startPart_mismatch v (hv ▸ hvl) (by rw [hv]; exact hf)
    have hsvc := startPart_svc v
    have htracker := startTracker_prepared_calm v
    have hchan : ∀ c, P.chan c = (v.chan c).started (v.settings.clamped.chan c) v.pins c := by
      intro c
      rw [← prepared_chan, hP]
      exact State.chan_congr (by rw [hblocks]; simp) (by rw [hblocks]; simp) c
    rw [← hv, ← hP]
    rw [← hP] at hset hclamps hmis hsvc hblocks
    refine ⟨_, rfl, ?_⟩
    intro n geo within disagrees
    have hdis : v.prepared.rasterDisagrees = true ↔ disagrees := by
      rw [hv]
      exact rasterDisagrees_iff ((s.advance t).commanded 5 f w).prepared
    have hif : ∀ (α : Type) (x y : α), (if disagrees then x else y) = if v.prepared.rasterDisagrees then x else y :=
      fun _ _ _ => if_congr hdis.symm rfl rfl
    have hclp : s.quiet = true → P.clp = { (s.advance t).clp with line := .joining, joinTimer := some (later t 300000) } := by
      intro hq
      rw [hblocks]
      have := (htracker (by rw [hv]; exact hq)).clp
      rw [hv] at this ⊢
      exact this
    have hovl : P.ovl = v.prepared.startedOverlay := by rw [hblocks]
    have hmkl : P.mkl = { v.mkl with key := if v.pins.markn then .armed else .held, timer := none, latch := none } := by rw [hblocks]
    have hrest : P.straps = s.straps ∧ P.pins = s.pins := by rw [hP, hv]; simp [State.commanded]
    subst hv
    refine ⟨hset, hclamps, hclp, hmkl, fun c => (hchan c).trans ?_, hovl.trans ?_, hmis.trans ?_, ?_, fun hn => ?_, hrest.1, hrest.2⟩
    · have hsc : (answer (P, { data := 0, refused := false })).settings = s.settings.clamped := hset
      rw [hsc]
      exact s.advance_chan t c ▸ rfl
    · simp only [hif]
      rfl
    · simp only [hif]
      rfl
    · exact answer_svc _ _ s.svc.ones hmem (by rw [hsvc]; rfl) (by rw [hsvc]; rfl) (by rw [hsvc]; exact hpend) (by rw [hsvc]; rfl)
        (by rw [hsvc])
    · simp only [hif]
      have hnone : startTracker ((s.advance t).commanded 5 f w).prepared = ((s.advance t).commanded 5 f w).prepared := by
        have hpic : ((s.advance t).commanded 5 f w).prepared.settings.picture = none := by
          have hn' : P.settings.picture = none := hn
          rwa [hset] at hn'
        simp only [startTracker, hpic]
      rw [hnone] at hblocks
      have hflt := noted_mismatch s.flt ((s.advance t).commanded 5 f w).firstClamp
        (faultRecord { kind := .rasterMismatch } ((s.advance t).commanded 5 f w).prepared)
        (clampCount s.settings s.settings.clamped) ((s.advance t).commanded 5 f w).prepared.rasterDisagrees hf rfl rfl
      rw [hblocks]
      refine ⟨rfl, rfl, rfl, rfl, rfl, rfl, rfl, ?_, rfl⟩
      exact hflt

end Sys2Proof.Machine
end

section
/-! START at a picture station (R41, R45, R49, R50, R63). -/

namespace Sys2Proof.Machine
open Sys2Proof

/-- The LOCAL entry as START adds it (R41). -/
def State.localSource (s : State) (c : Chan) : Source :=
  { sender := s.own.toNat, isLocal := true, rank := s.straps.rank.toNat, motion := .stopped, record := none, interval := none,
    hold := some (holdPosition (s.settings.chan c) (s.chan c)), lastBeacon := 0, aging := none }

/-- The reference TRACKING its one source, which stands (R50, R63). -/
def Ptr.alone (e : Source) (holdTimer : Option Time) : Ptr :=
  { Ptr.reset with
    sources := some e :: List.replicate 7 none
    state := .tracking, chosen := some e.sender, hold := e.hold, holdTimer := holdTimer }

/-- A first source is chosen: the reference enters TRACKING with a JUMP (R45, R50). -/
theorem choose_alone (e : Source) (timer : Option Time) (t : Time) :
    (TrackerEvent.of { Ptr.reset with sources := addSource e Ptr.reset.sources, holdTimer := timer }).choose t =
      { TrackerEvent.of { Ptr.alone e timer with recNew := e.record } with jump := true, hold := e.hold.isSome } := by
  have hadd : addSource e Ptr.reset.sources = some e :: List.replicate 7 none := rfl
  have hleast : leastBy Source.before ((some e :: List.replicate 7 none).filterMap id) = some e := rfl
  simp only [TrackerEvent.choose, TrackerEvent.of, hadd, hleast]
  rfl

/-- The event of a first source that stands and has no record. -/
def aloneEvent (e : Source) (timer : Option Time) : TrackerEvent :=
  { TrackerEvent.of (Ptr.alone e timer) with jump := true, hold := true }

/-- The reference that a first source leaves. -/
theorem aloneEvent_settle (e : Source) (timer : Option Time) (hm : e.motion = .stopped) :
    (aloneEvent e timer).settle Ptr.reset = Ptr.alone e timer := by
  have hchosen : (Ptr.alone e timer).chosenSource = some e := by
    simp [Ptr.chosenSource, Ptr.alone]
  have hmotion : (Ptr.alone e timer).derivedMotion = .stopped := by
    have hstate : (Ptr.alone e timer).state = .tracking := rfl
    have hfast : (Ptr.alone e timer).fastDiff = false := rfl
    simp [Ptr.derivedMotion, hchosen, hstate, hfast, hm]
  simp only [TrackerEvent.settle, aloneEvent, TrackerEvent.of, hmotion]
  rfl

/-- A first source is reported as a JUMP alone (R58 to R62). -/
theorem aloneEvent_reports (e : Source) (timer : Option Time) :
    (aloneEvent e timer).reports Ptr.reset (Ptr.alone e timer) = [.jump] := by
  simp [TrackerEvent.reports, aloneEvent, TrackerEvent.of, Ptr.alone, Ptr.reset, turned]

/-- Outside ACTIVE an event that loses no source and carries no boundary is its new values, its reports and its hold update
(R62). -/
theorem trackerEvent_plain (ev : TrackerEvent) (s : State) (hlost : ev.lost = none) (hb : ev.boundary = none)
    (hl : s.clp.line ≠ .active) :
    trackerEvent ev s = guarded ev.hold takeHold
      ((ev.reports s.ptr (ev.settle s.ptr)).foldl (fun v r => deliverReport r v) { s with ptr := ev.settle s.ptr }) := by
  have hstatus : ∀ (p : Bool) (v : State), v.clp = s.clp → guarded p statusChange v = v := by
    intro p v hv
    unfold guarded
    rw [statusChange_inactive v (by rwa [hv]), ite_self]
  have hmoved : ∀ p, guarded p statusChange (s.modPtr fun _ => ev.settle s.ptr) = s.modPtr fun _ => ev.settle s.ptr :=
    fun p => hstatus p _ rfl
  simp only [trackerEvent, hlost, hb, hmoved]
  rfl

/-- START at the tracker of a station whose reference is reset (R41, R45, R49, R50, R63). -/
theorem startTracker_alone (s : State) (c : Chan) (hc : s.settings.picture = some c) (hp : s.ptr = .reset)
    (hl : s.clp.line ≠ .active) :
    startTracker s = takeHold (deliverReport .jump { s with
      ptr := Ptr.alone (s.localSource c) (some (later s.timebase 200000)) }) := by
  have hevent : (TrackerEvent.of { Ptr.reset with
      sources := addSource (s.localSource c) Ptr.reset.sources, holdTimer := some (later s.timebase 200000) }).choose s.timebase =
      aloneEvent (s.localSource c) (some (later s.timebase 200000)) := choose_alone _ _ _
  have hstart : startTracker s = trackerEvent (aloneEvent (s.localSource c) (some (later s.timebase 200000))) s := by
    rw [← hevent]
    simp only [startTracker, hc, hp]
    rfl
  rw [hstart, trackerEvent_plain _ _ rfl rfl hl, hp, aloneEvent_settle _ _ rfl, aloneEvent_reports]
  rfl

theorem atTracker_settings (s : State) : s.atTracker.settings = s.settings.clamped := by
  simp [State.atTracker, clampAll_settings]

theorem atTracker_line (s : State) : s.atTracker.clp.line = .joining := by
  simp [State.atTracker, startLine]

@[simp] theorem atTracker_keeps (s : State) :
    s.atTracker.timebase = s.timebase ∧ s.atTracker.straps = s.straps ∧ s.atTracker.ptr = s.ptr ∧ s.atTracker.ctb = s.ctb ∧
    s.atTracker.csh = s.csh := by
  simp [State.atTracker]

/-- START samples the lines of a channel and leaves what it has counted. -/
theorem started_hold (ch : Channel) (g k : ChanSettings) (pins : Levels) (c : Chan) :
    holdPosition g (ch.started k pins c) = holdPosition g ch := by
  unfold Channel.started
  split <;> rfl

theorem atTracker_localSource (s : State) (c : Chan) :
    s.atTracker.localSource c = { s.localSource c with hold := some (holdPosition (s.settings.clamped.chan c) (s.chan c)) } := by
  have hchan : holdPosition (s.settings.clamped.chan c) (s.atTracker.chan c) =
      holdPosition (s.settings.clamped.chan c) (s.chan c) := by
    cases c <;> simp [State.atTracker, sampleChannel_eq, State.withChan, State.chan, started_hold]
  simp [State.localSource, State.own, atTracker_settings, hchan]

/-- What the tracker's START leaves of the reference, the due list and the tally where no cue runs and the reference is reset. -/
theorem startTracker_quiet (s : State) (c : Chan) (hq : s.quiet = true) (hp : s.ptr = .reset) (hc : s.settings.picture = some c)
    (hl : s.clp.line ≠ .active) :
    (startTracker s).ptr = Ptr.alone (s.localSource c) (some (later s.timebase 200000)) ∧ (startTracker s).cou.tally = [] ∧
      (startTracker s).csh.due = [] := by
  simp only [State.quiet, Bool.and_eq_true, Bool.not_eq_true', List.isEmpty_iff] at hq
  obtain ⟨hruns, hdue⟩ := hq
  obtain ⟨v, hv⟩ : ∃ v, v = { s with ptr := Ptr.alone (s.localSource c) (some (later s.timebase 200000)) } := ⟨_, rfl⟩
  have hcalm : CalmFrom s.clp v := by rw [hv]; exact ⟨rfl, hruns, hdue⟩
  have hptr : v.ptr = Ptr.alone (s.localSource c) (some (later s.timebase 200000)) := by rw [hv]
  obtain ⟨hd, htally⟩ := deliverReport_calm .jump hl v hcalm
  have hcou : ∀ v, (takeHold v).cou = v.cou := by intro v; simp only [takeHold]; split <;> simp
  rw [startTracker_alone s c hc hp hl, ← hv]
  exact ⟨by simp [hptr], by rw [hcou, htally], (takeHold_calm _ hd).due⟩

/-- What a START leaves of them. -/
theorem startPart_quiet (s : State) (c : Chan) (hq : s.quiet = true) (hp : s.ptr = .reset) (hc : s.settings.clamped.picture = some c) :
    (startPart s).ptr = Ptr.alone (s.atTracker.localSource c) (some (later s.timebase 200000)) ∧ (startPart s).cou.tally = [] ∧
      (startPart s).csh.due = [] := by
  have hquiet : s.atTracker.quiet = true := by
    simp only [State.quiet, State.anyRunning, atTracker_keeps] at hq ⊢
    exact hq
  have h := startTracker_quiet s.atTracker c hquiet (by simpa using hp) (by rwa [atTracker_settings])
    (by rw [atTracker_line]; decide)
  simpa only [startPart_stages, startKey_keeps, startOverlay_keeps, atTracker_keeps] using h

/-- Settles O19: the tracker's START by `startTracker_alone`, that nothing is listed and no tally stands by
`deliverReport_calm`. -/
theorem startAtAPictureStation : Obligations.StartAtAPictureStation := by
  unfold Obligations.StartAtAPictureStation
  intro t f w s c hport hq hl hst hp hc h
  obtain ⟨v, hv⟩ : ∃ v, v = (s.advance t).commanded 5 f w := ⟨_, rfl⟩
  have hdo : doStart v = (startPart v, { data := 0, refused := false }) := by
    rw [hv]
    exact doStart_taken _ (by simpa [State.commanded] using hl) (by simpa [State.commanded] using hst)
  obtain ⟨hptr, htally, hdue⟩ := startPart_quiet v c (by rw [hv]; exact hq) (by rw [hv]; exact hp) (by rw [hv]; exact hc)
  have hhold := atTracker_localSource v c
  rw [exec_start t f w s hport, ← hv, hdo]
  generalize startPart v = P at hptr htally hdue
  generalize v.atTracker = X at hptr hhold
  refine ⟨_, rfl, ?_, ?_⟩
  · rw [answer_eq, hptr, hhold, hv]
    cases c <;> rfl
  · rw [answer_eq]
    exact ⟨htally, hdue⟩

end Sys2Proof.Machine
end

section
/-! SUPPORT. Steady operations: they leave the settings, whether the station has started, the motion of a channel consistent and the
lock of a channel that does not count with role RECORD at its reset values. Shown for the Record Lock, the Position Tracker and the
tach channels. -/

namespace Sys2Proof.Machine
open Sys2Proof

/-- What every operation but START, a reset and a WRITE to CONFIG keeps. -/
structure Steady (s u : State) : Prop where
  settings : u.settings = s.settings
  line : u.clp.line = .config ↔ s.clp.line = .config
  motion : ∀ c, (s.chan c).motionOk = true → (u.chan c).motionOk = true
  lock : ∀ c, s.lockActs c = false → s.lock c = .reset → u.lock c = .reset

theorem Steady.refl (s : State) : Steady s s := ⟨rfl, .rfl, fun _ h => h, fun _ _ h => h⟩

theorem Steady.lockActs {s u : State} (h : Steady s u) (c : Chan) : u.lockActs c = s.lockActs c := by
  simp [State.lockActs, State.started, h.settings, h.line]

theorem Steady.trans {s u v : State} (h : Steady s u) (k : Steady u v) : Steady s v where
  settings := k.settings.trans h.settings
  line := k.line.trans h.line
  motion c hc := k.motion c (h.motion c hc)
  lock c ha hr := k.lock c (by rwa [h.lockActs]) (h.lock c ha hr)

/-- `Steady.trans` with the later operation first. -/
theorem Steady.after {s u v : State} (k : Steady u v) (h : Steady s u) : Steady s v := h.trans k

/-- An operation that leaves the settings, the line state, the channels and the locks is steady. -/
theorem Steady.of_kept {s u : State} (h : u.settings = s.settings ∧ u.clp.line = s.clp.line ∧ u.chA = s.chA ∧ u.chB = s.chB ∧
    u.lockA = s.lockA ∧ u.lockB = s.lockB) : Steady s u := by
  obtain ⟨hset, hline, ha, hb, hla, hlb⟩ := h
  exact ⟨hset, by rw [hline], fun c hc => by rwa [State.chan_congr ha hb], fun c _ hr => by rwa [State.lock_congr hla hlb]⟩

/-- A guarded operation is steady where it acts. -/
theorem Steady.guarded {s : State} {p : Bool} {f : State → State} (h : p = true → Steady s (f s)) : Steady s (guarded p f s) := by
  cases p
  · exact .refl s
  · exact h rfl

theorem recordFault_steady (i : FaultInfo) (s : State) : Steady s (recordFault i s) := .of_kept (by simp)

/-! ## The Record Lock -/

/-- The two locks are the one named and the other. -/
theorem forall_chan {P : Chan → Prop} (c : Chan) : (∀ d, P d) ↔ P c ∧ P (otherChan c) :=
  ⟨fun h => ⟨h _, h _⟩, fun h d => by obtain ⟨h₁, h₂⟩ := h; cases c <;> cases d <;> assumption⟩

/-- An operation at a lock: steady where it leaves the other lock and, while the lock does not act, a lock at its reset values. -/
theorem Steady.of_lock {s u : State} (c : Chan) (h : u.settings = s.settings ∧ u.clp.line = s.clp.line ∧ u.chA = s.chA ∧ u.chB = s.chB)
    (hother : u.lock (otherChan c) = s.lock (otherChan c)) (hown : s.lockActs c = false → s.lock c = .reset → u.lock c = .reset) :
    Steady s u := by
  obtain ⟨hset, hline, ha, hb⟩ := h
  exact ⟨hset, by rw [hline], fun d hd => by rwa [State.chan_congr ha hb],
    (forall_chan c).2 ⟨hown, fun _ hr => by rwa [hother]⟩⟩

section
variable (c : Chan) (s : State)

@[simp] theorem modLock_other (f : Lock → Lock) : (s.modLock c f).lock (otherChan c) = s.lock (otherChan c) := by cases c <;> rfl

@[simp] theorem setLock_other (l : LockState) : (setLock c l s).lock (otherChan c) = s.lock (otherChan c) := by
  have hstatus : ∀ v : State, (statusChange (setCause causeLock v)).lock (otherChan c) = v.lock (otherChan c) :=
    fun v => State.lock_congr (by simp) (by simp) _
  have hlost : ∀ v : State, (syncLost c v).lock (otherChan c) = v.lock (otherChan c) := fun v => State.lock_congr (by simp) (by simp) _
  unfold setLock guarded
  split <;> simp [hstatus, hlost]

@[simp] theorem unlock_other : (unlock c s).lock (otherChan c) = s.lock (otherChan c) := by
  unfold unlock
  split <;> simp

@[simp] theorem countChasing_other (g : Bool) : (countChasing c g s).lock (otherChan c) = s.lock (otherChan c) := by
  unfold countChasing
  (repeat' split) <;> simp

@[simp] theorem countSync_other (g : Bool) : (countSync c g s).lock (otherChan c) = s.lock (otherChan c) := by
  unfold countSync
  (repeat' split) <;> simp

@[simp] theorem measure_other (b p : Int) : (measure c b p s).lock (otherChan c) = s.lock (otherChan c) := by
  unfold measure
  dsimp only
  split <;> simp

@[simp] theorem lockBoundary_other (r : BRec) : (lockBoundary c r s).lock (otherChan c) = s.lock (otherChan c) := by
  unfold lockBoundary
  (repeat' split) <;> simp

@[simp] theorem lockMotion_other : (lockMotion c s).lock (otherChan c) = s.lock (otherChan c) := by
  unfold lockMotion
  (repeat' split) <;> simp

@[simp] theorem lockReport_other (r : Report) : (lockReport r c s).lock (otherChan c) = s.lock (otherChan c) := by
  unfold lockReport
  (repeat' split) <;> simp

/-- A lock at its reset values is not changed by coming to stand (R71). -/
theorem unlock_reset (h : s.lock c = .reset) : unlock c s = s := by simp [unlock, h, Lock.reset]

/-- A boundary record at a lock that acts is steady. -/
theorem lockBoundary_steady (r : BRec) (h : s.lockActs c = true) : Steady s (lockBoundary c r s) :=
  .of_lock c (by simp) (by simp) (by simp [h])

/-- A motion change is steady at a lock that acts, and at one whose channel comes to stand. -/
theorem lockMotion_steady (h : s.lockActs c = true ∨ (s.chan c).motion = .stopped) : Steady s (lockMotion c s) := by
  refine .of_lock c (by simp) (by simp) fun ha hr => ?_
  rw [lockMotion_stopped c s (h.resolve_left (by simp [ha])), unlock_reset c s hr, hr]

/-- A lock that does not act takes no report (R65). -/
theorem lockReport_steady (r : Report) : Steady s (lockReport r c s) := by
  refine .of_lock c (by simp) (by simp) fun ha hr => ?_
  simpa [lockReport, ha] using hr

end

/-! ## The Position Tracker -/

section
variable (s : State)

theorem deliverReport_steady (r : Report) : Steady s (deliverReport r s) := by
  have h : Steady s (clearTally (schedulerReport r s)) := .of_kept (by simp)
  exact (h.trans (lockReport_steady .a _ r)).trans (lockReport_steady .b _ r)

theorem takeHold_steady : Steady s (takeHold s) := .of_kept (by simp)

theorem trackerEvent_steady (ev : TrackerEvent) : Steady s (trackerEvent ev s) :=
  trackerEvent_invariant (Steady s) ev s (.of_kept (by simp)) (fun _ h => h.trans (.of_kept (by simp)))
    (fun _ _ _ h => h.trans (.of_kept (by simp))) (fun _ _ h => h.trans (deliverReport_steady _ _))
    (fun _ _ _ h => h.trans (.of_kept (by simp))) (fun _ h => h.trans (takeHold_steady _))

theorem sendHold_steady (h : Int) : Steady s (sendHold h s) := .of_kept (by simp)

theorem recordBeacon_steady (c : Chan) (i : Option Nat) (r : BRec) : Steady s (recordBeacon c i r s) := .of_kept (by simp)

/-- A motion change of the picture channel is an event at the tracker (R46, R49). -/
theorem pictureMotion_steady (c : Chan) : Steady s (pictureMotion c s) := by
  unfold pictureMotion
  dsimp only
  refine Steady.trans ?_ (trackerEvent_steady _ _)
  split
  · exact sendHold_steady _ _
  · exact .of_kept (by simp)

theorem pictureRecord_steady (c : Chan) (r : BRec) : Steady s (pictureRecord c r s) :=
  (recordBeacon_steady s c _ r).trans (trackerEvent_steady _ _)

theorem holdTimerExpiry_steady (c : Chan) : Steady s (holdTimerExpiry c s) :=
  (sendHold_steady s _).trans (trackerEvent_steady _ _)

theorem startTracker_steady : Steady s (startTracker s) := by
  unfold startTracker
  split
  · exact .refl s
  · exact trackerEvent_steady _ _

theorem applyBeacon_steady (n : BitVec 5) (p : Beacon) (t : Time) : Steady s (applyBeacon n p t s) := by
  unfold applyBeacon
  split
  · exact trackerEvent_steady _ _
  · unfold beaconNew
    dsimp only
    split
    · exact trackerEvent_steady _ _
    · split
      · split
        · exact trackerEvent_steady _ _
        · exact .refl s
      · exact .refl s

theorem ageSource_steady (n : Nat) : Steady s (ageSource n s) := trackerEvent_steady _ _

end

/-! ## The tach channels -/

section
variable (c : Chan) (s : State)

/-- Replacing a channel by one whose motion is as consistent as its own is steady. -/
theorem withChan_steady (ch : Channel) (h : (s.chan c).motionOk = true → ch.motionOk = true) : Steady s (s.withChan c ch) where
  settings := by simp
  line := by simp
  motion := (forall_chan c).2 ⟨by simpa using h, by simp⟩
  lock := by simp

/-- A channel with role RECORD of a started station has a lock that acts (R65). -/
theorem lockActs_of_record (h : s.clp.line ≠ .config) (hr : (s.settings.chan c).role = .record) : s.lockActs c = true := by
  simp [State.lockActs, State.started, h, hr]

theorem deliverRecord_steady (r : BRec) (h : s.clp.line ≠ .config) : Steady s (deliverRecord c r s) := by
  unfold deliverRecord
  split
  · exact .refl s
  · exact pictureRecord_steady s c r
  · exact lockBoundary_steady c s r (lockActs_of_record c s h ‹_›)

theorem deliverMotion_steady (h : s.clp.line ≠ .config ∨ (s.chan c).motion = .stopped) : Steady s (deliverMotion c s) := by
  unfold deliverMotion
  split
  · exact .refl s
  · exact pictureMotion_steady s c
  · exact lockMotion_steady c s (h.imp_left fun hl => lockActs_of_record c s hl ‹_›)

/-- A change of a channel that leaves its motion, stall timer and last direction is steady. -/
theorem modChan_steady (f : Channel → Channel)
    (h : ∀ ch, (f ch).motion = ch.motion ∧ (f ch).stall = ch.stall ∧ (f ch).lastDir = ch.lastDir) : Steady s (s.modChan c f) := by
  rw [State.modChan_eq_withChan]
  obtain ⟨hmotion, hstall, hdir⟩ := h (s.chan c)
  exact withChan_steady c s _ fun hc => by simpa [Channel.motionOk, hmotion, hstall, hdir] using hc

theorem takeStep_steady (st : Step) (m n : Nat) (h : s.clp.line ≠ .config) : Steady s (takeStep c st m n s) := by
  unfold takeStep
  dsimp only
  split
  · exact (deliverRecord_steady c _ _ (by simpa using h)).after (modChan_steady c s _ fun _ => ⟨rfl, rfl, rfl⟩)
  · exact (recordFault_steady _ _).after (modChan_steady c s _ fun _ => ⟨rfl, rfl, rfl⟩)

/-- A channel with a unit marked moves in the unit's direction with its stall timer running (R26). -/
theorem markUnit_motionOk (ch : Channel) (forward : Bool) (t : Time) : (ch.markUnit forward t).motionOk = true := by
  cases forward <;> simp [Channel.markUnit, Channel.motionOk, unitMotion]

theorem countForward_steady (h : s.clp.line ≠ .config) : Steady s (countForward c s) := by
  unfold countForward
  dsimp only
  split
  · exact takeStep_steady c s _ _ _ h
  · exact modChan_steady c s _ fun _ => ⟨rfl, rfl, rfl⟩

theorem countReverse_steady (h : s.clp.line ≠ .config) : Steady s (countReverse c s) := by
  unfold countReverse
  split
  · exact takeStep_steady c s _ _ _ h
  · exact modChan_steady c s _ fun _ => ⟨rfl, rfl, rfl⟩

theorem countUnit_steady (forward : Bool) (h : s.clp.line ≠ .config) : Steady s (countUnit c forward s) := by
  unfold countUnit
  split
  · exact modChan_steady c s _ fun _ => ⟨rfl, rfl, rfl⟩
  · split
    · exact countForward_steady c s h
    · exact countReverse_steady c s h

theorem takeUnit_steady (forward : Bool) (h : s.clp.line ≠ .config) : Steady s (takeUnit c forward s) := by
  have hmark : Steady s (s.withChan c ((s.chan c).markUnit forward s.timebase)) :=
    withChan_steady c s _ fun _ => markUnit_motionOk _ _ _
  have hdeliver : Steady s (unitDelivered c forward s) := by
    unfold unitDelivered
    dsimp only
    split
    · exact hmark
    · exact hmark.trans (deliverMotion_steady c _ (.inl (by simpa using h)))
  rw [takeUnit_eq_countUnit]
  exact hdeliver.trans (countUnit_steady c _ forward fun hl => h (hdeliver.line.1 hl))

theorem acceptEdge_steady (line : TachLine) (level : Bool) (h : s.clp.line ≠ .config) : Steady s (acceptEdge c line level s) := by
  have hrec : Steady s (s.modChan c fun ch => ch.setLine line { level := some level, edge := some s.timebase }) := 
    modChan_steady c s _ fun _ => by cases line <;> exact ⟨rfl, rfl, rfl⟩
  unfold acceptEdge
  dsimp only
  split
  · exact hrec.trans (takeUnit_steady c _ _ (by simpa using h))
  · exact hrec

theorem countGlitch_steady : Steady s (countGlitch c s) := modChan_steady c s _ fun _ => ⟨rfl, rfl, rfl⟩

theorem tachChange_steady (line : TachLine) (level : Bool) : Steady s (tachChange c line level s) := by
  have hpin : Steady s (s.modPins fun p => setPin p c line level) := .of_kept (by simp)
  unfold tachChange
  dsimp only
  split
  · exact .refl s
  split
  · exact hpin
  next hcount =>
    have hline : (s.modPins fun p => setPin p c line level).clp.line ≠ .config := by
      rw [not_or, Bool.not_eq_false, counting_iff] at hcount
      obtain ⟨⟨hl, -⟩, -⟩ := hcount
      exact hl
    split
    · exact hpin.trans (acceptEdge_steady c _ line level hline)
    · exact hpin.trans (countGlitch_steady c _)

theorem slip_steady : Steady s (slip c s) :=
  (recordFault_steady _ _).after (modChan_steady c s _ fun _ => ⟨rfl, rfl, rfl⟩)

/-- A pulse in either direction: the slip, where the unit counter is not at the end, then the boundary step (R36, R37). -/
theorem indexForward_steady (h : s.clp.line ≠ .config) : Steady s (indexForward c s) := by
  unfold indexForward
  dsimp only
  split
  · exact takeStep_steady c s _ _ _ h
  · exact (slip_steady c s).trans (takeStep_steady c _ _ _ _ (by simpa using h))

theorem indexReverse_steady (h : s.clp.line ≠ .config) : Steady s (indexReverse c s) := by
  unfold indexReverse
  dsimp only
  split
  · exact takeStep_steady c s _ _ _ h
  · exact (slip_steady c s).trans (takeStep_steady c _ _ _ _ (by simpa using h))

theorem acceptIndex_steady (level : Bool) (h : s.clp.line ≠ .config) : Steady s (acceptIndex c level s) := by
  have hrec : Steady s (s.modChan c fun ch => { ch with ix := { level := some level, edge := some s.timebase } }) := 
    modChan_steady c s _ fun _ => ⟨rfl, rfl, rfl⟩
  unfold acceptIndex
  dsimp only
  split
  · split
    · exact hrec
    · exact hrec.trans (indexForward_steady c _ (by simpa using h))
    · exact hrec.trans (indexReverse_steady c _ (by simpa using h))
  · exact hrec

theorem indexChange_steady (level : Bool) : Steady s (indexChange c level s) := by
  have hpin : Steady s (s.modPins fun p => setIndexPin p c level) := .of_kept (by simp)
  unfold indexChange
  dsimp only
  split
  · exact .refl s
  split
  · exact hpin
  next hcount =>
    have hline : (s.modPins fun p => setIndexPin p c level).clp.line ≠ .config := by
      rw [not_or, Bool.not_eq_false, counting_iff] at hcount
      obtain ⟨⟨hl, -⟩, -⟩ := hcount
      exact hl
    split
    · exact hpin.trans (acceptIndex_steady c _ level hline)
    · exact hpin.trans (countGlitch_steady c _)

/-- A stall leaves the channel standing with its stall timer stopped (R27). -/
theorem stallChannel_steady : Steady s (stallChannel c s) := by
  rw [stallChannel_eq]
  exact (withChan_steady c s _ fun _ => by simp [Channel.motionOk]).trans (deliverMotion_steady c _ (.inr (by simp)))

theorem wrapChannel_steady (a b : Int) : Steady s (wrapChannel a b c s) := by
  unfold wrapChannel
  split
  · exact modChan_steady c s _ fun _ => ⟨rfl, rfl, rfl⟩
  · exact .refl s

end

theorem wrapOrder_steady (a b : Int) (s : State) : Steady s (wrapOrder a b s) :=
  (wrapChannel_steady .a s a b).trans (wrapChannel_steady .b _ a b)

end Sys2Proof.Machine
end

section
/-! SUPPORT. What a command can do to the settings, to motion and to the locks, said once: `Change`. -/

namespace Sys2Proof.Machine
open Sys2Proof

/-- Both channels have a consistent motion (R26, R27). -/
def State.motionsOk (s : State) : Prop := ∀ c, (s.chan c).motionOk = true

/-- What one step can do, but for a full reset; `r` says that a RESTART may have been carried out. -/
inductive Change (r : Prop) (s u : State) : Prop
  | steady (h : Steady s u)
  | written (hs : s.clp.line = .config) (hu : u.clp.line = .config) (motion : s.motionsOk → u.motionsOk)
      (locks : ∀ c, u.lock c = s.lock c)
  | started (hs : s.clp.line = .config) (settings : u.settings = s.settings.clamped) (motion : s.motionsOk → u.motionsOk)
      (locks : (∀ c, s.lock c = .reset) → u.locksOk = true)
  | cleared (settings : u.settings = s.settings) (hu : u.clp.line = .config) (motion : u.motionsOk) (locks : u.locksOk = true)
  | restarted (h : r) (settings : u.settings = s.settings.clamped) (motion : u.motionsOk) (locks : u.locksOk = true)

/-- The settings, the line state, the channels and the locks of two states agree: all that a change is about. -/
def Alike (s u : State) : Prop :=
  u.settings = s.settings ∧ u.clp.line = s.clp.line ∧ u.chA = s.chA ∧ u.chB = s.chB ∧ u.lockA = s.lockA ∧ u.lockB = s.lockB

theorem Alike.refl (s : State) : Alike s s := ⟨rfl, rfl, rfl, rfl, rfl, rfl⟩

theorem Alike.chan {s u : State} (h : Alike s u) (c : Chan) : u.chan c = s.chan c := by
  obtain ⟨-, -, ha, hb, -, -⟩ := h
  exact State.chan_congr ha hb c

theorem Alike.lock {s u : State} (h : Alike s u) (c : Chan) : u.lock c = s.lock c := by
  obtain ⟨-, -, -, -, ha, hb⟩ := h
  exact State.lock_congr ha hb c

theorem Alike.motions {s u : State} (h : Alike s u) : u.motionsOk ↔ s.motionsOk := by simp only [State.motionsOk, h.chan]

theorem Alike.locksOk {s u : State} (h : Alike s u) : u.locksOk = s.locksOk := by
  obtain ⟨hset, hline, -, -, ha, hb⟩ := h
  simp [State.locksOk, State.lockActs, State.started, hset, hline, ha, hb]

/-- A change between states like these. -/
theorem Change.congr {r : Prop} {s v w u : State} (h : Change r v w) (hs : Alike s v) (hu : Alike w u) : Change r s u := by
  obtain ⟨hset, hline, -⟩ := id hs
  obtain ⟨hset', hline', -⟩ := id hu
  cases h with
  | steady h => exact .steady ((Steady.of_kept hs).trans (h.trans (.of_kept hu)))
  | written hv hw motion locks =>
    exact .written (hline ▸ hv) (hline'.trans hw) (fun hm => hu.motions.2 (motion (hs.motions.2 hm)))
      fun c => by rw [hu.lock, locks, hs.lock]
  | started hv settings motion locks =>
    exact .started (hline ▸ hv) (by rw [hset', settings, hset]) (fun hm => hu.motions.2 (motion (hs.motions.2 hm)))
      fun hk => hu.locksOk.trans (locks fun c => (hs.lock c).trans (hk c))
  | cleared settings hw motion locks =>
    exact .cleared (by rw [hset', settings, hset]) (hline'.trans hw) (hu.motions.2 motion) (hu.locksOk.trans locks)
  | restarted h settings motion locks =>
    exact .restarted h (by rw [hset', settings, hset]) (hu.motions.2 motion) (hu.locksOk.trans locks)

theorem Change.mono {r q : Prop} {s u : State} (h : Change r s u) (hq : r → q) : Change q s u := by
  cases h with
  | steady h => exact .steady h
  | written hs hu motion locks => exact .written hs hu motion locks
  | started hs settings motion locks => exact .started hs settings motion locks
  | cleared settings hu motion locks => exact .cleared settings hu motion locks
  | restarted h settings motion locks => exact .restarted (hq h) settings motion locks

/-! ## START, RESTART and the resets (R188 to R191) -/

theorem locksOk_iff (s : State) : s.locksOk = true ↔ ∀ c, s.lockActs c = false → s.lock c = .reset := by
  rw [forall_chan .a]
  simp [State.locksOk, State.lock, otherChan, or_iff_not_imp_left]

theorem locksOk_of_reset {s : State} (h : ∀ c, s.lock c = .reset) : s.locksOk = true := (locksOk_iff s).2 fun c _ => h c

theorem workingOk_iff (s : State) : s.workingOk = true ↔ s.clp.line = .config ∨ s.settings.working = true := by
  simp [State.workingOk]

/-- What a steady operation keeps of the locks. -/
theorem Steady.locksOk {s u : State} (h : Steady s u) (hs : s.locksOk = true) : u.locksOk = true :=
  (locksOk_iff u).2 fun c ha => h.lock c (by rwa [← h.lockActs]) ((locksOk_iff s).1 hs c (by rwa [← h.lockActs]))

theorem Steady.motions {s u : State} (h : Steady s u) (hs : s.motionsOk) : u.motionsOk := fun c => h.motion c (hs c)

/-- From the tracker's START on, a START is steady (R188). -/
theorem startPart_steady (s : State) : Steady s.atTracker (startPart s) := by
  have hkey : ∀ v, Steady v (startKey v) := fun v => .of_kept (by simp)
  have hoverlay : ∀ v, Steady v (startOverlay v) := fun v => .of_kept (by simp)
  exact ((startTracker_steady _).trans (hoverlay _)).trans (hkey _)

theorem startPart_motions (s : State) (h : s.motionsOk) : (startPart s).motionsOk := by
  have hsample : ∀ c v, Steady v (sampleChannel c v) := fun c v => by
    unfold sampleChannel
    split
    · exact .refl v
    · exact modChan_steady c v _ fun _ => ⟨rfl, rfl, rfl⟩
  have hready : (startLine (emptyCapture (clampAll s))).motionsOk := fun c => by
    rw [State.chan_congr (s := s) (by simp) (by simp)]
    exact h c
  exact (startPart_steady s).motions ((hsample .b _).motions ((hsample .a _).motions hready))

theorem startPart_locks (s : State) (h : ∀ c, s.lock c = .reset) : (startPart s).locksOk = true := by
  refine (startPart_steady s).locksOk (locksOk_of_reset fun c => ?_)
  rw [State.lock_congr (s := s) (by simp [State.atTracker]) (by simp [State.atTracker]), h]

/-- Strap sampling of a part whose blocks are reset: it stays in CONFIG with its settings, or AUTOSTART starts it (R187 to R189). -/
theorem sampleStraps_reset (st : Straps) (s : State) (hl : s.clp.line = .config) (hm : s.motionsOk) (hk : ∀ c, s.lock c = .reset) :
    (sampleStraps st s).motionsOk ∧ (sampleStraps st s).locksOk = true ∧
      ((sampleStraps st s).settings = s.settings ∧ (sampleStraps st s).clp.line = .config ∨
        (sampleStraps st s).settings = s.settings.clamped) := by
  have hlocks : s.locksOk = true := locksOk_of_reset hk
  unfold sampleStraps guarded
  dsimp only
  split
  · split
    · exact ⟨startPart_motions _ hm, startPart_locks _ hk, .inr (startPart_settings _)⟩
    · exact ⟨hm, hlocks, .inl ⟨rfl, hl⟩⟩
  · have hfault : Steady s (recordFault { kind := .badStrap } { s with straps := st }) := .of_kept (by simp)
    exact ⟨hfault.motions hm, hfault.locksOk hlocks, .inl ⟨hfault.settings, hfault.line.2 hl⟩⟩

/-- The resets leave both channels standing and both locks at their reset values (R190, R191). -/
theorem resetBlocks_reset (s : State) :
    (resetBlocks s).clp.line = .config ∧ (resetBlocks s).motionsOk ∧ ∀ c, (resetBlocks s).lock c = .reset :=
  ⟨rfl, fun c => by cases c <;> rfl, fun c => by cases c <;> rfl⟩

theorem startPart_change (r : Prop) (s : State) (h : s.clp.line = .config) : Change r s (startPart s) :=
  .started h (startPart_settings s) (startPart_motions s) (startPart_locks s)

theorem restartPart_change (st : Straps) (s : State) : Change True s (restartPart st s) := by
  obtain ⟨hl, hm, hk⟩ := resetBlocks_reset s
  obtain ⟨hmotion, hlocks, ⟨hset, hline⟩ | hset⟩ := sampleStraps_reset st
    (((resetBlocks s).modFlt fun f => { f with causes := f.causes &&& causeFault }).modSvc fun v =>
      { v with sampled := [], pending := .none, watch := none, capture := none }) hl hm hk
  · exact .cleared hset hline hmotion hlocks
  · exact .restarted trivial hset hmotion hlocks

theorem holdReset_change (r : Prop) (s : State) : Change r s (holdReset s) := by
  obtain ⟨hl, hm, hk⟩ := resetBlocks_reset s
  exact .cleared rfl hl hm (locksOk_of_reset hk)

/-- A full reset leaves every invariant of this file in force (R191). -/
theorem fullReset_result (st : Straps) (levels : Levels) (s : State) :
    (fullReset st levels s).workingOk = true ∧ (fullReset st levels s).motionsOk ∧ (fullReset st levels s).locksOk = true := by
  obtain ⟨hl, hm, hk⟩ := resetBlocks_reset s
  obtain ⟨hmotion, hlocks, hset⟩ := sampleStraps_reset st { resetBlocks s with
    pins := levels, resetActive := false, straps := st, settings := .default st.station, svc := .reset, flt := .reset } hl hm hk
  refine ⟨?_, hmotion, hlocks⟩
  rcases hset with ⟨-, hline⟩ | hset
  · exact (workingOk_iff _).2 (.inl hline)
  · exact (workingOk_iff _).2 (.inr ((congrArg Settings.working hset).trans (clamped_working _)))

/-! ## Frames at the port -/

/-- An answer changes the port alone. -/
theorem Change.answer {r : Prop} {s : State} {x : State × Answer} (h : Change r s x.1) : Change r s (answer x) := h.congr (.refl s) (.refl x.1)

theorem doRead_steady (f : CmdFields) (s : State) : Steady s (doRead f s).1 := by
  unfold doRead guarded
  (repeat' split) <;> exact .of_kept (by simp)

theorem doWrite_steady (f : CmdFields) (s : State) : Steady s (doWrite f s).1 := by
  unfold doWrite
  split <;> exact .of_kept (by simp)

theorem doWatch_steady (f : CmdFields) (s : State) : Steady s (doWatch f s).1 := by
  unfold doWatch
  split <;> exact .of_kept (by simp)

theorem doSend_steady (cls : BitVec 3) (s : State) : Steady s (doSend cls s).1 := by
  unfold doSend
  split <;> exact .of_kept (by simp)

theorem doStart_change (r : Prop) (s : State) : Change r s (doStart s).1 := by
  unfold doStart
  split
  · exact .steady (.refl s)
  · split
    · exact startPart_change r s (by simpa using ‹¬s.clp.line ≠ .config›)
    · exact .steady (.refl s)

/-- A command's change, by its code; a RESTART is code 6 (12 Table 12-10). -/
theorem commandAct_change (st : Straps) (code : BitVec 5) (f : CmdFields) (s : State) :
    Change (code = 6) s (commandAct st code f s).1 := by
  unfold commandAct
  split
  · exact .steady (.refl s)
  · exact .steady (doRead_steady f s)
  · exact .steady (doWrite_steady f s)
  · exact .steady (doWatch_steady f s)
  · exact .steady (doSend_steady _ s)
  · exact doStart_change _ s
  · exact (restartPart_change st s).mono fun _ => by bv_omega
  · exact .steady (.refl s)

theorem refuseFree_steady (s : State) : Steady s (refuseFree s).1 := .of_kept (by simp)

theorem takeCommand_change (st : Straps) (code : BitVec 5) (f : CmdFields) (s : State) : Change (code = 6) s (takeCommand st code f s) := by
  unfold takeCommand
  split
  · refine Change.answer ?_
    split
    · exact commandAct_change st code f s
    · exact (commandAct_change st code f (endWatch s)).congr (.refl s) (.refl _)
  · exact Change.answer (.steady ((refuseFree_steady _).after (.of_kept (by simp))))

/-- A taken write is steady, or it is a setting's in CONFIG (R180, R184, R195, R198, R199). -/
theorem writeEffect_change (r : Prop) (f : CmdFields) (d : DataWord) (s : State) (act : State → State)
    (h : writeEffect f d s = some act) : Change r s (act s) := by
  unfold writeEffect at h
  split at h
  · cases h
  split at h
  · split at h
    next hl =>
      obtain ⟨g, -, rfl⟩ := Option.map_eq_some_iff.1 h
      exact .written hl hl id fun _ => rfl
    next => cases h
  · cases h
    exact .steady (.of_kept (by simp))
  · split at h
    · cases h
      exact .steady (.of_kept (by simp))
    · cases h
      exact .steady (.of_kept (by simp))
    · cases h
  · cases h

theorem finishWrite_change (r : Prop) (f : CmdFields) (d : DataWord) (s : State) : Change r s (finishWrite f d s).1 := by
  unfold finishWrite
  dsimp only
  split
  · next act h => exact (writeEffect_change r f d _ act h).congr (.refl s) (.refl _)
  · exact .steady (.of_kept (by simp))

theorem placeSend_steady (f : Option LineFrame) (s : State) : Steady s (placeSend f s).1 := by
  unfold placeSend
  (repeat' split) <;> exact .of_kept (by simp)

theorem takePayload_steady (cls : BitVec 3) (words : List DataWord) (n : Nat) (d : DataWord) (s : State) :
    Steady s (takePayload cls words n d s).1 := by
  unfold takePayload
  split
  · exact .of_kept (by simp)
  · exact (placeSend_steady _ _).after (.of_kept (by simp))

theorem takeData_change (r : Prop) (d : DataWord) (s : State) : Change r s (takeData d s) := by
  unfold takeData
  split
  · exact Change.answer (.steady ((refuseFree_steady _).after (.of_kept (by simp))))
  · exact Change.answer (finishWrite_change r _ d s)
  · exact Change.answer (.steady (takePayload_steady _ _ _ _ s))

theorem takeIdle_steady (s : State) : Steady s (takeIdle s) := .of_kept (by simp)

/-- The frame is a RESTART. -/
def ServiceFrame.isRestart : ServiceFrame → Prop
  | .command code _ _ => code = 6
  | _ => False

theorem takeFrame_change (st : Straps) (fr : ServiceFrame) (s : State) : Change fr.isRestart s (takeFrame st fr s) := by
  cases fr with
  | idle => exact .steady (takeIdle_steady s)
  | command code f w => exact takeCommand_change st code f s
  | data d w => exact takeData_change _ d s

/-- A frame's own bits spell no RESTART where it is none: a command's spell it or the idle frame, a data frame's no command (R205). -/
theorem decode_isRestart (fr : ServiceFrame) (h : (ServiceFrame.decode fr.bits).isRestart) : fr.isRestart := by
  unfold ServiceFrame.decode at h
  split at h
  · exact h.elim
  · cases fr with
    | idle => simp [ServiceFrame.bits] at *
    | data d w => simp [ServiceFrame.bits, ServiceFrame.isRestart] at h
    | command code f w => simpa [ServiceFrame.bits, ServiceFrame.isRestart] using h

end Sys2Proof.Machine
end

section
/-! SUPPORT. The bits of one frame at the port, from any framing position: at most one frame completes among them. -/

namespace Sys2Proof.Machine
open Sys2Proof

/-! ## A frame that is taken leaves the framing position at 0 -/

section
variable (s : State)

theorem doRead_sampled (f : CmdFields) : (doRead f s).1.svc.sampled = s.svc.sampled := by
  unfold doRead guarded
  (repeat' split) <;> simp

theorem doWrite_sampled (f : CmdFields) : (doWrite f s).1.svc.sampled = s.svc.sampled := by
  unfold doWrite
  split <;> rfl

theorem doWatch_sampled (f : CmdFields) : (doWatch f s).1.svc.sampled = s.svc.sampled := by
  unfold doWatch
  split <;> rfl

theorem doSend_sampled (cls : BitVec 3) : (doSend cls s).1.svc.sampled = s.svc.sampled := by
  unfold doSend
  split <;> rfl

theorem doStart_sampled : (doStart s).1.svc.sampled = s.svc.sampled := by
  unfold doStart
  (repeat' split) <;> simp [startPart_svc]

theorem restartPart_sampled (st : Straps) : (restartPart st s).svc.sampled = [] := by
  unfold restartPart sampleStraps guarded
  dsimp only
  (repeat' split) <;> simp [startPart_svc]

theorem commandAct_sampled (st : Straps) (code : BitVec 5) (f : CmdFields) (h : s.svc.sampled = []) :
    (commandAct st code f s).1.svc.sampled = [] := by
  unfold commandAct
  split
  · exact h
  · exact (doRead_sampled s f).trans h
  · exact (doWrite_sampled s f).trans h
  · exact (doWatch_sampled s f).trans h
  · exact (doSend_sampled s _).trans h
  · exact (doStart_sampled s).trans h
  · exact restartPart_sampled s st
  · exact h

theorem writeEffect_svc (f : CmdFields) (d : DataWord) (act : State → State) (h : writeEffect f d s = some act) (v : State) :
    (act v).svc = v.svc := by
  unfold writeEffect at h
  split at h
  · cases h
  split at h
  · split at h
    · obtain ⟨g, -, rfl⟩ := Option.map_eq_some_iff.1 h
      rfl
    · cases h
  · cases h
    simp
  · split at h
    · cases h
      rfl
    · cases h
      rfl
    · cases h
  · cases h

theorem finishWrite_sampled (f : CmdFields) (d : DataWord) : (finishWrite f d s).1.svc.sampled = s.svc.sampled := by
  unfold finishWrite
  dsimp only
  split
  · next act h => simp [emptyCapture, writeEffect_svc _ f d act h, setPending]
  · rfl

theorem placeSend_sampled (f : Option LineFrame) : (placeSend f s).1.svc.sampled = s.svc.sampled := by
  unfold placeSend
  (repeat' split) <;> rfl

theorem takePayload_sampled (cls : BitVec 3) (words : List DataWord) (n : Nat) (d : DataWord) :
    (takePayload cls words n d s).1.svc.sampled = s.svc.sampled := by
  unfold takePayload
  split
  · rfl
  · exact placeSend_sampled _ _

theorem takeFrame_sampled (st : Straps) (fr : ServiceFrame) (h : s.svc.sampled = []) : (takeFrame st fr s).svc.sampled = [] := by
  cases fr with
  | idle =>
    simp only [takeFrame, takeIdle]
    split <;> exact h
  | command code f w =>
    simp only [takeFrame, takeCommand]
    split
    · exact commandAct_sampled _ st code f (by split <;> exact h)
    · exact h
  | data d w =>
    simp only [takeFrame, takeData]
    split
    · exact h
    · exact (finishWrite_sampled s _ d).trans h
    · exact (takePayload_sampled s _ _ _ d).trans h

end

/-! ## Bits, from any framing position (R175, R176) -/

/-- The two states differ at the port alone. -/
def PortOnly (s u : State) : Prop := u = { s with svc := u.svc }

theorem PortOnly.refl (s : State) : PortOnly s s := rfl

theorem PortOnly.trans {s u v : State} (h : PortOnly s u) (k : PortOnly u v) : PortOnly s v := by
  unfold PortOnly at *
  rw [k, h]

theorem PortOnly.change {r : Prop} {s u v w : State} (h : Change r u v) (hs : PortOnly s u) (hv : PortOnly v w) : Change r s w := by
  unfold PortOnly at *
  rw [hv]
  rw [hs] at h
  exact h.congr (.refl s) (.refl v)

theorem resync_portOnly (s : State) : PortOnly s (resync s) := rfl

/-- A bit that completes no frame moves the port alone, and the framing position by at most one. -/
theorem sampleBit_partial (st : Straps) (s : State) (b : Bool) (h : s.svc.sampled.length + 1 < 32) :
    PortOnly s (sampleBit st s b) ∧
      ((sampleBit st s b).svc.sampled = s.svc.sampled ++ [b] ∨ (sampleBit st s b).svc.sampled = []) := by
  have hbits : (s.svc.sampled ++ [b]).length < 32 := by simpa using h
  simp only [sampleBit, if_pos hbits]
  split
  · exact ⟨rfl, .inl rfl⟩
  · exact ⟨rfl, .inr rfl⟩

/-- Bits too few to complete a frame move the port alone. -/
theorem sampleBits_short (st : Straps) (l : List Bool) (s : State) (h : s.svc.sampled.length + l.length < 32) :
    PortOnly s (sampleBits st l s) := by
  induction l generalizing s with
  | nil => exact .refl s
  | cons b l ih =>
    rw [List.length_cons] at h
    obtain ⟨hport, hsampled⟩ := sampleBit_partial st s b (by omega)
    refine hport.trans (ih _ ?_)
    rcases hsampled with hs | hs <;> rw [hs] <;> simp <;> omega

/-- The bit that completes a frame: the frame is taken, and the framing position is 0 afterwards. -/
theorem sampleBit_complete (st : Straps) (s : State) (b : Bool) (h : 32 ≤ s.svc.sampled.length + 1) :
    ∃ v, PortOnly s v ∧ PortOnly (takeFrame st (.decode (s.svc.sampled ++ [b])) v) (sampleBit st s b) ∧
      (sampleBit st s b).svc.sampled = [] := by
  refine ⟨s.modSvc fun v => { v with sampled := [], ones := onesNext s.svc.ones b }, rfl, ?_⟩
  have hbits : ¬(s.svc.sampled ++ [b]).length < 32 := by simpa using h
  simp only [sampleBit, if_neg hbits]
  split
  · exact ⟨.refl _, takeFrame_sampled _ _ _ rfl⟩
  · exact ⟨resync_portOnly _, rfl⟩

/-- Bits of one frame's length, from any framing position: they move the port alone, or complete one frame, which is taken; where
they cannot complete a second one, it is the frame that the bits bring to its 32. -/
theorem sampleBits_once (st : Straps) (l : List Bool) (s : State) (h : l.length ≤ 32) :
    PortOnly s (sampleBits st l s) ∨
      ∃ v fr, PortOnly s v ∧ PortOnly (takeFrame st fr v) (sampleBits st l s) ∧
        (s.svc.sampled.length + l.length ≤ 32 → fr = .decode (s.svc.sampled ++ l)) := by
  induction l generalizing s with
  | nil => exact .inl (.refl s)
  | cons b l ih =>
    rw [List.length_cons] at h
    have hcons : sampleBits st (b :: l) s = sampleBits st l (sampleBit st s b) := rfl
    rw [hcons]
    by_cases hfull : 32 ≤ s.svc.sampled.length + 1
    · obtain ⟨v, hv, htaken, hsampled⟩ := sampleBit_complete st s b hfull
      refine .inr ⟨v, _, hv, htaken.trans (sampleBits_short st l _ (by rw [hsampled]; simp; omega)), fun hle => ?_⟩
      rw [List.length_cons] at hle
      rw [List.eq_nil_of_length_eq_zero (by omega : l.length = 0)]
    · obtain ⟨hport, hs | hs⟩ := sampleBit_partial st s b (by omega)
      · refine (ih (sampleBit st s b) (by omega)).imp hport.trans ?_
        rintro ⟨v, fr, hv, htaken, hfr⟩
        refine ⟨v, fr, hport.trans hv, htaken, fun hle => ?_⟩
        rw [hs, List.append_assoc] at hfr
        exact hfr (by rw [List.length_cons] at hle; simp; omega)
      · exact .inl (hport.trans (sampleBits_short st l _ (by rw [hs]; simp; omega)))

/-- What the bits of a frame can change; a RESTART only from another framing position than 0, or where the frame is one. -/
theorem sampleBits_change (st : Straps) (fr : ServiceFrame) (s : State) :
    Change (s.svc.sampled = [] → fr.isRestart) s (sampleBits st fr.bits s) := by
  rcases sampleBits_once st fr.bits s (by simp) with hport | ⟨v, fr', hv, htaken, hfr⟩
  · exact PortOnly.change (.steady (.refl s)) (.refl s) hport
  · refine PortOnly.change ((takeFrame_change st fr' v).mono fun hr hs => decode_isRestart fr ?_) hv htaken
    rw [hfr (by simp [hs]), hs] at hr
    exact hr

end Sys2Proof.Machine
end

section
/-! Every row of the dispatch is steady, a reset, or the bits of one frame at the port; the two invariants follow. -/

namespace Sys2Proof.Machine
open Sys2Proof

/-! ## The cue line -/

section
variable (s : State)

/-- A change of the Cue Line Port that leaves the line state is steady. -/
theorem modClp_steady (f : Clp → Clp) (h : (f s.clp).line = s.clp.line) : Steady s (s.modClp f) := .of_kept ⟨rfl, h, rfl, rfl, rfl, rfl⟩

theorem setReceiver_steady (r : RxState) (n : Nat) : Steady s (setReceiver r n s) := modClp_steady s _ rfl

theorem huntFault_steady (k : FaultKind) (n : Option (BitVec 5)) (count : Nat) : Steady s (huntFault k n count s) :=
  (setReceiver_steady s _ _).trans (.guarded fun _ => recordFault_steady _ _)

/-- A station that enters DUPLICATE has started already (R16). -/
theorem enterDuplicate_steady (h : s.listening = true) : Steady s (enterDuplicate s) := by
  have hline : Steady s (s.modClp fun c => { c with
      line := .duplicate, inFlight := none, queue := [], slot := none, joinTimer := none, spacingTimer := none,
      statusDue := false }) := by
    refine ⟨rfl, ?_, fun _ hc => hc, fun _ _ hr => hr⟩
    have hs : s.clp.line ≠ .config := by
      intro hc
      simp [State.listening, hc] at h
    simp [hs]
  have hhalt : ∀ v, Steady v (releaseOutputs (haltScheduler v)) := fun v => .of_kept (by simp)
  exact (hline.trans (recordFault_steady _ _)).trans (hhalt _)

theorem receiveFrame_steady (sender : BitVec 5) (effect : State → State) (h : ∀ v, Steady v (effect v)) :
    Steady s (receiveFrame sender effect s) := by
  unfold receiveFrame
  split
  · exact .refl s
  split
  · exact huntFault_steady s _ _ _
  dsimp only
  refine (setReceiver_steady s .ready 0).trans ?_
  split
  · exact .refl _
  split
  · exact enterDuplicate_steady _ (by simpa using ‹¬(!(setReceiver .ready 0 s).listening) = true›)
  · exact h _

theorem ownNumberHeard_steady : Steady s (ownNumberHeard s) := by
  unfold ownNumberHeard
  split
  · exact .refl s
  · exact (setReceiver_steady s _ _).trans (.guarded fun h => enterDuplicate_steady _ h)

theorem checkFailed_steady (f : FailedFrame) : Steady s (checkFailed f s) := by
  unfold checkFailed
  split
  · exact .refl s
  split
  · exact huntFault_steady s _ _ _
  split
  · exact huntFault_steady s _ _ _
  · exact setReceiver_steady s _ _

theorem startBit_steady : Steady s (startBit s) := modClp_steady s _ rfl

theorem dominantBit_steady : Steady s (dominantBit s) := by
  unfold dominantBit
  split
  · exact setReceiver_steady s _ _
  · split
    · exact huntFault_steady s _ _ _
    · exact startBit_steady s
  · exact .refl s

theorem badHeader_steady (header : Option (BitVec 3 × BitVec 5)) : Steady s (badHeader header s) :=
  .guarded fun _ => huntFault_steady s _ _ _

theorem receiverLocks_steady : Steady s (receiverLocks s) := .guarded fun _ => setReceiver_steady s _ _

/-- Only the order WRAP is for a channel (R29). -/
theorem orderOf_steady (n : BitVec 5) (op : BitVec 4) (p : ControlArgs) : Steady s (orderOf n op p s) := by
  unfold orderOf
  split
  case h_9 => exact wrapOrder_steady _ _ s
  all_goals exact .of_kept (by simp)

theorem applyControl_steady (n : BitVec 5) (op : BitVec 4) (p : ControlArgs) : Steady s (applyControl n op p s) :=
  .guarded fun _ => orderOf_steady s n op p

theorem stageHead_steady (n : BitVec 5) (p : CueHead) : Steady s (stageHead n p s) := .of_kept (by simp)

theorem takeBody_steady (n : BitVec 5) (p : CueBody) : Steady s (takeBody n p s) := .of_kept (by simp)

theorem applyPunch_steady (n : BitVec 5) (edge : BitVec 1) (p : PunchArgs) : Steady s (applyPunch n edge p s) := .of_kept (by simp)

theorem peerMark_steady (n : BitVec 5) (p : Mark) : Steady s (peerMark n p s) := .of_kept (by simp)

theorem setPeer_steady (n : Nat) (f : Peer → Peer) : Steady s (setPeer n f s) := modClp_steady s _ rfl

theorem peerStatus_steady (n : BitVec 5) (p : Status) (t : Time) : Steady s (peerStatus n p t s) := by
  unfold peerStatus
  split
  · exact setPeer_steady s _ _
  · exact .refl s

theorem applyOwn_steady (f : LineFrame) (t : Time) : Steady s (applyOwn f t s) := by
  unfold applyOwn
  split
  · exact .refl s
  · exact .refl s
  · exact setPeer_steady s _ _
  · exact applyPunch_steady s _ _ _
  · exact applyControl_steady s _ _ _
  · exact stageHead_steady s _ _
  · exact takeBody_steady s _ _

theorem startFrame_steady : Steady s (startFrame s) := by
  refine .guarded fun _ => ?_
  split
  · exact (startBit_steady _).after (modClp_steady s _ rfl)
  · exact modClp_steady s _ rfl

theorem loseArbitration_steady : Steady s (loseArbitration s) := modClp_steady s _ rfl

theorem unread_line (c : Clp) (t : Time) : (c.unread t).line = c.line := by
  unfold Clp.unread
  split <;> rfl

theorem bitError_steady : Steady s (bitError s) := by
  unfold bitError
  split
  · exact (recordFault_steady _ _).after (modClp_steady s _ (unread_line _ _))
  · exact .refl s

theorem completeFrame_steady : Steady s (completeFrame s) := by
  unfold completeFrame
  split
  · next f _ =>
    have hfinish : Steady s (s.modClp fun c => c.finish f s.timebase) := modClp_steady s _ rfl
    exact (hfinish.trans (setReceiver_steady _ _ _)).trans (applyOwn_steady _ _ _)
  · exact .refl s

theorem joinExpiry_steady : Steady s (joinExpiry s) := by
  refine .guarded fun h => ?_
  have hs : s.clp.line = .joining := by
    simp only [Bool.and_eq_true, decide_eq_true_eq] at h
    exact h.1
  have hline : Steady s (s.modClp fun c => { c with line := .active, joinTimer := none }) :=
    ⟨rfl, by simp [hs], fun _ hc => hc, fun _ _ hr => hr⟩
  have hactive : ∀ v, Steady v (trackerActive (statusChange v)) := fun v => .of_kept (by simp)
  exact hline.trans (hactive _)

theorem spacingExpiry_steady : Steady s (spacingExpiry s) := by
  have hplace : ∀ v, Steady v (placeStatus statusOverflow v) := fun v => .of_kept (by simp)
  exact .guarded fun _ => (Steady.guarded fun _ => hplace _).after (modClp_steady s _ rfl)

end
end Sys2Proof.Machine
end

section
/-! The settings, motion and locks over every step. -/

namespace Sys2Proof.Machine
open Sys2Proof

/-! ## Events -/

section
variable {s u : State} {t : Time}

theorem advance_steady (s : State) (t : Time) : Steady s (s.advance t) := .of_kept (by simp)

/-- An event with a steady effect. -/
theorem event_steady {r : Prop} {f : State → State} (h : s.event t f = .next u) (hf : ∀ v, Steady v (f v)) : Change r s u := by
  rw [State.event] at h
  cases h
  split
  · exact .steady (advance_steady s t)
  · exact .steady ((advance_steady s t).trans (hf _))

/-- A frame of another station whose effect is steady (R4, R5). -/
theorem frameEvent_steady {r : Prop} {sender : BitVec 5} {effect : State → State} (h : frameEvent t sender effect s = .next u)
    (hf : ∀ v, Steady v (effect v)) : Change r s u :=
  event_steady h fun v => receiveFrame_steady v sender effect hf

/-- An edge of a pin with a steady effect. -/
theorem pinEvent_steady {r : Prop} {pin : Levels → Levels} {f : State → State} (h : s.pinEvent t pin f = .next u)
    (hf : ∀ v, Steady v (f v)) : Change r s u := by
  rw [State.pinEvent] at h
  cases h
  split
  · exact .steady (.of_kept (by simp))
  · exact .steady ((advance_steady s t).trans (hf _))

/-- The bits of a frame as an event; a RESTART only from another framing position than 0, or where the frame is one. -/
theorem event_bits (r : Prop) (st : Straps) (fr : ServiceFrame) (h : s.event t (sampleBits st fr.bits) = .next u)
    (hr : fr.isRestart → r) : Change (s.svc.sampled = [] → r) s u := by
  rw [State.event] at h
  cases h
  split
  · exact .steady (advance_steady s t)
  · exact ((sampleBits_change st fr (s.advance t)).congr (by simp [Alike]) (.refl _)).mono fun hfr hs => hr (hfr hs)

/-- A frame at the port as an event, with the straps as they were last sampled. -/
theorem event_port (r : Prop) (fr : ServiceFrame) (h : s.event t (samplePort fr) = .next u) (hr : fr.isRestart → r) :
    Change (s.svc.sampled = [] → r) s u :=
  event_bits r s.straps fr h hr

end

/-! ## Rows -/

/-- What a command can change, but for a full reset; a RESTART is carried out only from another framing position than 0, or by a
command that samples the straps (R187, R190). -/
theorem exec_change (i : Instr) (s u : State) (h : exec i s = .next u) (hn : ∀ t st levels, i ≠ .fullReset t st levels) :
    Change (s.svc.sampled = [] → i.wf = true → samplesStraps i = true) s u := by
  cases i with
  | fullReset t st levels => exact absurd rfl (hn t st levels)
  | resetnDrivenActive t => cases h; exact (holdReset_change _ (s.advance t)).congr (by simp [Alike]) (.refl _)
  | resynchronise t => exact event_steady h fun v => .of_kept (by simp)
  | idleFrame t => exact event_port _ _ h False.elim
  | read t f => exact event_port _ _ h (by simp [ServiceFrame.isRestart])
  | markRecordTake t => exact event_port _ _ h (by simp [ServiceFrame.isRestart])
  | write t f => exact event_port _ _ h (by simp [ServiceFrame.isRestart])
  | writeConfig t d => exact event_port _ _ h False.elim
  | writeAlertEnable t d => exact event_port _ _ h False.elim
  | writeAlertPending t d => exact event_port _ _ h False.elim
  | writeFault t d => exact event_port _ _ h False.elim
  | writeDataOther t d => exact event_port _ _ h False.elim
  | watch t f => exact event_port _ _ h (by simp [ServiceFrame.isRestart])
  | nop t f => exact event_port _ _ h (by simp [ServiceFrame.isRestart])
  | send t cls index word => exact event_port _ _ h (by simp [ServiceFrame.isRestart])
  | sendPayloadWord t d => exact event_port _ _ h False.elim
  | start t f => exact event_port _ _ h (by simp [ServiceFrame.isRestart])
  | restart t f st => exact event_bits _ st _ h fun _ _ => rfl
  | unknownCommand t code f =>
    refine event_port _ _ h fun hcode hwf => ?_
    simp only [ServiceFrame.isRestart] at hcode
    simp [Instr.wf, hcode] at hwf
  | strayDataFrame t d => exact event_port _ _ h False.elim
  | beaconFrame t stamp sender p => exact frameEvent_steady h fun w => applyBeacon_steady w _ _ _
  | cueheadFrame t stamp sender p => exact frameEvent_steady h fun w => stageHead_steady w _ _
  | cuebodyFrame t stamp sender p => exact frameEvent_steady h fun w => takeBody_steady w _ _
  | arm t stamp sender p => exact frameEvent_steady h fun w => applyControl_steady w _ _ _
  | armreel t stamp sender p => exact frameEvent_steady h fun w => applyControl_steady w _ _ _
  | disarm t stamp sender p => exact frameEvent_steady h fun w => applyControl_steady w _ _ _
  | disarmall t stamp sender p => exact frameEvent_steady h fun w => applyControl_steady w _ _ _
  | drop t stamp sender p => exact frameEvent_steady h fun w => applyControl_steady w _ _ _
  | dropreel t stamp sender p => exact frameEvent_steady h fun w => applyControl_steady w _ _ _
  | dropall t stamp sender p => exact frameEvent_steady h fun w => applyControl_steady w _ _ _
  | mode t stamp sender p => exact frameEvent_steady h fun w => applyControl_steady w _ _ _
  | wrap t stamp sender p => exact frameEvent_steady h fun w => applyControl_steady w _ _ _
  | attention t stamp sender p => exact frameEvent_steady h fun w => applyControl_steady w _ _ _
  | controlUnknown t stamp sender op p => exact frameEvent_steady h fun w => applyControl_steady w _ _ _
  | punchInFrame t stamp sender p => exact frameEvent_steady h fun w => applyPunch_steady w _ _ _
  | punchOutFrame t stamp sender p => exact frameEvent_steady h fun w => applyPunch_steady w _ _ _
  | markFrame t stamp sender p => exact frameEvent_steady h fun w => peerMark_steady w _ _
  | statusFrame t stamp sender p => exact frameEvent_steady h fun w => peerStatus_steady w _ _ _
  | ownNumberFrame t => exact event_steady h ownNumberHeard_steady
  | lineCheck t f => exact event_steady h fun v => checkFailed_steady v f
  | framingViolation t => exact event_steady h dominantBit_steady
  | badClassOrSender t header => exact event_steady h fun v => badHeader_steady v header
  | transmitStart t => exact event_steady h startFrame_steady
  | lostArbitration t => exact event_steady h loseArbitration_steady
  | ownBitError t => exact event_steady h bitError_steady
  | transmitComplete t => exact event_steady h completeFrame_steady
  | joinListenExpiry t => exact event_steady h joinExpiry_steady
  | statusSpacingExpiry t => exact event_steady h spacingExpiry_steady
  | tachEdge t ch line level => exact pinEvent_steady h fun v => tachChange_steady ch v line level
  | indexPulse t ch level => exact pinEvent_steady h fun v => indexChange_steady ch v level
  | tachStallExpiry t ch => exact event_steady h fun v => .guarded fun _ => stallChannel_steady ch v
  | sourceAgingExpiry t sender => exact event_steady h fun v => .guarded fun _ => ageSource_steady v _
  | holdBeaconTimerExpiry t =>
    rw [exec, execHoldBeaconTimerExpiry] at h
    refine event_steady h fun v => ?_
    split
    · exact .guarded fun _ => holdTimerExpiry_steady v _
    · exact .refl v
  | elementTimerExpiry t =>
    rw [exec, execElementTimerExpiry] at h
    refine event_steady h fun v => ?_
    split
    · exact .of_kept (by simp)
    · exact .refl v
  | toneGateEnd t => exact event_steady h fun v => .guarded fun _ => .of_kept (by simp)
  | vsyncEdge t lines pixels =>
    rw [exec, execVsyncEdge] at h
    exact event_steady h fun v => .of_kept (by simp)
  | frontListSwap t => exact event_steady h fun v => .of_kept (by simp)
  | signalWatchExpiry t => exact event_steady h fun v => .guarded fun _ => .of_kept (by simp)
  | marknFallingEdge t => exact pinEvent_steady h fun v => .of_kept (by simp)
  | marknRisingEdge t => exact pinEvent_steady h fun v => .of_kept (by simp)
  | keyDebounceExpiry t => exact event_steady h fun v => .guarded fun _ => .of_kept (by simp)
  | receiverReady t => exact event_steady h receiverLocks_steady

/-! ## Steps -/

/-- What a change keeps of the three invariants. -/
theorem Change.motions {r : Prop} {s u : State} (h : Change r s u) (hs : s.motionsOk) : u.motionsOk := by
  cases h with
  | steady h => exact h.motions hs
  | written _ _ motion _ => exact motion hs
  | started _ _ motion _ => exact motion hs
  | cleared _ _ motion _ => exact motion
  | restarted _ _ motion _ => exact motion

theorem Change.locksOk {r : Prop} {s u : State} (h : Change r s u) (hs : s.locksOk = true) : u.locksOk = true := by
  have hconfig : s.clp.line = .config → ∀ c, s.lock c = .reset := fun hl c =>
    (locksOk_iff s).1 hs c (by simp [State.lockActs, State.started, hl])
  cases h with
  | steady h => exact h.locksOk hs
  | written hl _ _ locks => exact locksOk_of_reset fun c => by rw [locks, hconfig hl]
  | started hl _ _ locks => exact locks (hconfig hl)
  | cleared _ _ _ locks => exact locks
  | restarted _ _ _ locks => exact locks

theorem Change.workingOk {r : Prop} {s u : State} (h : Change r s u) (hs : s.workingOk = true) : u.workingOk = true := by
  rw [workingOk_iff] at hs ⊢
  cases h with
  | steady h => exact hs.imp h.line.2 fun hw => by rwa [h.settings]
  | written _ hu _ _ => exact .inl hu
  | started _ settings _ _ => exact .inr (by rw [settings]; exact clamped_working _)
  | cleared _ hu _ _ => exact .inl hu
  | restarted _ settings _ _ => exact .inr (by rw [settings]; exact clamped_working _)

/-- From START on a change leaves the settings: they are working ones already, or no RESTART was carried out. -/
theorem Change.settings {r : Prop} {s u : State} (h : Change r s u) (hl : s.clp.line ≠ .config) (hr : ¬r ∨ s.settings.working = true) :
    u.settings = s.settings := by
  cases h with
  | steady h => exact h.settings
  | written hs _ _ _ => exact absurd hs hl
  | started hs _ _ _ => exact absurd hs hl
  | cleared settings _ _ _ => exact settings
  | restarted h settings _ _ => exact settings.trans (clamped_of_working _ (hr.resolve_left fun hn => hn h))

/-- A step: a full reset, or a change, in which a RESTART is carried out only as `exec_change` says. -/
theorem step_change (s u : State) (h : step s = .next u) :
    (∃ t st levels, .fullReset t st levels ∈ s.pending.head? ∧ ∃ v, u = fullReset st levels v) ∨
      Change (s.svc.sampled = [] → ∃ i ∈ s.pending.head?, i.wf = true → samplesStraps i = true) s u := by
  unfold step at h
  split at h
  next => cases h; exact .inr (.steady (advance_steady s _))
  next i rest hp =>
    have hmem : i ∈ s.pending.head? := by simp [hp]
    by_cases hreset : ∃ t st levels, i = .fullReset t st levels
    · obtain ⟨t, st, levels, rfl⟩ := hreset
      cases h
      exact .inl ⟨t, st, levels, hmem, _, rfl⟩
    · have hchange := exec_change i _ u h fun t st levels he => hreset ⟨t, st, levels, he⟩
      exact .inr ((hchange.congr (.refl s) (.refl u)).mono fun hr hs => ⟨i, hmem, hr hs⟩)

/-- Settles O24: by `step_change`, with `clamped_working` for what START leaves and `clamped_of_working` for what a RESTART finds. -/
theorem runningStationKeepsWorkingSettings : Obligations.RunningStationKeepsWorkingSettings := by
  unfold Obligations.RunningStationKeepsWorkingSettings
  intro s u h
  rcases step_change s u h with ⟨t, st, levels, hmem, v, rfl⟩ | hc
  · refine ⟨fun _ => (fullReset_result st levels v).1, fun _ hor => ?_⟩
    rcases hor with ⟨-, hstraps⟩ | ⟨-, hnone⟩
    · exact absurd (hstraps _ hmem).2 (by simp [samplesStraps])
    · exact absurd rfl (hnone _ hmem t st levels)
  · refine ⟨hc.workingOk, fun hl hor => hc.settings hl ?_⟩
    rcases hor with ⟨hsampled, hstraps⟩ | ⟨hworking, -⟩
    · left
      intro hr
      obtain ⟨i, hi, hsample⟩ := hr hsampled
      obtain ⟨hwf, hno⟩ := hstraps i hi
      simp [hsample hwf] at hno
    · exact .inr (((workingOk_iff s).1 hworking).resolve_left hl)

/-- Settles O25: by `step_change`, which every row of the dispatch meets. -/
theorem channelsAndLocksStayConsistent : Obligations.ChannelsAndLocksStayConsistent := by
  unfold Obligations.ChannelsAndLocksStayConsistent
  intro s u h
  have hmotions : ∀ v : State, v.motionsOk ↔ v.chA.motionOk = true ∧ v.chB.motionOk = true := fun v => forall_chan .a
  rw [← hmotions, ← hmotions]
  rcases step_change s u h with ⟨t, st, levels, -, v, rfl⟩ | hc
  · obtain ⟨-, hmotion, hlocks⟩ := fullReset_result st levels v
    exact ⟨fun _ => hmotion, fun _ => hlocks⟩
  · exact ⟨hc.motions, hc.locksOk⟩

end Sys2Proof.Machine
end

section
/-! SUPPORT. What one step can do to the reference, the cues and the outputs, said once: `Act` lists the operations, and every row of
the dispatch is one of them or changes nothing that those blocks speak of. -/

namespace Sys2Proof.Machine
open Sys2Proof

/-- The straps, the settings, the line state, the channels, the reference, the locks, the cue entries, the scheduler and the outputs of
two states agree. -/
def SameCore (s u : State) : Prop :=
  u.straps = s.straps ∧ u.settings = s.settings ∧ u.clp.line = s.clp.line ∧ u.chA = s.chA ∧ u.chB = s.chB ∧ u.ptr = s.ptr ∧
  u.lockA = s.lockA ∧ u.lockB = s.lockB ∧ u.ctb.entries = s.ctb.entries ∧ u.csh = s.csh ∧ u.cou = s.cou

theorem SameCore.refl (s : State) : SameCore s s := ⟨rfl, rfl, rfl, rfl, rfl, rfl, rfl, rfl, rfl, rfl, rfl⟩

theorem SameCore.trans {s u v : State} (h : SameCore s u) (k : SameCore u v) : SameCore s v := by
  unfold SameCore at *
  simp_all

theorem SameCore.guarded {s : State} {p : Bool} {f : State → State} (h : SameCore s (f s)) : SameCore s (guarded p f s) := by
  cases p
  · exact .refl s
  · exact h

/-- What an operation of one command does to those blocks. -/
inductive Act (s : State) : State → Prop
  | idle : Act s s
  | written (h : s.clp.line = .config) (g : Settings) : Act s (s.modSettings fun _ => g)
  | cleared (u : State) (h : SameCore (resetBlocks u) u) : Act s u
  | started (h : s.clp.line = .config) : Act s (startPart s)
  | restarted (v : State) (h : SameCore (resetBlocks v) v) : Act s (startPart v)
  | beacon (n : BitVec 5) (p : Beacon) (t : Time) (hl : s.listening = true) (hn : n ≠ s.own) : Act s (applyBeacon n p t s)
  | body (n : BitVec 5) (b : CueBody) : Act s (takeBody n b s)
  | order (n : BitVec 5) (op : BitVec 4) (p : ControlArgs) : Act s (orderOf n op p s)
  | punch (n : BitVec 5) (edge : BitVec 1) (p : PunchArgs) : Act s (applyPunch n edge p s)
  | duplicate (h : s.listening = true) : Act s (enterDuplicate s)
  | joined : Act s (joinExpiry s)
  | tach (c : Chan) (line : TachLine) (level : Bool) : Act s (tachChange c line level s)
  | index (c : Chan) (level : Bool) : Act s (indexChange c level s)
  | stall (c : Chan) : Act s (stallChannel c s)
  | aged (n : Nat) : Act s (ageSource n s)
  | held (c : Chan) : Act s (holdTimerExpiry c s)
  | fired (d : Due) (h : headExpired s = some d) : Act s (fireElement s.here d.entry d.element (unlist d.entry d.element s))
  | closed : Act s (s.modCou fun c => { c with gate := none })

/-- One operation, between changes of other blocks. -/
def Acts (s u : State) : Prop := ∃ v w, SameCore s v ∧ Act v w ∧ SameCore w u

theorem Acts.of_act {s u : State} (h : Act s u) : Acts s u := ⟨s, u, .refl s, h, .refl u⟩

theorem Acts.same {s u : State} (h : SameCore s u) : Acts s u := ⟨s, s, .refl s, .idle, h⟩

theorem Acts.congr {s v w u : State} (hs : SameCore s v) (h : Acts v w) (hu : SameCore w u) : Acts s u := by
  obtain ⟨x, y, hx, hact, hy⟩ := h
  exact ⟨x, y, hs.trans hx, hact, hy.trans hu⟩

/-- A predicate that speaks of those blocks alone and that every operation keeps is kept. -/
theorem Acts.keeps {P : State → Prop} (hsame : ∀ {s u}, SameCore s u → P s → P u) (hact : ∀ {s u}, Act s u → P s → P u) {s u : State}
    (h : Acts s u) (hs : P s) : P u := by
  obtain ⟨v, w, hv, hw, hu⟩ := h
  exact hsame hu (hact hw (hsame hv hs))

theorem Acts.guarded {s : State} {p : Bool} {f : State → State} (h : p = true → Acts s (f s)) : Acts s (guarded p f s) := by
  cases p
  · exact .same (.refl s)
  · exact h rfl

/-! ## The service port -/

theorem PortOnly.sameCore {s u : State} (h : PortOnly s u) : SameCore s u := by
  rw [PortOnly] at h
  rw [h]
  exact .refl s

theorem sampleStraps_acts (s u : State) (st : Straps) (h : SameCore (resetBlocks u) u) : Acts s (sampleStraps st u) := by
  have hreset : SameCore (resetBlocks { u with straps := st }) { u with straps := st } := by
    obtain ⟨-, hset, hrest⟩ := h
    exact ⟨rfl, hset, hrest⟩
  unfold sampleStraps
  dsimp only
  split
  · cases st.autostart
    · exact .of_act (.cleared _ hreset)
    · exact .of_act (.restarted _ hreset)
  · exact ⟨s, _, .refl s, .cleared _ hreset, by simp [SameCore]⟩

theorem commandAct_acts (st : Straps) (code : BitVec 5) (f : CmdFields) (s : State) : Acts s (commandAct st code f s).1 := by
  have hread : SameCore s (doRead f s).1 := by
    unfold doRead guarded
    (repeat' split) <;> simp [SameCore]
  have hwrite : SameCore s (doWrite f s).1 := by
    unfold doWrite
    split <;> simp [SameCore]
  have hwatch : SameCore s (doWatch f s).1 := by
    unfold doWatch
    split <;> simp [SameCore]
  have hsend : SameCore s (doSend (f.view.setWidth 3) s).1 := by
    unfold doSend
    split <;> simp [SameCore]
  unfold commandAct
  split
  · exact .same (.refl s)
  · exact .same hread
  · exact .same hwrite
  · exact .same hwatch
  · exact .same hsend
  · unfold doStart
    split
    · exact .same (.refl s)
    · split
      · exact .of_act (.started (by simpa using ‹¬s.clp.line ≠ .config›))
      · exact .same (.refl s)
  · exact sampleStraps_acts s _ st (SameCore.refl (resetBlocks s))
  · exact .same (.refl s)

theorem finishWrite_acts (f : CmdFields) (d : DataWord) (s : State) : Acts s (finishWrite f d s).1 := by
  have hact : ∀ act : State → State, writeEffect f d (setPending .none s) = some act → Acts (setPending .none s) (act (setPending .none s)) := by
    intro act h
    unfold writeEffect at h
    split at h
    · cases h
    split at h
    · split at h
      next hl =>
        obtain ⟨g, -, rfl⟩ := Option.map_eq_some_iff.1 h
        exact .of_act (.written hl g)
      next => cases h
    · cases h
      exact .same (by simp [SameCore])
    · split at h
      · cases h; exact .same (by simp [SameCore])
      · cases h; exact .same (by simp [SameCore])
      · cases h
    · cases h
  unfold finishWrite
  dsimp only
  split
  · next act h => exact (hact act h).congr (by simp [SameCore]) (by simp [SameCore, emptyCapture])
  · exact .same (by simp [SameCore])

theorem takePayload_sameCore (cls : BitVec 3) (words : List DataWord) (n : Nat) (d : DataWord) (s : State) :
    SameCore s (takePayload cls words n d s).1 := by
  unfold takePayload placeSend
  (repeat' split) <;> simp [SameCore]

theorem answer_sameCore (x : State × Answer) : SameCore x.1 (answer x) := .refl x.1

theorem takeFrame_acts (st : Straps) (fr : ServiceFrame) (s : State) : Acts s (takeFrame st fr s) := by
  have hfree : ∀ v : State, SameCore v (refuseFree v).1 := fun v => by simp [SameCore]
  cases fr with
  | idle =>
    simp only [takeFrame, takeIdle]
    split <;> exact .same (by simp [SameCore])
  | command code f w =>
    simp only [takeFrame, takeCommand]
    split
    · refine (commandAct_acts st code f _).congr ?_ (answer_sameCore _)
      split <;> exact .refl s
    · exact (Acts.same (hfree _)).congr (.refl s) (answer_sameCore _)
  | data d w =>
    simp only [takeFrame, takeData]
    split
    · exact (Acts.same (hfree _)).congr (.refl s) (answer_sameCore _)
    · exact (finishWrite_acts _ d s).congr (.refl s) (answer_sameCore _)
    · exact (Acts.same (takePayload_sameCore _ _ _ d s)).congr (.refl s) (answer_sameCore _)

theorem sampleBits_acts (st : Straps) (fr : ServiceFrame) (s : State) : Acts s (sampleBits st fr.bits s) := by
  rcases sampleBits_once st fr.bits s (by simp) with hport | ⟨v, fr', hv, htaken, -⟩
  · exact .same hport.sameCore
  · exact (takeFrame_acts st fr' v).congr hv.sameCore htaken.sameCore

/-! ## The cue line -/

theorem modClp_sameCore (f : Clp → Clp) (s : State) (h : (f s.clp).line = s.clp.line) : SameCore s (s.modClp f) :=
  ⟨rfl, rfl, h, rfl, rfl, rfl, rfl, rfl, rfl, rfl, rfl⟩

theorem setReceiver_sameCore (r : RxState) (n : Nat) (s : State) : SameCore s (setReceiver r n s) := modClp_sameCore _ s rfl

theorem recordFault_sameCore (i : FaultInfo) (s : State) : SameCore s (recordFault i s) := by simp [SameCore]

theorem huntFault_sameCore (k : FaultKind) (n : Option (BitVec 5)) (count : Nat) (s : State) : SameCore s (huntFault k n count s) :=
  (setReceiver_sameCore _ _ s).trans (.guarded (recordFault_sameCore _ _))

/-- A completed frame of another station: its effect at a listening station of another number, or nothing but DUPLICATE (R4, R5, R16). -/
theorem receiveFrame_acts (sender : BitVec 5) (effect : State → State) (s : State)
    (h : ∀ v, v.listening = true → sender ≠ v.own → Acts v (effect v)) : Acts s (receiveFrame sender effect s) := by
  unfold receiveFrame
  dsimp only
  split
  · exact .same (.refl s)
  split
  · exact .same (huntFault_sameCore _ _ _ s)
  split
  · exact .same (setReceiver_sameCore _ _ s)
  next hl =>
    replace hl := by simpa using hl
    split
    · exact (Acts.of_act (.duplicate hl)).congr (setReceiver_sameCore _ _ s) (.refl _)
    · exact (h _ hl ‹_›).congr (setReceiver_sameCore _ _ s) (.refl _)

theorem applyControl_acts (n : BitVec 5) (op : BitVec 4) (p : ControlArgs) (s : State) : Acts s (applyControl n op p s) :=
  .guarded fun _ => .of_act (.order n op p)

theorem stageHead_sameCore (n : BitVec 5) (p : CueHead) (s : State) : SameCore s (stageHead n p s) := by
  unfold stageHead
  dsimp only
  (repeat' split) <;> simp [SameCore, setStaging]

theorem peerMark_sameCore (n : BitVec 5) (p : Mark) (s : State) : SameCore s (peerMark n p s) := by simp [SameCore]

theorem peerStatus_sameCore (n : BitVec 5) (p : Status) (t : Time) (s : State) : SameCore s (peerStatus n p t s) := by
  unfold peerStatus
  split
  · exact modClp_sameCore _ s rfl
  · exact .refl s

theorem applyOwn_acts (f : LineFrame) (t : Time) (s : State) : Acts s (applyOwn f t s) := by
  cases f with
  | beacon p => exact .same (.refl s)
  | mark p => exact .same (.refl s)
  | status p => exact .same (modClp_sameCore _ s rfl)
  | punch edge p => exact .of_act (.punch _ edge p)
  | control op p => exact applyControl_acts _ op p s
  | cueHead p => exact .same (stageHead_sameCore _ p s)
  | cueBody p => exact .of_act (.body _ p)

theorem ownNumberHeard_acts (s : State) : Acts s (ownNumberHeard s) := by
  unfold ownNumberHeard
  split
  · exact .same (.refl s)
  · have hheard : Acts (setReceiver .ready 0 s) (guarded s.listening enterDuplicate (setReceiver .ready 0 s)) :=
      .guarded fun hl => .of_act (.duplicate hl)
    exact hheard.congr (setReceiver_sameCore _ _ s) (.refl _)

theorem checkFailed_sameCore (f : FailedFrame) (s : State) : SameCore s (checkFailed f s) := by
  unfold checkFailed
  (repeat' split)
  · exact .refl s
  · exact huntFault_sameCore _ _ _ s
  · exact huntFault_sameCore _ _ _ s
  · exact setReceiver_sameCore _ _ s

theorem dominantBit_sameCore (s : State) : SameCore s (dominantBit s) := by
  unfold dominantBit
  (repeat' split)
  · exact setReceiver_sameCore _ _ s
  · exact huntFault_sameCore _ _ _ s
  · exact modClp_sameCore _ s rfl
  · exact .refl s

theorem startFrame_sameCore (s : State) : SameCore s (startFrame s) := by
  unfold startFrame
  refine .guarded ?_
  split <;> exact modClp_sameCore _ _ rfl

theorem bitError_sameCore (s : State) : SameCore s (bitError s) := by
  unfold bitError
  split
  · next f _ =>
    refine SameCore.trans (modClp_sameCore _ s ?_) (recordFault_sameCore _ _)
    rw [unread_line]
    rfl
  · exact .refl s

theorem completeFrame_acts (s : State) : Acts s (completeFrame s) := by
  unfold completeFrame
  split
  · next f _ =>
    have hleft : SameCore s (s.modClp fun c => c.finish f s.timebase) := modClp_sameCore _ s rfl
    exact (applyOwn_acts _ _ _).congr (hleft.trans (setReceiver_sameCore _ _ _)) (.refl _)
  · exact .same (.refl s)

theorem spacingExpiry_sameCore (s : State) : SameCore s (spacingExpiry s) := by
  have hplace : ∀ v : State, SameCore v (placeStatus statusOverflow v) := fun v => by simp [SameCore]
  unfold spacingExpiry
  exact .guarded (SameCore.trans (modClp_sameCore _ s rfl) (.guarded (hplace _)))

/-! ## Events and rows -/

section
variable {s u : State} {t : Time}

theorem advance_sameCore (s : State) (t : Time) : SameCore s (s.advance t) := by simp [SameCore]

/-- An event that RESETN does not hold has its effect at its moment. -/
theorem event_acts {f : State → State} (h : s.event t f = .next u) (hf : ∀ v, Acts v (f v)) : Acts s u := by
  rw [State.event] at h
  cases h
  split
  · exact .same (advance_sameCore s t)
  · exact (hf _).congr (advance_sameCore s t) (.refl _)

theorem frameEvent_acts {sender : BitVec 5} {effect : State → State} (h : frameEvent t sender effect s = .next u)
    (hf : ∀ v, v.listening = true → sender ≠ v.own → Acts v (effect v)) : Acts s u :=
  event_acts h fun v => receiveFrame_acts sender effect v hf

theorem pinEvent_acts {pin : Levels → Levels} {f : State → State} (h : s.pinEvent t pin f = .next u) (hf : ∀ v, Acts v (f v)) :
    Acts s u := by
  rw [State.pinEvent] at h
  cases h
  split
  · exact .same (by simp [SameCore])
  · exact (hf _).congr (advance_sameCore s t) (.refl _)

theorem portEvent_acts {fr : ServiceFrame} (h : s.event t (samplePort fr) = .next u) : Acts s u :=
  event_acts h fun v => sampleBits_acts v.straps fr v

end

/-- Every row of the dispatch is one operation. -/
theorem exec_acts (i : Instr) (s u : State) (h : exec i s = .next u) : Acts s u := by
  cases i with
  | fullReset t st levels =>
    cases h
    refine (sampleStraps_acts s { resetBlocks (s.advance t) with
      pins := levels, resetActive := false, straps := st, settings := .default st.station, svc := .reset, flt := .reset } st
        (.refl _)).congr (.refl s) ?_
    exact .refl _
  | resetnDrivenActive t => cases h; exact .of_act (.cleared _ (SameCore.refl _))
  | resynchronise t => exact event_acts h fun v => .same (.refl v)
  | idleFrame t => exact portEvent_acts h
  | read t f => exact portEvent_acts h
  | markRecordTake t => exact portEvent_acts h
  | write t f => exact portEvent_acts h
  | writeConfig t d => exact portEvent_acts h
  | writeAlertEnable t d => exact portEvent_acts h
  | writeAlertPending t d => exact portEvent_acts h
  | writeFault t d => exact portEvent_acts h
  | writeDataOther t d => exact portEvent_acts h
  | watch t f => exact portEvent_acts h
  | nop t f => exact portEvent_acts h
  | send t cls index word => exact portEvent_acts h
  | sendPayloadWord t d => exact portEvent_acts h
  | start t f => exact portEvent_acts h
  | restart t f st => exact event_acts h fun v => sampleBits_acts st _ v
  | unknownCommand t code f => exact portEvent_acts h
  | strayDataFrame t d => exact portEvent_acts h
  | beaconFrame t stamp sender p => exact frameEvent_acts h fun v hl hn => .of_act (.beacon sender p stamp hl hn)
  | cueheadFrame t stamp sender p => exact frameEvent_acts h fun v _ _ => .same (stageHead_sameCore sender p v)
  | cuebodyFrame t stamp sender p => exact frameEvent_acts h fun v _ _ => .of_act (.body sender p)
  | arm t stamp sender p => exact frameEvent_acts h fun v _ _ => applyControl_acts _ _ _ v
  | armreel t stamp sender p => exact frameEvent_acts h fun v _ _ => applyControl_acts _ _ _ v
  | disarm t stamp sender p => exact frameEvent_acts h fun v _ _ => applyControl_acts _ _ _ v
  | disarmall t stamp sender p => exact frameEvent_acts h fun v _ _ => applyControl_acts _ _ _ v
  | drop t stamp sender p => exact frameEvent_acts h fun v _ _ => applyControl_acts _ _ _ v
  | dropreel t stamp sender p => exact frameEvent_acts h fun v _ _ => applyControl_acts _ _ _ v
  | dropall t stamp sender p => exact frameEvent_acts h fun v _ _ => applyControl_acts _ _ _ v
  | mode t stamp sender p => exact frameEvent_acts h fun v _ _ => applyControl_acts _ _ _ v
  | wrap t stamp sender p => exact frameEvent_acts h fun v _ _ => applyControl_acts _ _ _ v
  | attention t stamp sender p => exact frameEvent_acts h fun v _ _ => applyControl_acts _ _ _ v
  | controlUnknown t stamp sender op p => exact frameEvent_acts h fun v _ _ => applyControl_acts _ _ _ v
  | punchInFrame t stamp sender p => exact frameEvent_acts h fun v _ _ => .of_act (.punch sender edgeIn p)
  | punchOutFrame t stamp sender p => exact frameEvent_acts h fun v _ _ => .of_act (.punch sender edgeOut p)
  | markFrame t stamp sender p => exact frameEvent_acts h fun v _ _ => .same (peerMark_sameCore sender p v)
  | statusFrame t stamp sender p => exact frameEvent_acts h fun v _ _ => .same (peerStatus_sameCore sender p stamp v)
  | ownNumberFrame t => exact event_acts h ownNumberHeard_acts
  | lineCheck t f => exact event_acts h fun v => .same (checkFailed_sameCore f v)
  | framingViolation t => exact event_acts h fun v => .same (dominantBit_sameCore v)
  | badClassOrSender t header => exact event_acts h fun v => .guarded fun _ => .same (huntFault_sameCore _ _ _ v)
  | transmitStart t => exact event_acts h fun v => .same (startFrame_sameCore v)
  | lostArbitration t => exact event_acts h fun v => .same (modClp_sameCore _ v rfl)
  | ownBitError t => exact event_acts h fun v => .same (bitError_sameCore v)
  | transmitComplete t => exact event_acts h completeFrame_acts
  | joinListenExpiry t => exact event_acts h fun _ => .of_act .joined
  | statusSpacingExpiry t => exact event_acts h fun v => .same (spacingExpiry_sameCore v)
  | tachEdge t c line level => exact pinEvent_acts h fun _ => .of_act (.tach c line level)
  | indexPulse t c level => exact pinEvent_acts h fun _ => .of_act (.index c level)
  | tachStallExpiry t c => exact event_acts h fun _ => .guarded fun _ => .of_act (.stall c)
  | sourceAgingExpiry t sender => exact event_acts h fun _ => .guarded fun _ => .of_act (.aged _)
  | holdBeaconTimerExpiry t =>
    rw [exec, execHoldBeaconTimerExpiry] at h
    refine event_acts h fun v => ?_
    split
    · exact .guarded fun _ => .of_act (.held _)
    · exact .same (.refl v)
  | elementTimerExpiry t =>
    rw [exec, execElementTimerExpiry] at h
    refine event_acts h fun v => ?_
    split
    · exact .of_act (.fired _ ‹_›)
    · exact .same (.refl v)
  | toneGateEnd t => exact event_acts h fun _ => .guarded fun _ => .of_act .closed
  | vsyncEdge t lines pixels =>
    rw [exec, execVsyncEdge] at h
    exact event_acts h fun v => .same (by simp [SameCore])
  | frontListSwap t => exact event_acts h fun v => .same (by simp [SameCore])
  | signalWatchExpiry t => exact event_acts h fun v => .guarded fun _ => .same (by simp [SameCore])
  | marknFallingEdge t => exact pinEvent_acts h fun v => .same (by simp [SameCore])
  | marknRisingEdge t => exact pinEvent_acts h fun v => .same (by simp [SameCore])
  | keyDebounceExpiry t => exact event_acts h fun v => .guarded fun _ => .same (by simp [SameCore])
  | receiverReady t => exact event_acts h fun v => .guarded fun _ => .same (setReceiver_sameCore _ _ v)

/-- Every step is one operation. -/
theorem step_acts (s u : State) (h : step s = .next u) : Acts s u := by
  unfold step at h
  split at h
  · cases h; exact .same (advance_sameCore s _)
  · exact (exec_acts _ _ u h).congr (.refl s) (.refl u)

end Sys2Proof.Machine
end

section
/-! SUPPORT. The tally set: only a PUNCH frame adds to it, a run's end takes a cue's entries from it, and a report empties it. -/

namespace Sys2Proof.Machine
open Sys2Proof

section
variable (s : State)

@[simp] theorem setPunch_tally (c : Cou) (ch : Chan) (n : Nat) : (c.setPunch ch n).tally = c.tally := by cases ch <;> rfl

@[simp] theorem openPunch_tally (c : Chan) (d : CueDef) (q : Option Int) : (openPunch c d q s).cou.tally = s.cou.tally := by
  unfold openPunch
  split <;> simp

@[simp] theorem closePunch_tally (c : Chan) (d : CueDef) (r : BitVec 2) (q : Option Int) :
    (closePunch c d r q s).cou.tally = s.cou.tally := by
  unfold closePunch
  split <;> simp

@[simp] theorem closeCuePunch_tally (d : CueDef) (r : BitVec 2) (q : Option Int) :
    (closeCuePunch d r q s).cou.tally = s.cou.tally := by
  unfold closeCuePunch
  split <;> simp

@[simp] theorem releaseLight_tally (m : BitVec 16) : (releaseLight m s).cou.tally = s.cou.tally := rfl

@[simp] theorem openLight_tally (m : BitVec 16) : (openLight m s).cou.tally = s.cou.tally := by
  unfold openLight
  split <;> rfl

@[simp] theorem beep_tally : (beep s).cou.tally = s.cou.tally := by
  unfold beep
  split <;> rfl

@[simp] theorem dropPunch_tally (c : Chan) (i : Nat) : (dropPunch c i s).cou.tally = s.cou.tally := by
  unfold dropPunch
  (repeat' split) <;> simp

@[simp] theorem syncLost_tally (c : Chan) : (syncLost c s).cou.tally = s.cou.tally := by
  unfold syncLost
  exact forIndexes_same (fun v => v.cou.tally) _ (fun i v => dropPunch_tally v c i) _ s

/-! ## Elements and boundaries -/

@[simp] theorem elementAction_tally (q : Option Int) (i : Nat) (e : CueEntry) (el : Element) :
    (elementAction q i e el s).cou.tally = s.cou.tally := by
  cases el
  case spanStart => simp only [elementAction, fireSpanStart]; split <;> simp
  case lightOn => simp [elementAction, fireLightOn]
  case lightOff => simp only [elementAction, fireLightOff]; split <;> simp
  case punchIn => simp only [elementAction, firePunchIn]; (repeat' split) <;> simp
  case punchOut => simp only [elementAction, firePunchOut]; split <;> simp
  case spanEnd => simp only [elementAction, fireSpanEnd]; (repeat' split) <;> simp
  all_goals exact beep_tally s

@[simp] theorem fireElement_tally (q : Option Int) (i : Nat) (el : Element) : (fireElement q i el s).cou.tally = s.cou.tally := by
  unfold fireElement
  (repeat' split) <;> simp

@[simp] theorem lateTurn_tally (q : Option Int) (d : Due) : (lateTurn q d s).cou.tally = s.cou.tally := by
  unfold lateTurn
  dsimp only
  (repeat' split) <;> simp

@[simp] theorem boundaryList_tally (r : BRec) : (boundaryList r s).cou.tally = s.cou.tally := by
  have hreached : ∀ (v : State) (d : Due), (fireReached d v).cou.tally = v.cou.tally := by
    intro v d
    unfold fireReached
    split <;> simp
  unfold boundaryList
  split
  · exact foldl_same (fun v => v.cou.tally) _ hreached _ _
  · exact forIndexes_same (fun v => v.cou.tally) _ (fun i v => by simp) _ s

@[simp] theorem takeBoundary_tally (r : BRec) : (takeBoundary r s).cou.tally = s.cou.tally := by
  unfold takeBoundary
  (repeat' split)
  · rfl
  · rw [forIndexes_same (fun v => v.cou.tally) _ (fun i v => by simp) _ _, boundaryList_tally]
    exact foldl_same (fun v => v.cou.tally) _ (fun v d => lateTurn_tally v _ d) _ s
  · simp

@[simp] theorem takeHold_cou : (takeHold s).cou = s.cou := by
  unfold takeHold
  split <;> simp

/-! ## Locks and reports -/

@[simp] theorem setLock_tally (c : Chan) (l : LockState) : (setLock c l s).cou.tally = s.cou.tally := by
  simp only [setLock, guarded]
  split <;> simp

@[simp] theorem unlock_tally (c : Chan) : (unlock c s).cou.tally = s.cou.tally := by
  unfold unlock
  split <;> simp

@[simp] theorem lockBoundary_tally (c : Chan) (r : BRec) : (lockBoundary c r s).cou.tally = s.cou.tally := by
  have hmeasure : ∀ b p, (measure c b p s).cou.tally = s.cou.tally := by
    intro b p
    simp only [measure, countChasing, countSync]
    (repeat' split) <;> simp
  unfold lockBoundary
  (repeat' split) <;> simp [hmeasure]

@[simp] theorem lockMotion_tally (c : Chan) : (lockMotion c s).cou.tally = s.cou.tally := by
  unfold lockMotion
  (repeat' split) <;> simp

@[simp] theorem lockReport_tally (r : Report) (c : Chan) : (lockReport r c s).cou.tally = s.cou.tally := by
  unfold lockReport
  (repeat' split) <;> simp

/-- A report empties the tally set (R142). -/
@[simp] theorem deliverReport_tally (r : Report) : (deliverReport r s).cou.tally = [] := by
  simp [deliverReport, clearTally]

/-- Reports, one after another, leave the tally set, or empty it where there is one. -/
theorem deliverReports_tally (l : List Report) :
    (l.foldl (fun v r => deliverReport r v) s).cou.tally = if l = [] then s.cou.tally else [] := by
  induction l generalizing s with
  | nil => rfl
  | cons r l ih => rw [List.foldl_cons, ih]; simp

end

/-! ## The end of a run takes the cue's entries from the set (R125) -/

/-- An empty tally set stays empty. -/
def TallyStaysEmpty (f : State → State) : Prop := ∀ s : State, s.cou.tally = [] → (f s).cou.tally = []

theorem endRun_tally (r : RunState) (i : Nat) : TallyStaysEmpty (endRun r i) := by
  intro s h
  have hpunch : ∀ e : CueEntry, (if e.run.punchOpen then closeCuePunch e.cue reasonAbort s.here s else s).cou.tally = [] := by
    intro e
    split <;> simp [h]
  have hlight : ∀ (e : CueEntry) (v : State), v.cou.tally = [] → (if e.run.lightOpen then releaseLight e.cue.mask v else v).cou.tally = [] := by
    intro e v hv
    split <;> simp [hv]
  unfold endRun
  dsimp only
  split
  · next e _ =>
    split
    · simp [dropTally, hlight e _ (hpunch e)]
    · exact h
  · exact h

theorem forIndexes_tally (n : Nat) (f : Nat → State → State) (h : ∀ i, TallyStaysEmpty (f i)) : TallyStaysEmpty (forIndexes n f) :=
  fun s hs => forIndexes_invariant (fun v => v.cou.tally = []) n f h s hs

theorem interruptAll_tally : TallyStaysEmpty interruptAll := forIndexes_tally _ _ (endRun_tally .passed)

theorem disarmEntry_tally (i : Nat) : TallyStaysEmpty (disarmEntry i) := by
  intro s h
  unfold disarmEntry
  (repeat' split)
  · exact endRun_tally .idle i s h
  · simpa using h
  · exact h

theorem disarmAll_tally : TallyStaysEmpty disarmAll := forIndexes_tally _ _ disarmEntry_tally

theorem dropWhere_tally (p : CueDef → Bool) : TallyStaysEmpty (dropWhere p) := by
  refine forIndexes_tally _ _ fun i s h => ?_
  split
  · simpa [dropEntry, emptyEntry] using endRun_tally .passed i s h
  · exact h

theorem abortPunch_tally (i : Nat) (s : State) : (abortPunch i s).cou.tally = s.cou.tally := by
  unfold abortPunch
  (repeat' split) <;> simp

@[simp] theorem setMode_tally (m : Mode) (s : State) : (setMode m s).cou.tally = s.cou.tally := by
  unfold setMode
  dsimp only
  (repeat' split)
  · rfl
  · rw [forIndexes_same (fun v => v.cou.tally) _ (fun i v => abortPunch_tally i v) _ _]
    simp
  · simp

/-- No CONTROL order adds to the tally set. -/
theorem orderOf_tally (n : BitVec 5) (op : BitVec 4) (p : ControlArgs) : TallyStaysEmpty (orderOf n op p) := by
  intro s h
  unfold orderOf
  split
  · unfold armCue; split <;> simpa using h
  · simpa using h
  · unfold disarmCue
    split
    · exact disarmEntry_tally _ s h
    · exact h
  · exact disarmAll_tally s h
  · simpa [dropCue, unstageWhere, setStaging] using dropWhere_tally _ s h
  · simpa [dropReel, unstageWhere, setStaging] using dropWhere_tally _ s h
  · simpa [dropAll, unstageWhere, setStaging] using dropWhere_tally _ s h
  · unfold modeOrder; split <;> simp [unknownOrder, h]
  · simpa using h
  · simpa using h
  · simpa [unknownOrder] using h

theorem releaseOutputs_cou (s : State) : (releaseOutputs s).cou = { Cou.reset with released := true } := by
  unfold releaseOutputs guarded
  split <;> simp

theorem enterDuplicate_tally (s : State) : (enterDuplicate s).cou.tally = [] := by
  simp only [enterDuplicate, releaseOutputs_cou]
  rfl

end Sys2Proof.Machine
end

section
/-! SUPPORT. An event at the tracker: the reference it settles on, and the operation it is where it loses no source. -/

namespace Sys2Proof.Machine
open Sys2Proof

/-! ## The reference an event settles on (R52, R61, R62) -/

/-- The reference turns, or becomes FAST: its interval is no longer valid (03 Table 3-6). -/
def spoils (before after : Motion) : Bool := turned before after || (decide (after = .fast) && decide (before ≠ .fast))

/-- The new reference but for its motion: what settling adds to an event's values. -/
theorem settle_eq (ev : TrackerEvent) (before : Ptr) : ev.settle before =
    let p := { ev.ptr with
      motion := ev.ptr.derivedMotion
      interval := if spoils before.motion ev.ptr.derivedMotion then none else ev.ptr.interval }
    { p with playable := p.isPlayable } := by
  have hspoils : ev.settle before =
      let p := { ev.ptr with motion := ev.ptr.derivedMotion }
      let p := if spoils before.motion ev.ptr.derivedMotion then { p with interval := none } else p
      { p with playable := p.isPlayable } := rfl
  rw [hspoils]
  cases spoils before.motion ev.ptr.derivedMotion <;> rfl

@[simp] theorem settle_kept (ev : TrackerEvent) (before : Ptr) :
    (ev.settle before).sources = ev.ptr.sources ∧ (ev.settle before).state = ev.ptr.state ∧
    (ev.settle before).chosen = ev.ptr.chosen ∧ (ev.settle before).motion = ev.ptr.derivedMotion ∧
    (ev.settle before).recNew = ev.ptr.recNew ∧ (ev.settle before).recOld = ev.ptr.recOld ∧
    (ev.settle before).hold = ev.ptr.hold ∧ (ev.settle before).frozen = ev.ptr.frozen ∧
    (ev.settle before).fastDiff = ev.ptr.fastDiff := by
  simp [settle_eq]

/-- A settled reference is playable as R61 says. -/
theorem settle_playable (ev : TrackerEvent) (before : Ptr) : (ev.settle before).playable = (ev.settle before).isPlayable := by
  rw [settle_eq]; rfl

/-- A playable reference runs forward, TRACKING, with an interval. -/
theorem isPlayable_iff (p : Ptr) : p.isPlayable = true ↔
    p.state = .tracking ∧ p.motion = .forward ∧ ∃ i, p.interval = some i ∧ 16000 ≤ i ∧ i ≤ 125000 := by
  cases hi : p.interval <;> simp [Ptr.isPlayable, hi, and_assoc]

/-- A reference that does not track stands (R51, R52). -/
theorem derivedMotion_stopped (p : Ptr) (h : p.state ≠ .tracking) : p.derivedMotion = .stopped := by
  unfold Ptr.derivedMotion
  split <;> simp_all

/-! ## Moving the reference -/

theorem reports_eq (ev : TrackerEvent) (p q : Ptr) (h : ev.lost = none) : ev.reports p q = p.reportsTo q ev.jump ev.wrap := by
  simp [TrackerEvent.reports, Ptr.reportsTo, h, turned]

/-- An event that loses no source moves the reference; then come its boundary and its hold update (R62). -/
theorem trackerEvent_moved (ev : TrackerEvent) (s : State) (hl : ev.lost = none) (hb : ev.boundary = none) :
    trackerEvent ev s = guarded ev.hold takeHold (s.moved (ev.settle s.ptr) ev.jump ev.wrap) := by
  simp [trackerEvent, State.moved, hl, hb, reports_eq, guarded, State.modPtr]

theorem trackerEvent_moved_boundary (ev : TrackerEvent) (s : State) (r : BRec) (hl : ev.lost = none) (hb : ev.boundary = some r) :
    trackerEvent ev s = guarded ev.hold takeHold (takeBoundary r (s.moved (ev.settle s.ptr) ev.jump ev.wrap)) := by
  simp [trackerEvent, State.moved, hl, hb, reports_eq, guarded, State.modPtr]

section
variable (s : State) (q : Ptr) (jump wrap : Bool)

/-- A move that nothing reports and that is no status change sets the values alone. -/
theorem moved_quiet (hs : q.state = s.ptr.state) (hm : q.motion = s.ptr.motion) (hp : q.playable = s.ptr.playable) :
    s.moved q false false = { s with ptr := q } := by
  cases hmotion : s.ptr.motion <;> simp [State.moved, Ptr.reportsTo, hs, hm, hp, hmotion]

/-- A move depends on the reference it starts from by state, motion and playable alone. -/
theorem moved_congr (p : Ptr) (hs : p.state = s.ptr.state) (hm : p.motion = s.ptr.motion) (hp : p.playable = s.ptr.playable) :
    ({ s with ptr := p }).moved q jump wrap = s.moved q jump wrap := by
  simp [State.moved, Ptr.reportsTo, hs, hm, hp]

@[simp] theorem moved_keeps :
    (s.moved q jump wrap).ptr = q ∧ (s.moved q jump wrap).settings = s.settings ∧ (s.moved q jump wrap).mkl = s.mkl ∧
    (s.moved q jump wrap).svc = s.svc ∧ (s.moved q jump wrap).ovl = s.ovl := by
  unfold State.moved
  dsimp only
  (repeat' split) <;> simp

/-- A move that is reported empties the tally set (R142). -/
theorem moved_tally (h : s.ptr.reportsTo q jump wrap ≠ []) : (s.moved q jump wrap).cou.tally = [] := by
  simp only [State.moved, deliverReports_tally, if_neg h]

end

end Sys2Proof.Machine
end

section
/-! SUPPORT. What every delivery of a tach channel keeps, the channel's edges, pulses and stalls keep. -/

namespace Sys2Proof.Machine
open Sys2Proof

/-- A channel whose motion is that of its last direction moves FORWARD only in a forward one (R26). -/
theorem forward_of_motionOk {ch : Channel} {forward : Bool} (h : ch.motionOk = true) (hd : ch.lastDir = some forward)
    (hm : ch.motion = .forward) : forward = true := by
  obtain ⟨-, hdir⟩ : ch.stall.isSome = true ∧ ch.lastDir = some true := by simpa [Channel.motionOk, hm] using h
  exact Option.some.inj (hd.symm.trans hdir)

/-- A predicate that no change of a channel, of a pin or of Fault and Alert touches, and that the deliveries of a channel keep. Where
it asks for `guided` records, those of a channel that moves FORWARD are forward ones (R26, R31). -/
structure ChannelInvariant (guided : Prop) (P : State → Prop) : Prop where
  chan : ∀ {s : State} (c : Chan) (ch : Channel), P s → P (s.withChan c ch)
  pins : ∀ {s : State} (f : Levels → Levels), P s → P (s.modPins f)
  fault : ∀ {s : State} (i : FaultInfo), P s → P (recordFault i s)
  motion : ∀ {s : State} (c : Chan), P s → P (deliverMotion c s)
  record : ∀ {s : State} (c : Chan) (r : BRec), P s → s.clp.line ≠ .config →
    (guided → (s.chan c).motion = .forward → r.dir = .forward) → P (deliverRecord c r s)

namespace ChannelInvariant
variable {guided : Prop} {P : State → Prop} (hP : ChannelInvariant guided P) {s : State}
include hP

theorem takeStep (c : Chan) (forward : Bool) (m n : Nat) (h : P s) (hl : s.clp.line ≠ .config)
    (hd : guided → (s.chan c).motion = .forward → forward = true) :
    P (takeStep c (stepOf (s.settings.chan c) forward (s.chan c)) m n s) := by
  cases hm : (s.chan c).mayStep (s.settings.chan c).offset forward
  · rw [takeStep_refused c forward m n s hm]
    exact hP.fault _ (hP.chan _ _ h)
  · rw [takeStep_taken c forward m n s hm]
    refine hP.record c _ (hP.chan _ _ h) (by simpa using hl) fun hg hf => ?_
    rw [State.withChan_chan, boundary_of_mayStep _ _ _ _ _ _ hm] at hf
    simp [Step.record, stepOf_eq, hd hg hf]

theorem takeUnit (c : Chan) (forward : Bool) (h : P s) (hl : s.clp.line ≠ .config) : P (takeUnit c forward s) := by
  have hdelivered : P (unitDelivered c forward s) := by
    unfold unitDelivered
    dsimp only
    split
    · exact hP.chan _ _ h
    · exact hP.motion _ (hP.chan _ _ h)
  cases hb : (s.chan c).atBoundary (s.settings.chan c) forward
  · rw [takeUnit_inside c forward s hb]
    exact hP.chan _ _ hdelivered
  · rw [takeUnit_atBoundary c forward s hb]
    have hset : (unitDelivered c forward s).settings = s.settings := by simp
    rw [← hset]
    have hline : (unitDelivered c forward s).clp.line = s.clp.line := by
      unfold unitDelivered
      dsimp only
      split <;> simp
    refine hP.takeStep c forward _ _ hdelivered (by rwa [hline]) fun _ => ?_
    cases forward <;> simp [Channel.markUnit, unitMotion]

/-- An edge of a tach line (R23 to R27). -/
theorem tachChange (c : Chan) (line : TachLine) (level : Bool) (h : P s) : P (tachChange c line level s) := by
  by_cases hpin : pinOf s.pins c line = level
  · rwa [tachChange_same c line level s hpin]
  by_cases hx : s.clp.line ≠ .config ∧ (s.settings.chan c).role ≠ .none ∧ ((s.chan c).line line).level ≠ some level
  · obtain ⟨hl, hr, hlevel⟩ := hx
    rw [tachChange_examined c line level s hpin hl hr hlevel]
    dsimp only
    split
    · unfold acceptEdge
      rw [State.modChan_eq_withChan]
      dsimp only
      split
      · exact hP.takeUnit c _ (hP.chan _ _ (hP.pins _ h)) (by simpa using hl)
      · exact hP.chan _ _ (hP.pins _ h)
    · exact hP.chan _ _ (hP.pins _ h)
  · rw [tachChange_unexamined c line level s hpin hx]
    exact hP.pins _ h

/-- An index pulse: the slip, then the boundary step (R36, R37). -/
theorem indexStep (c : Chan) (forward : Bool) (h : P s) (hl : s.clp.line ≠ .config)
    (hd : guided → (s.chan c).motion = .forward → forward = true) : P (indexStep c forward s) := by
  have hslip : P (slipTaken c forward s) ∧ (slipTaken c forward s).clp.line = s.clp.line := by
    unfold slipTaken
    dsimp only
    split
    · exact ⟨hP.fault _ (hP.chan _ _ h), by simp⟩
    · exact ⟨hP.chan _ _ h, by simp⟩
  obtain ⟨hchan, -, -, hset⟩ := slipTaken_keeps c forward s
  rw [indexStep_eq, ← hchan, ← hset]
  exact hP.takeStep c forward _ _ hslip.1 (by rwa [hslip.2]) (by rw [hchan]; exact hd)

/-- An edge of IX, at a channel whose motion is that of its last direction (R35 to R37). -/
theorem indexChange (c : Chan) (level : Bool) (h : P s) (hm : guided → (s.chan c).motionOk = true) : P (indexChange c level s) := by
  by_cases hpin : indexPinOf s.pins c = level
  · rwa [indexChange_same c s level hpin]
  by_cases hx : s.clp.line ≠ .config ∧ (s.settings.chan c).role ≠ .none ∧ (s.settings.chan c).index = true ∧ (s.chan c).ix.level ≠ some level
  · obtain ⟨hl, hr, hi, hlevel⟩ := hx
    rw [indexChange_examined c s level hpin hl hr hi hlevel]
    dsimp only
    have hpins := hP.pins (fun p => setIndexPin p c level) h
    split
    · by_cases hpulse : level = false ∨ ((s.modPins fun p => setIndexPin p c level).chan c).lastDir = none
      · rw [acceptIndex_recorded c _ level hpulse]
        exact hP.chan _ _ hpins
      · obtain ⟨hlv, hdir⟩ := not_or.1 hpulse
        obtain ⟨forward, hforward⟩ := Option.ne_none_iff_exists'.1 hdir
        obtain rfl : level = true := by simpa using hlv
        rw [acceptIndex_pulse c _ forward hforward]
        refine hP.indexStep c forward (hP.chan _ _ hpins) (by simpa using hl) fun hg hf => ?_
        exact forward_of_motionOk (hm hg) (by simpa using hforward) (by simpa using hf)
    · exact hP.chan _ _ hpins
  · rw [indexChange_unexamined c s level hpin hx]
    exact hP.pins _ h

/-- A stall (R27). -/
theorem stallChannel (c : Chan) (h : P s) : P (stallChannel c s) := by
  rw [stallChannel_eq]
  exact hP.motion _ (hP.chan _ _ h)

/-- CONTROL WRAP (R29). -/
theorem wrapOrder (a b : Int) (h : P s) : P (wrapOrder a b s) := by
  have hwrap : ∀ (c : Chan) {v : State}, P v → P (wrapChannel a b c v) := fun c v hv => by
    unfold wrapChannel
    rw [State.modChan_eq_withChan]
    split
    · exact hP.chan _ _ hv
    · exact hv
  exact hwrap .b (hwrap .a h)

end ChannelInvariant

end Sys2Proof.Machine
end

section
/-! SUPPORT. The source list and the choice: what the list holds after each update of it, and which entry is preferred. -/

namespace Sys2Proof.Machine
open Sys2Proof

/-- The entries of the source list. -/
def Ptr.list (p : Ptr) : List Source := p.sources.filterMap id

/-! ## The preferred entry (R45) -/

theorem leastBy_map {α β : Type} (le : α → α → Bool) (le' : β → β → Bool) (f : α → β) (l : List α)
    (h : ∀ x ∈ l, ∀ y ∈ l, le' (f x) (f y) = le x y) : leastBy le' (l.map f) = (leastBy le l).map f := by
  induction l with
  | nil => rfl
  | cons x xs ih =>
    have htail := ih fun a ha b hb => h a (List.mem_cons_of_mem _ ha) b (List.mem_cons_of_mem _ hb)
    simp only [List.map_cons, leastBy, htail]
    cases hm : leastBy le xs with
    | none => rfl
    | some y =>
      have hxy := h x (List.mem_cons_self ..) y (List.mem_cons_of_mem _ (leastBy_mem hm))
      simp only [Option.map_some, hxy]
      split <;> rfl

theorem before_iff (x y : Source) : x.before y = true ↔ x.rank < y.rank ∨ x.rank = y.rank ∧ x.sender ≤ y.sender := by
  simp [Source.before]

theorem before_total (x y : Source) : x.before y = true ∨ y.before x = true := by
  rw [before_iff, before_iff]; omega

theorem before_trans (x y z : Source) (h : x.before y = true) (k : y.before z = true) : x.before z = true := by
  rw [before_iff] at *; omega

/-- Entries of a list with one entry a sender are equal where their senders are. -/
theorem source_eq_of_sender {l : List Source} (hn : (l.map fun e => e.sender).Nodup) {x y : Source} (hx : x ∈ l) (hy : y ∈ l)
    (h : x.sender = y.sender) : x = y := List.inj_on_of_nodup_map hn hx hy h

/-- The choice of R45 in a list with one entry a sender. -/
theorem preferred_iff {l : List Source} (hn : (l.map fun e => e.sender).Nodup) (x : Source) :
    leastBy Source.before l = some x ↔ x ∈ l ∧ ∀ y ∈ l, x.before y = true := by
  constructor
  · exact fun h => ⟨leastBy_mem h, leastBy_le before_total before_trans h⟩
  · rintro ⟨hmem, hle⟩
    cases hz : leastBy Source.before l with
    | none => rw [leastBy_eq_none] at hz; simp [hz] at hmem
    | some z =>
      have hzmem := leastBy_mem hz
      have hxz := hle z hzmem
      have hzx := leastBy_le before_total before_trans hz x hmem
      rw [before_iff] at hxz hzx
      rw [source_eq_of_sender hn hmem hzmem (by omega)]

/-! ## Updates of the list (R42 to R44) -/

/-- The entry is the REMOTE one of the sender `n`. -/
def Source.remoteOf (n : Nat) (e : Source) : Bool := decide (e.sender = n) && !e.isLocal

theorem remote_some {p : Ptr} {n : Nat} {e : Source} (h : p.remote n = some e) :
    e ∈ p.list ∧ e.sender = n ∧ e.isLocal = false := by
  have hp := List.find?_some h
  exact ⟨List.mem_of_find?_eq_some h, by simpa using hp⟩

theorem remote_none {p : Ptr} {n : Nat} (h : p.remote n = none) : ∀ e ∈ p.list, e.sender = n → e.isLocal = true := by
  intro e he hs
  simpa [hs] using List.find?_eq_none.1 h e he

/-- Updating the places of a list updates its entries. -/
theorem filterMap_bind (f : Source → Option Source) (l : List (Option Source)) :
    (l.map fun o => o.bind f).filterMap id = (l.filterMap id).filterMap f := by
  induction l with
  | nil => rfl
  | cons o l ih =>
    cases o with
    | none => exact ih
    | some x =>
      simp only [List.map_cons, Option.bind_some, List.filterMap_cons, ih]
      rfl

theorem modLocal_list (p : Ptr) (f : Source → Source) : (p.modLocal f).list = p.list.map fun e => if e.isLocal then f e else e := by
  have hplaces : (p.modLocal f).sources = p.sources.map fun o => o.bind fun e => some (if e.isLocal then f e else e) :=
    List.map_congr_left fun o _ => by cases o <;> rfl
  rw [Ptr.list, hplaces, filterMap_bind, ← Ptr.list, ← List.filterMap_eq_map]
  rfl

theorem setRemote_places (p : Ptr) (n : Nat) (e : Option Source) :
    (p.setRemote n e).sources = p.sources.map fun o => o.bind fun x => if x.remoteOf n then e else some x := by
  refine List.map_congr_left fun o _ => ?_
  cases o with
  | none => rfl
  | some x => rfl

theorem setRemote_list (p : Ptr) (n : Nat) (e : Source) :
    (p.setRemote n (some e)).list = p.list.map fun x => if x.remoteOf n then e else x := by
  rw [Ptr.list, setRemote_places, filterMap_bind, ← Ptr.list, ← List.filterMap_eq_map]
  refine List.filterMap_congr fun x _ => ?_
  simp only [Function.comp]
  split <;> rfl

theorem setRemote_none_list (p : Ptr) (n : Nat) : (p.setRemote n none).list = p.list.filter fun x => !x.remoteOf n := by
  rw [Ptr.list, setRemote_places, filterMap_bind, ← Ptr.list, ← List.filterMap_eq_filter]
  refine List.filterMap_congr fun x _ => ?_
  cases h : x.remoteOf n <;> simp [Option.guard, h]

/-- An added entry joins the list, or finds it full and is not added. -/
theorem addSource_list (e : Source) (l : List (Option Source)) :
    ((addSource e l).filterMap id).Perm (e :: l.filterMap id) ∨ addSource e l = l := by
  induction l with
  | nil => exact .inr rfl
  | cons o l ih =>
    cases o with
    | none => exact .inl (by simp [addSource])
    | some x =>
      rcases ih with h | h
      · refine .inl ?_
        simp only [addSource, List.filterMap_cons, id]
        exact (h.cons x).trans (.swap ..)
      · exact .inr (by simp [addSource, h])

/-- The candidate for replacement is a REMOTE entry of the list (R43). -/
theorem candidate_some {p : Ptr} {c : Source} (h : p.candidate = some c) : c ∈ p.list ∧ c.isLocal = false := by
  have hmem := List.mem_filter.1 (leastBy_mem h)
  exact ⟨hmem.1, by simpa using hmem.2⟩

/-- Replacing a REMOTE entry of a list with one entry a sender. -/
theorem replace_perm {l : List Source} (hn : (l.map fun e => e.sender).Nodup) {c : Source} (hc : c ∈ l) (hlocal : c.isLocal = false)
    (e : Source) : (l.map fun x => if x.remoteOf c.sender then e else x).Perm (e :: l.erase c) := by
  have hothers : (l.erase c).map (fun x => if x.remoteOf c.sender then e else x) = l.erase c := by
    refine (List.map_congr_left fun x hx => ?_).trans (List.map_id _)
    have hne := (hn.of_map _).mem_erase_iff.1 hx
    rw [if_neg fun hr => hne.1 (source_eq_of_sender hn hne.2 hc (by simpa using (Bool.and_eq_true_iff.1 hr).1))]
    rfl
  have hperm := (List.perm_cons_erase hc).map fun x => if x.remoteOf c.sender then e else x
  rwa [List.map_cons, hothers, if_pos (by simp [Source.remoteOf, hlocal])] at hperm

/-! ## A list as R41 and R43 keep it -/

/-- One entry a sender; the LOCAL one under the own number and without an aging timer, the others under other numbers and with one. -/
def ListOk (own : Nat) (l : List Source) : Prop :=
  (l.map fun e => e.sender).Nodup ∧
    ∀ e ∈ l, if e.isLocal then e.sender = own ∧ e.aging.isNone = true else e.sender ≠ own ∧ e.aging.isSome = true

/-- The reference is TRACKING the preferred entry of its list, or not TRACKING where the list is empty. -/
def Ptr.ChoiceOk (p : Ptr) : Prop :=
  p.chosen = (leastBy Source.before (p.list)).map (fun e => e.sender) ∧
    (p.state = .tracking ↔ p.list ≠ [])

theorem sourcesOk_iff (s : State) : s.sourcesOk = true ↔
    (s.clp.line = .config → s.ptr.list = []) ∧ ListOk s.own.toNat (s.ptr.list) ∧ s.ptr.ChoiceOk := by
  have htracking : ((s.ptr.state = .tracking) = ((!s.ptr.list.isEmpty) = true)) ↔ (s.ptr.state = .tracking ↔ s.ptr.list ≠ []) := by
    simp
  have hentry : ∀ e : Source, (if e.isLocal then decide (e.sender = s.own.toNat) && e.aging.isNone
      else decide (e.sender ≠ s.own.toNat) && e.aging.isSome) = true ↔
      if e.isLocal then e.sender = s.own.toNat ∧ e.aging.isNone = true else e.sender ≠ s.own.toNat ∧ e.aging.isSome = true := by
    intro e; cases e.isLocal <;> simp
  unfold State.sourcesOk
  dsimp only
  rw [← Ptr.list]
  simp only [Bool.and_eq_true, Bool.or_eq_true, decide_eq_true_eq, List.all_eq_true, List.isEmpty_iff, hentry, htracking, ListOk,
    Ptr.ChoiceOk, and_assoc, ne_eq]
  exact and_congr_left' imp_iff_not_or.symm

/-- A replaced entry keeps its sender. -/
theorem ListOk.map {own : Nat} {l : List Source} (h : ListOk own l) (f : Source → Source)
    (hf : ∀ e ∈ l, (f e).sender = e.sender ∧ (f e).isLocal = e.isLocal ∧ (f e).aging.isSome = e.aging.isSome) : ListOk own (l.map f) := by
  obtain ⟨hn, hall⟩ := h
  refine ⟨?_, fun e' he' => ?_⟩
  · have hsenders : (l.map f).map (fun e => e.sender) = l.map fun e => e.sender := by
      rw [List.map_map]
      exact List.map_congr_left fun e he => (hf e he).1
    rwa [hsenders]
  · obtain ⟨e, he, rfl⟩ := List.mem_map.1 he'
    obtain ⟨hsender, hlocal, haging⟩ := hf e he
    have := hall e he
    rw [hsender, hlocal, ← Option.not_isSome, haging, Option.not_isSome]
    exact this

theorem ListOk.sublist {own : Nat} {l l' : List Source} (h : ListOk own l) (hs : l'.Sublist l) : ListOk own l' :=
  ⟨h.1.sublist (hs.map _), fun e he => h.2 e (hs.subset he)⟩

theorem ListOk.cons {own : Nat} {l : List Source} (h : ListOk own l) (e : Source) (hs : ∀ x ∈ l, x.sender ≠ e.sender)
    (he : if e.isLocal then e.sender = own ∧ e.aging.isNone = true else e.sender ≠ own ∧ e.aging.isSome = true) : ListOk own (e :: l) := by
  obtain ⟨hn, hall⟩ := h
  refine ⟨List.nodup_cons.2 ⟨fun hmem => ?_, hn⟩, fun x hx => ?_⟩
  · obtain ⟨x, hx, hsender⟩ := List.mem_map.1 hmem
    exact hs x hx hsender
  · rcases List.mem_cons.1 hx with rfl | hx
    · exact he
    · exact hall x hx

theorem ListOk.perm {own : Nat} {l l' : List Source} (h : ListOk own l) (hp : l'.Perm l) : ListOk own l' :=
  ⟨((hp.map _).nodup_iff).2 h.1, fun e he => h.2 e (hp.mem_iff.1 he)⟩

/-! ## The choice made again -/

@[simp] theorem enter_sources (ev : TrackerEvent) (e : Source) : (ev.enter e).ptr.sources = ev.ptr.sources := rfl

@[simp] theorem choose_sources (ev : TrackerEvent) (t : Time) : (ev.choose t).ptr.sources = ev.ptr.sources := by
  unfold TrackerEvent.choose
  (repeat' split) <;> rfl

@[simp] theorem choose_list (ev : TrackerEvent) (t : Time) : (ev.choose t).ptr.list = ev.ptr.list := by simp [Ptr.list]

/-- A choice leaves the reference TRACKING the preferred entry (R45, R50, R51). -/
theorem choose_choiceOk (ev : TrackerEvent) (t : Time) (h : ev.ptr.state ≠ .tracking → ev.ptr.chosen = none) :
    (ev.choose t).ptr.ChoiceOk := by
  unfold Ptr.ChoiceOk
  rw [choose_list]
  unfold TrackerEvent.choose
  rw [← Ptr.list]
  cases hl : leastBy Source.before (ev.ptr.list) with
  | some e =>
    have hne : ev.ptr.list ≠ [] := fun hnil => by simp [hnil, leastBy] at hl
    dsimp only
    split
    · next hstay => exact ⟨hstay.2, by simp [hstay.1, hne]⟩
    · exact ⟨rfl, by simp [TrackerEvent.enter, hne]⟩
  | none =>
    have hnil := (leastBy_eq_none _ _).1 hl
    dsimp only
    split
    · exact ⟨rfl, by simp [TrackerEvent.lose, hnil]⟩
    · next hstate => exact ⟨h hstate, by simp [hstate, hnil]⟩

/-- A reference that is not TRACKING has chosen nothing. -/
theorem Ptr.ChoiceOk.chosen_none {p : Ptr} (h : p.ChoiceOk) (hs : p.state ≠ .tracking) : p.chosen = none := by
  obtain ⟨hchosen, htracking⟩ := h
  rw [hchosen, (leastBy_eq_none _ _).2 (by_contra fun hne => hs (htracking.2 hne))]
  rfl

/-- The choice does not change with entries that keep their ranks and senders. -/
theorem Ptr.ChoiceOk.map {p q : Ptr} (h : p.ChoiceOk) (f : Source → Source) (hs : q.state = p.state) (hc : q.chosen = p.chosen)
    (hl : q.list = (p.list).map f)
    (hf : ∀ e ∈ p.list, (f e).rank = e.rank ∧ (f e).sender = e.sender) : q.ChoiceOk := by
  obtain ⟨hchosen, htracking⟩ := h
  have hleast := leastBy_map Source.before Source.before f (p.list) fun x hx y hy => by
    simp [Source.before, hf x hx, hf y hy]
  refine ⟨?_, by rw [hs, hl, htracking]; simp⟩
  rw [hc, hchosen, hl, hleast, Option.map_map]
  cases hm : leastBy Source.before (p.list) with
  | none => rfl
  | some e => simp [hf e (leastBy_mem hm)]

end Sys2Proof.Machine
end

section
/-! The reference follows the preferred source, and the tally runs only with it. -/

namespace Sys2Proof.Machine
open Sys2Proof

/-! ## Events that only rewrite entries -/

/-- The rewriting of an entry leaves what the choice and the list's rules ask for. -/
def KeepsIdentity (f : Source → Source) : Prop :=
  ∀ e, (f e).sender = e.sender ∧ (f e).isLocal = e.isLocal ∧ (f e).rank = e.rank ∧ (f e).aging = e.aging

/-- The reference `q` is `p` but for the contents of entries and the reference's own values. -/
def Relisted (p q : Ptr) : Prop := q.state = p.state ∧ q.chosen = p.chosen ∧ ∃ f, KeepsIdentity f ∧ q.list = p.list.map f

theorem Relisted.of_sources {p q : Ptr} (hs : q.state = p.state) (hc : q.chosen = p.chosen) (hl : q.sources = p.sources) : Relisted p q :=
  ⟨hs, hc, id, fun _ => ⟨rfl, rfl, rfl, rfl⟩, by simp [Ptr.list, hl]⟩

theorem Relisted.trans {p q r : Ptr} (h : Relisted p q) (k : Relisted q r) : Relisted p r := by
  obtain ⟨hs, hc, f, hf, hl⟩ := h
  obtain ⟨ks, kc, g, hg, kl⟩ := k
  exact ⟨ks.trans hs, kc.trans hc, g ∘ f, fun e => by simp [hg (f e), hf e], by rw [kl, hl, List.map_map]⟩

theorem modLocal_relisted (p : Ptr) (f : Source → Source) (hf : KeepsIdentity f) : Relisted p (p.modLocal f) :=
  ⟨rfl, rfl, fun e => if e.isLocal then f e else e, fun e => by cases h : e.isLocal <;> simp [h, hf e], modLocal_list p f⟩

theorem takeRecord_relisted (ev : TrackerEvent) (r : BRec) : Relisted ev.ptr (ev.takeRecord r).ptr := .of_sources rfl rfl rfl

theorem takeHold_relisted (ev : TrackerEvent) (m : Motion) (h : Int) : Relisted ev.ptr (ev.takeHold m h).ptr := .of_sources rfl rfl rfl

theorem holdLocal_relisted (ev : TrackerEvent) (m : Motion) (h : Int) : Relisted ev.ptr (ev.holdLocal m h).ptr := by
  have hmod := modLocal_relisted ev.ptr (fun e => { e with hold := some h }) fun _ => ⟨rfl, rfl, rfl, rfl⟩
  unfold TrackerEvent.holdLocal
  dsimp only
  split
  · exact hmod.trans (takeHold_relisted _ m h)
  · exact hmod

theorem passBeacon_relisted (ev : TrackerEvent) (n : Nat) (p : Beacon) (t : Time) : Relisted ev.ptr (ev.passBeacon n p t).ptr := by
  unfold TrackerEvent.passBeacon
  split
  · split
    · exact takeRecord_relisted ev _
    · exact takeHold_relisted ev _ _
    · exact .of_sources rfl rfl rfl
  · exact .of_sources rfl rfl rfl

theorem Ptr.ChoiceOk.relisted {p q : Ptr} (h : p.ChoiceOk) (hr : Relisted p q) : q.ChoiceOk := by
  obtain ⟨hs, hc, f, hf, hl⟩ := hr
  exact h.map f hs hc hl fun e _ => ⟨(hf e).2.2.1, (hf e).1⟩

theorem ListOk.relisted {p q : Ptr} {own : Nat} (h : ListOk own p.list) (hr : Relisted p q) : ListOk own q.list := by
  obtain ⟨-, -, f, hf, hl⟩ := hr
  rw [hl]
  exact h.map f fun e _ => ⟨(hf e).1, (hf e).2.1, by rw [(hf e).2.2.2]⟩

theorem Relisted.list_nil {p q : Ptr} (hr : Relisted p q) (h : p.list = []) : q.list = [] := by
  obtain ⟨-, -, f, -, hl⟩ := hr
  rw [hl, h]; rfl

/-! ## The source list over the operations (R41 to R45, R50, R51) -/

/-- The invariant speaks of the straps, the line state and the choice alone. -/
theorem sourcesOk_congr {s u : State} (hst : u.straps = s.straps) (hl : u.clp.line = s.clp.line) (hr : Relisted s.ptr u.ptr)
    (h : s.sourcesOk = true) : u.sourcesOk = true := by
  obtain ⟨hconfig, hlist, hchoice⟩ := (sourcesOk_iff s).1 h
  refine (sourcesOk_iff u).2 ⟨fun hc => hr.list_nil (hconfig (hl ▸ hc)), ?_, hchoice.relisted hr⟩
  rw [State.own, hst]
  exact hlist.relisted hr

/-- An event that leaves a list and a choice as they must be. -/
theorem trackerEvent_sourcesOk (ev : TrackerEvent) (s : State) (hc : s.clp.line = .config → ev.ptr.list = [])
    (hl : ListOk s.own.toNat ev.ptr.list) (hchoice : ev.ptr.ChoiceOk) : (trackerEvent ev s).sourcesOk = true := by
  have hr : Relisted ev.ptr (trackerEvent ev s).ptr := by
    rw [trackerEvent_ptr]
    exact .of_sources (by simp) (by simp) (by simp)
  refine (sourcesOk_iff _).2 ⟨fun hline => hr.list_nil (hc (by simpa using hline)), ?_, hchoice.relisted hr⟩
  have hown : (trackerEvent ev s).own = s.own := by simp [State.own]
  rw [hown]
  exact hl.relisted hr

/-- An event that only rewrites entries. -/
theorem trackerEvent_relisted {ev : TrackerEvent} {s v : State} (h : s.sourcesOk = true) (hst : v.straps = s.straps)
    (hl : v.clp.line = s.clp.line) (hr : Relisted s.ptr ev.ptr) : (trackerEvent ev v).sourcesOk = true := by
  obtain ⟨hconfig, hlist, hchoice⟩ := (sourcesOk_iff s).1 h
  refine trackerEvent_sourcesOk ev v (fun hc => hr.list_nil (hconfig (hl ▸ hc))) ?_ (hchoice.relisted hr)
  rw [State.own, hst]
  exact hlist.relisted hr

/-- The event of a beacon of a sender with an entry, before what the beacon carries is passed on (R42, R45; log entry 12). -/
def knownEvent (n : Nat) (e : Source) (p : Beacon) (stamp : Time) (s : State) : TrackerEvent :=
  let ev := TrackerEvent.of (s.ptr.setRemote n (some (e.beacon p stamp)))
  if e.rank = p.rank.toNat then ev else ev.choose s.timebase

theorem beaconKnown_eq (n : Nat) (e : Source) (p : Beacon) (stamp : Time) (s : State) : beaconKnown n e p stamp s =
    trackerEvent (if (knownEvent n e p stamp s).jump then knownEvent n e p stamp s else (knownEvent n e p stamp s).passBeacon n p stamp) s :=
  rfl

section
variable {s : State} (h : s.sourcesOk = true)
include h

/-- A beacon of a sender with an entry (R42, R45). -/
theorem beaconKnown_sourcesOk (n : Nat) (e : Source) (p : Beacon) (t : Time) (he : s.ptr.remote n = some e)
    (hline : s.clp.line ≠ .config) : (beaconKnown n e p t s).sourcesOk = true := by
  obtain ⟨-, hlist, hchoice⟩ := (sourcesOk_iff s).1 h
  obtain ⟨hmem, hsender, hlocal⟩ := remote_some he
  have hremote : ∀ x ∈ s.ptr.list, x.remoteOf n = true → x = e := fun x hx hr =>
    source_eq_of_sender hlist.1 hx hmem (by rw [hsender]; simpa using (Bool.and_eq_true_iff.1 hr).1)
  have hset := setRemote_list s.ptr n (e.beacon p t)
  have hlist' : ListOk s.own.toNat (s.ptr.setRemote n (some (e.beacon p t))).list := by
    rw [hset]
    refine hlist.map _ fun x hx => ?_
    split
    · next hr =>
      obtain rfl := hremote x hx hr
      have haging := hlist.2 x hx
      rw [hlocal] at haging
      exact ⟨rfl, rfl, by simpa [Source.beacon] using haging.2⟩
    · exact ⟨rfl, rfl, rfl⟩
  have hevent : (knownEvent n e p t s).ptr.ChoiceOk ∧ (knownEvent n e p t s).ptr.list = (s.ptr.setRemote n (some (e.beacon p t))).list := by
    unfold knownEvent
    dsimp only
    split
    · next hrank =>
      refine ⟨hchoice.map _ rfl rfl hset fun x hx => ?_, rfl⟩
      split
      · next hr =>
        obtain rfl := hremote x hx hr
        exact ⟨hrank.symm, rfl⟩
      · exact ⟨rfl, rfl⟩
    · exact ⟨choose_choiceOk _ _ hchoice.chosen_none, choose_list _ _⟩
  obtain ⟨hchoice', hlist''⟩ := hevent
  rw [← hlist''] at hlist'
  rw [beaconKnown_eq]
  split
  · exact trackerEvent_sourcesOk _ s (fun hc => absurd hc hline) hlist' hchoice'
  · have hpass := passBeacon_relisted (knownEvent n e p t s) n p t
    exact trackerEvent_sourcesOk _ s (fun hc => absurd hc hline) (hlist'.relisted hpass) (hchoice'.relisted hpass)

/-- A list as it must be, from which the choice is made again. -/
theorem choose_sourcesOk (q : Ptr) (hs : q.state = s.ptr.state) (hc : q.chosen = s.ptr.chosen) (hline : s.clp.line ≠ .config)
    (hl : ListOk s.own.toNat q.list) : (trackerEvent ((TrackerEvent.of q).choose s.timebase) s).sourcesOk = true := by
  obtain ⟨-, -, hchoice⟩ := (sourcesOk_iff s).1 h
  refine trackerEvent_sourcesOk _ s (fun hc => absurd hc hline) (by rw [choose_list]; exact hl) (choose_choiceOk _ _ fun ht => ?_)
  exact hc.trans (hchoice.chosen_none fun htr => ht (hs.trans htr))

/-- A beacon of a sender without an entry (R43, R45). -/
theorem beaconNew_sourcesOk (n : Nat) (p : Beacon) (t : Time) (hn : n ≠ s.own.toNat) (he : s.ptr.remote n = none)
    (hline : s.clp.line ≠ .config) : (beaconNew n p t s).sourcesOk = true := by
  obtain ⟨-, hlist, hchoice⟩ := (sourcesOk_iff s).1 h
  have hnew : ∀ x ∈ s.ptr.list, x.sender ≠ n := fun x hx hs => by
    have hlocal := remote_none he x hx hs
    have hown := hlist.2 x hx
    rw [hlocal] at hown
    exact hn (hs.symm.trans hown.1)
  have hentry : if ((Source.fresh n).beacon p t).isLocal then ((Source.fresh n).beacon p t).sender = s.own.toNat ∧
        ((Source.fresh n).beacon p t).aging.isNone = true
      else ((Source.fresh n).beacon p t).sender ≠ s.own.toNat ∧ ((Source.fresh n).beacon p t).aging.isSome = true := ⟨hn, rfl⟩
  unfold beaconNew
  dsimp only
  split
  · refine choose_sourcesOk h _ rfl rfl hline ?_
    rcases addSource_list ((Source.fresh n).beacon p t) s.ptr.sources with hperm | hfull
    · exact (hlist.cons _ hnew hentry).perm hperm
    · simp only [Ptr.list, hfull]
      exact hlist
  · split
    · next c hc =>
      split
      · refine choose_sourcesOk h _ rfl rfl hline ?_
        obtain ⟨hmem, hlocal⟩ := candidate_some hc
        rw [setRemote_list]
        refine ListOk.perm ?_ (replace_perm hlist.1 hmem hlocal _)
        exact (hlist.sublist List.erase_sublist).cons _ (fun x hx => hnew x (List.mem_of_mem_erase hx)) hentry
      · exact h
    · exact h

/-- An aged source leaves the list (R44). -/
theorem ageSource_sourcesOk (n : Nat) : (ageSource n s).sourcesOk = true := by
  obtain ⟨hconfig, hlist, hchoice⟩ := (sourcesOk_iff s).1 h
  have hset := setRemote_none_list s.ptr n
  refine trackerEvent_sourcesOk _ s (fun hc => ?_) ?_ (choose_choiceOk _ _ hchoice.chosen_none) <;>
    rw [choose_list, TrackerEvent.of, hset]
  · rw [hconfig hc]; rfl
  · exact hlist.sublist List.filter_sublist

/-- The LOCAL entry enters an empty list (R41, R45). -/
theorem startTracker_sourcesOk (hnil : s.ptr.list = []) (hline : s.clp.line ≠ .config) : (startTracker s).sourcesOk = true := by
  obtain ⟨-, hlist, hchoice⟩ := (sourcesOk_iff s).1 h
  unfold startTracker
  split
  · exact h
  · refine choose_sourcesOk h _ rfl rfl hline ?_
    rcases addSource_list _ s.ptr.sources with hperm | hfull
    · refine ListOk.perm (hlist.cons _ (by simp [hnil]) ?_) hperm
      exact ⟨rfl, rfl⟩
    · simp only [Ptr.list, hfull]
      exact hlist

end

/-! ## The local PICTURE channel (R46 to R49) -/

/-- The beacons of a picture station touch the reference in its beacon times alone. -/
theorem sendHold_ptr (h : Int) (s : State) :
    (sendHold h s).ptr = { s.ptr with lastBeacon := some s.timebase, holdTimer := some (later s.timebase Config.holdBeacon) } := by
  simp [sendHold]

theorem recordBeacon_ptr (c : Chan) (i : Option Nat) (r : BRec) (s : State) :
    ∃ b, (recordBeacon c i r s).ptr = { s.ptr with lastBeacon := b } := by
  unfold recordBeacon
  dsimp only
  split
  · exact ⟨_, rfl⟩
  split
  · split
    · exact ⟨some r.stamp, by simp⟩
    · exact ⟨_, rfl⟩
  · exact ⟨some r.stamp, by simp⟩

/-- `s` with the HOLD beacon of a motion change placed, or its timer stopped (R49). -/
def motionBeacon (c : Chan) (s : State) : State :=
  if (s.chan c).motion = .stopped then sendHold (holdPosition (s.settings.chan c) (s.chan c)) s
  else s.modPtr fun p => { p with holdTimer := none }

theorem motionBeacon_ptr (c : Chan) (s : State) : ∃ b t, (motionBeacon c s).ptr = { s.ptr with lastBeacon := b, holdTimer := t } := by
  unfold motionBeacon
  split
  · exact ⟨_, _, sendHold_ptr _ s⟩
  · exact ⟨s.ptr.lastBeacon, none, by simp⟩

@[simp] theorem motionBeacon_keeps (c : Chan) (s : State) :
    (motionBeacon c s).straps = s.straps ∧ (motionBeacon c s).settings = s.settings ∧ (motionBeacon c s).clp.line = s.clp.line ∧
    (motionBeacon c s).chA = s.chA ∧ (motionBeacon c s).chB = s.chB ∧ (motionBeacon c s).lockA = s.lockA ∧
    (motionBeacon c s).lockB = s.lockB ∧ (motionBeacon c s).ctb = s.ctb ∧ (motionBeacon c s).csh = s.csh ∧
    (motionBeacon c s).cou = s.cou := by
  unfold motionBeacon
  split <;> simp

/-- The event of a motion change of the picture channel (R46, R49). -/
def motionEvent (c : Chan) (s : State) : TrackerEvent :=
  let m := (s.chan c).motion
  let ev := TrackerEvent.of (({ s.ptr with chanInterval := none }).modLocal fun e => { e with motion := localMotion m none, interval := none })
  if m = .stopped then ev.holdLocal s.ptr.motion (holdPosition (s.settings.chan c) (s.chan c)) else ev

theorem pictureMotion_eq (c : Chan) (s : State) :
    pictureMotion c s = trackerEvent (motionEvent c (motionBeacon c s)) (motionBeacon c s) := by
  have hchan : (motionBeacon c s).chan c = s.chan c := State.chan_congr (by simp) (by simp) c
  unfold motionEvent
  rw [hchan, (motionBeacon_keeps c s).2.1]
  rfl

/-- The event of a boundary record of the picture channel (R46, R49, R53). -/
def recordEvent (c : Chan) (r : BRec) (s : State) : TrackerEvent :=
  let ch := s.chan c
  let interval := channelInterval ch.recNew ch.recOld
  let ev := TrackerEvent.of (({ s.ptr with chanInterval := interval }).modLocal fun e =>
    { e with record := some r, interval := interval, motion := localMotion ch.motion interval })
  let ev := if ev.ptr.followsLocal then ev.takeRecord r else ev
  if ch.motion = .stopped then ev.holdLocal s.ptr.motion (holdPosition (s.settings.chan c) ch) else ev

/-- `s` with the BOUNDARY beacon of a record placed, where one is due (R47, R48). -/
def recordBeaconed (c : Chan) (r : BRec) (s : State) : State :=
  recordBeacon c (channelInterval (s.chan c).recNew (s.chan c).recOld) r s

theorem pictureRecord_eq (c : Chan) (r : BRec) (s : State) :
    pictureRecord c r s = trackerEvent (recordEvent c r (recordBeaconed c r s)) (recordBeaconed c r s) := by
  have hchan : (recordBeaconed c r s).chan c = s.chan c := State.chan_congr (by simp [recordBeaconed]) (by simp [recordBeaconed]) c
  unfold recordEvent
  rw [hchan]
  rfl

theorem motionEvent_relisted (c : Chan) (s : State) : Relisted s.ptr (motionEvent c s).ptr := by
  have hmod : Relisted s.ptr (({ s.ptr with chanInterval := none }).modLocal fun e =>
      { e with motion := localMotion (s.chan c).motion none, interval := none }) :=
    (Relisted.of_sources rfl rfl rfl).trans (modLocal_relisted _ _ fun _ => ⟨rfl, rfl, rfl, rfl⟩)
  unfold motionEvent
  dsimp only
  split
  · exact hmod.trans (holdLocal_relisted _ _ _)
  · exact hmod

theorem recordEvent_relisted (c : Chan) (r : BRec) (s : State) : Relisted s.ptr (recordEvent c r s).ptr := by
  have hmod : Relisted s.ptr (({ s.ptr with chanInterval := channelInterval (s.chan c).recNew (s.chan c).recOld }).modLocal fun e =>
      { e with
        record := some r, interval := channelInterval (s.chan c).recNew (s.chan c).recOld
        motion := localMotion (s.chan c).motion (channelInterval (s.chan c).recNew (s.chan c).recOld) }) :=
    (Relisted.of_sources rfl rfl rfl).trans (modLocal_relisted _ _ fun _ => ⟨rfl, rfl, rfl, rfl⟩)
  have htake : ∀ ev : TrackerEvent, Relisted s.ptr ev.ptr → Relisted s.ptr (if ev.ptr.followsLocal then ev.takeRecord r else ev).ptr := by
    intro ev hev
    split
    · exact hev.trans (takeRecord_relisted _ _)
    · exact hev
  unfold recordEvent
  dsimp only
  split
  · exact (htake _ hmod).trans (holdLocal_relisted _ _ _)
  · exact htake _ hmod

theorem motionBeacon_relisted (c : Chan) (s : State) : Relisted s.ptr (motionBeacon c s).ptr := by
  obtain ⟨b, t, hptr⟩ := motionBeacon_ptr c s
  rw [hptr]
  exact .of_sources rfl rfl rfl

theorem recordBeaconed_relisted (c : Chan) (r : BRec) (s : State) : Relisted s.ptr (recordBeaconed c r s).ptr := by
  obtain ⟨b, hptr⟩ := recordBeacon_ptr c (channelInterval (s.chan c).recNew (s.chan c).recOld) r s
  rw [recordBeaconed, hptr]
  exact .of_sources rfl rfl rfl

theorem sendHold_relisted (h : Int) (s : State) : Relisted s.ptr (sendHold h s).ptr := by
  rw [sendHold_ptr]
  exact .of_sources rfl rfl rfl

section
variable {s : State} (h : s.sourcesOk = true)
include h

theorem pictureMotion_sourcesOk (c : Chan) : (pictureMotion c s).sourcesOk = true := by
  rw [pictureMotion_eq]
  exact trackerEvent_relisted h (by simp) (by simp) ((motionBeacon_relisted c s).trans (motionEvent_relisted c _))

theorem pictureRecord_sourcesOk (c : Chan) (r : BRec) : (pictureRecord c r s).sourcesOk = true := by
  rw [pictureRecord_eq]
  exact trackerEvent_relisted h (by simp [recordBeaconed]) (by simp [recordBeaconed])
    ((recordBeaconed_relisted c r s).trans (recordEvent_relisted c r _))

theorem holdTimerExpiry_sourcesOk (c : Chan) : (holdTimerExpiry c s).sourcesOk = true :=
  trackerEvent_relisted h (by simp) (by simp) ((sendHold_relisted _ s).trans (holdLocal_relisted _ _ _))

/-- An operation that leaves the reference and the line state. -/
theorem sourcesOk_of_ptr {u : State} (hst : u.straps = s.straps) (hl : u.clp.line = s.clp.line) (hp : u.ptr = s.ptr) :
    u.sourcesOk = true := sourcesOk_congr hst hl (by rw [hp]; exact .of_sources rfl rfl rfl) h

end

theorem sourcesOk_channel : ChannelInvariant False fun s => s.sourcesOk = true where
  chan c ch h := sourcesOk_of_ptr h (by simp) (by simp) (by simp)
  pins f h := sourcesOk_of_ptr h rfl rfl rfl
  fault i h := sourcesOk_of_ptr h (by simp) (by simp) (by simp)
  motion c h := by
    unfold deliverMotion
    split
    · exact h
    · exact pictureMotion_sourcesOk h c
    · exact sourcesOk_of_ptr h (by simp) (by simp) (by simp)
  record c r h _ _ := by
    unfold deliverRecord
    split
    · exact h
    · exact pictureRecord_sourcesOk h c r
    · exact sourcesOk_of_ptr h (by simp) (by simp) (by simp)

end Sys2Proof.Machine
end

section
/-! The reference follows the preferred source, and the tally runs only with it, over every operation. -/

namespace Sys2Proof.Machine
open Sys2Proof

/-! ## The source list over every operation -/

/-- The tracker's START and what follows it (R188). -/
theorem startPart_sourcesOk {s : State} (h : s.sourcesOk = true) (hnil : s.ptr.list = []) : (startPart s).sourcesOk = true := by
  have hline : s.atTracker.clp.line ≠ .config := by simp [atTracker_line]
  have hready : s.atTracker.sourcesOk = true := by
    obtain ⟨-, hlist, hchoice⟩ := (sourcesOk_iff s).1 h
    refine (sourcesOk_iff _).2 ⟨fun hc => absurd hc hline, ?_, ?_⟩
    · simpa [State.own] using hlist
    · simpa using hchoice
  rw [startPart_stages]
  exact sourcesOk_of_ptr (startTracker_sourcesOk hready (by simpa using hnil) hline) (by simp) (by simp) (by simp)

/-- Reset values have an empty list. -/
theorem reset_sourcesOk {s : State} (h : SameCore (resetBlocks s) s) : s.sourcesOk = true ∧ s.ptr.list = [] := by
  obtain ⟨-, -, -, -, -, hptr, -⟩ := h
  have hnil : s.ptr.list = [] := by
    rw [hptr]
    exact List.filterMap_replicate_of_none rfl
  refine ⟨(sourcesOk_iff s).2 ⟨fun _ => hnil, ?_, ?_, ?_⟩, hnil⟩
  · rw [hnil]
    exact ⟨List.nodup_nil, fun e he => absurd he List.not_mem_nil⟩
  · rw [hnil, hptr]; rfl
  · rw [hnil, hptr]
    exact ⟨nofun, fun hne => absurd rfl hne⟩

theorem sourcesOk_same {s u : State} (hsame : SameCore s u) (h : s.sourcesOk = true) : u.sourcesOk = true := by
  obtain ⟨hst, -, hline, -, -, hptr, -⟩ := hsame
  exact sourcesOk_of_ptr h hst hline hptr

theorem line_of_listening {s : State} (h : s.listening = true) : s.clp.line ≠ .config := by
  intro hc
  simp [State.listening, hc] at h

theorem applyBeacon_sourcesOk {s : State} (h : s.sourcesOk = true) (n : BitVec 5) (p : Beacon) (t : Time) (hl : s.listening = true)
    (hn : n ≠ s.own) : (applyBeacon n p t s).sourcesOk = true := by
  have hline := line_of_listening hl
  unfold applyBeacon
  split
  · next e he => exact beaconKnown_sourcesOk h n.toNat e p t he hline
  · next he => exact beaconNew_sourcesOk h n.toNat p t (fun heq => hn (BitVec.eq_of_toNat_eq heq)) he hline

/-- A line state other than CONFIG is all the invariant asks of it. -/
theorem sourcesOk_of_line {s u : State} (h : s.sourcesOk = true) (hst : u.straps = s.straps) (hl : u.clp.line ≠ .config)
    (hr : Relisted s.ptr u.ptr) : u.sourcesOk = true := by
  obtain ⟨-, hlist, hchoice⟩ := (sourcesOk_iff s).1 h
  refine (sourcesOk_iff u).2 ⟨fun hc => absurd hc hl, ?_, hchoice.relisted hr⟩
  rw [State.own, hst]
  exact hlist.relisted hr

theorem trackerActive_relisted (s : State) : Relisted s.ptr (trackerActive s).ptr := by
  unfold trackerActive
  (repeat' split)
  · exact sendHold_relisted _ s
  all_goals exact .of_sources rfl rfl rfl

/-- Every operation keeps the source list and the choice (R41 to R45, R50, R51). -/
theorem act_sourcesOk {s u : State} (hact : Act s u) (h : s.sourcesOk = true) : u.sourcesOk = true := by
  cases hact with
  | idle => exact h
  | written hl g => exact sourcesOk_of_ptr h rfl rfl rfl
  | cleared _ hreset => exact (reset_sourcesOk hreset).1
  | started hl => exact startPart_sourcesOk h (((sourcesOk_iff s).1 h).1 hl)
  | restarted v hreset => exact startPart_sourcesOk (reset_sourcesOk hreset).1 (reset_sourcesOk hreset).2
  | beacon n p t hl hn => exact applyBeacon_sourcesOk h n p t hl hn
  | body n b => exact sourcesOk_of_ptr h (by simp) (by simp) (by simp)
  | order n op p => exact sourcesOk_of_ptr h (by simp) (by simp) (by simp)
  | punch n edge p => exact sourcesOk_of_ptr h (by simp) (by simp) (by simp)
  | duplicate hl =>
    exact sourcesOk_of_line h (by simp) (mt (enterDuplicate_steady s hl).line.1 (line_of_listening hl))
      (.of_sources (by simp) (by simp) (by simp))
  | joined =>
    unfold joinExpiry
    cases hg : decide (s.clp.line = .joining) && expired s.timebase s.clp.joinTimer
    · exact h
    · refine sourcesOk_of_line h (by simp [guarded]) (by simp [guarded]) ?_
      refine Relisted.trans ?_ (trackerActive_relisted _)
      exact .of_sources (by simp) (by simp) (by simp)
  | tach c line level => exact sourcesOk_channel.tachChange c line level h
  | index c level => exact sourcesOk_channel.indexChange c level h nofun
  | stall c => exact sourcesOk_channel.stallChannel c h
  | aged n => exact ageSource_sourcesOk h n
  | held c => exact holdTimerExpiry_sourcesOk h c
  | fired d _ => exact sourcesOk_of_ptr h (by simp) (by simp) (by simp)
  | closed => exact sourcesOk_of_ptr h rfl rfl rfl

/-! ## The tally over events at the tracker (R51, R52, R140, R142) -/

theorem tallyOk_iff (s : State) : s.tallyOk = true ↔
    (s.cou.tally = [] ∨ s.ptr.motion = .forward) ∧ (s.ptr.motion = .stopped ∨ s.ptr.state = .tracking) ∧
      (s.ptr.state = .tracking → s.ptr.chosen.isSome = true) := by
  simp only [State.tallyOk, Bool.and_eq_true, Bool.or_eq_true, decide_eq_true_eq, List.isEmpty_iff, and_assoc, imp_iff_not_or, ne_eq]

/-- An operation that leaves the reference's state, choice and motion, and adds nothing to an empty tally set. -/
theorem tallyOk_congr {s u : State} (h : s.tallyOk = true) (hs : u.ptr.state = s.ptr.state) (hc : u.ptr.chosen = s.ptr.chosen)
    (hm : u.ptr.motion = s.ptr.motion) (ht : s.cou.tally = [] → u.cou.tally = []) : u.tallyOk = true := by
  obtain ⟨hforward, hmoves, hchosen⟩ := (tallyOk_iff s).1 h
  refine (tallyOk_iff u).2 ?_
  rw [hs, hc, hm]
  exact ⟨hforward.imp_left ht, hmoves, hchosen⟩

/-- The tally set after an event: as it was, or empty where the event is reported (R142). -/
theorem trackerEvent_tally (ev : TrackerEvent) (s : State) :
    (trackerEvent ev s).cou.tally = if ev.reports s.ptr (ev.settle s.ptr) = [] then s.cou.tally else [] := by
  have hhold : ∀ v : State, (guarded ev.hold takeHold v).cou.tally = v.cou.tally := fun v => by unfold guarded; split <;> simp
  have hstatus : ∀ (p : Bool) (v : State), (guarded p statusChange v).cou = v.cou := fun p v => by unfold guarded; split <;> simp
  unfold trackerEvent
  dsimp only
  rw [hhold]
  cases ev.boundary <;> cases ev.lost <;> simp [deliverReports_tally, hstatus]

/-- An event keeps what the tally set follows: a TRACKING reference has a chosen source, and one that stops to track has lost its
source. -/
def TrackerEvent.Followed (ev : TrackerEvent) (p : Ptr) : Prop :=
  (ev.ptr.state = .tracking → ev.ptr.chosen.isSome = true) ∧ (p.state = .tracking → ev.ptr.state ≠ .tracking → ev.lost.isSome = true)

/-- An event that leaves the reference FORWARD or is reported. -/
theorem forward_of_no_report {ev : TrackerEvent} {p : Ptr} (hev : ev.Followed p) (hs : p.state = .tracking) (hm : p.motion = .forward)
    (hr : ev.reports p (ev.settle p) = []) : (ev.settle p).motion = .forward := by
  obtain ⟨hlost, hstop, hfast, hturn⟩ : ev.lost.isSome = false ∧
      ((ev.settle p).state = .tracking → (ev.settle p).motion ≠ .stopped) ∧ (ev.settle p).motion ≠ .fast ∧
      (ev.settle p).motion ≠ .reverse := by
    simp only [TrackerEvent.reports, List.append_eq_nil_iff, hm] at hr
    obtain ⟨⟨⟨⟨⟨⟨-, -⟩, hturn⟩, hstop⟩, hfast⟩, hloss⟩, -⟩ := hr
    refine ⟨by simpa using hloss, fun ht hk => ?_, fun hk => ?_, fun hk => ?_⟩
    · rw [if_pos ⟨ht, hk, by decide⟩] at hstop
      cases hstop
    · rw [if_pos ⟨hk, by decide⟩] at hfast
      cases hfast
    · rw [hk] at hturn
      cases hturn
  have htracking : (ev.settle p).state = .tracking := by
    by_contra hne
    rw [(settle_kept ev p).2.1] at hne
    simp [hev.2 hs hne] at hlost
  cases hk : (ev.settle p).motion
  · exact absurd hk (hstop htracking)
  · rfl
  · exact absurd hk hturn
  · exact absurd hk hfast

theorem trackerEvent_tallyOk {ev : TrackerEvent} {s : State} (h : s.tallyOk = true) (hev : ev.Followed s.ptr) :
    (trackerEvent ev s).tallyOk = true := by
  obtain ⟨hforward, hmoves, -⟩ := (tallyOk_iff s).1 h
  rw [tallyOk_iff, trackerEvent_ptr, trackerEvent_tally]
  refine ⟨?_, ?_, ?_⟩
  · by_cases hr : ev.reports s.ptr (ev.settle s.ptr) = []
    · rw [if_pos hr]
      refine hforward.imp_right fun hm => forward_of_no_report hev (hmoves.resolve_left (by simp [hm])) hm hr
    · exact .inl (if_neg hr)
  · rw [or_iff_not_imp_right]
    intro hs
    rw [(settle_kept ev s.ptr).2.2.2.1]
    exact derivedMotion_stopped _ (by simpa using hs)
  · simpa using hev.1

/-- An event that leaves state and choice. -/
theorem Followed.of_kept {ev : TrackerEvent} {s : State} (h : s.tallyOk = true) (hs : ev.ptr.state = s.ptr.state)
    (hc : ev.ptr.chosen = s.ptr.chosen) : ev.Followed s.ptr := by
  refine ⟨fun ht => ?_, fun ht hne => absurd (hs.trans ht) hne⟩
  rw [hc]
  exact ((tallyOk_iff s).1 h).2.2 (hs ▸ ht)

/-- A choice made again from a list (R45). -/
theorem Followed.choose {q : Ptr} {s : State} (h : s.tallyOk = true) (hs : q.state = s.ptr.state) (hc : q.chosen = s.ptr.chosen)
    (t : Time) : ((TrackerEvent.of q).choose t).Followed s.ptr := by
  unfold TrackerEvent.choose
  split
  · split
    · exact Followed.of_kept h hs hc
    · exact ⟨fun _ => rfl, fun _ hne => absurd rfl hne⟩
  · split
    · next ht =>
      refine ⟨nofun, fun _ _ => ?_⟩
      change q.chosen.isSome = true
      rw [hc]
      exact ((tallyOk_iff s).1 h).2.2 (hs ▸ ht)
    · exact Followed.of_kept h hs hc

theorem Followed.relisted {ev ev' : TrackerEvent} {p : Ptr} (h : ev.Followed p) (hr : Relisted ev.ptr ev'.ptr) (hl : ev'.lost = ev.lost) :
    ev'.Followed p := by
  obtain ⟨hs, hc, -⟩ := hr
  unfold TrackerEvent.Followed
  rw [hs, hc, hl]
  exact h

theorem passBeacon_lost (ev : TrackerEvent) (n : Nat) (p : Beacon) (t : Time) : (ev.passBeacon n p t).lost = ev.lost := by
  unfold TrackerEvent.passBeacon
  (repeat' split) <;> rfl

section
variable {s : State} (h : s.tallyOk = true)
include h

theorem choose_tallyOk (q : Ptr) (hs : q.state = s.ptr.state) (hc : q.chosen = s.ptr.chosen) :
    (trackerEvent ((TrackerEvent.of q).choose s.timebase) s).tallyOk = true :=
  trackerEvent_tallyOk h (Followed.choose h hs hc _)

theorem beaconKnown_tallyOk (n : Nat) (e : Source) (p : Beacon) (t : Time) : (beaconKnown n e p t s).tallyOk = true := by
  have hknown : (knownEvent n e p t s).Followed s.ptr := by
    unfold knownEvent
    dsimp only
    split
    · exact Followed.of_kept h rfl rfl
    · exact Followed.choose (q := s.ptr.setRemote n (some (e.beacon p t))) h rfl rfl _
  rw [beaconKnown_eq]
  refine trackerEvent_tallyOk h ?_
  split
  · exact hknown
  · exact Followed.relisted hknown (passBeacon_relisted _ n p t) (passBeacon_lost _ n p t)

theorem applyBeacon_tallyOk (n : BitVec 5) (p : Beacon) (t : Time) : (applyBeacon n p t s).tallyOk = true := by
  unfold applyBeacon
  split
  · exact beaconKnown_tallyOk h _ _ p t
  · unfold beaconNew
    dsimp only
    (repeat' split)
    · exact choose_tallyOk h _ rfl rfl
    · exact choose_tallyOk h _ rfl rfl
    all_goals exact h

theorem startTracker_tallyOk : (startTracker s).tallyOk = true := by
  unfold startTracker
  split
  · exact h
  · exact choose_tallyOk h _ rfl rfl

/-- An event that only rewrites entries, after changes that leave state, choice, motion and tally. -/
theorem relisted_tallyOk {ev : TrackerEvent} {v : State} (hr : Relisted s.ptr v.ptr) (hm : v.ptr.motion = s.ptr.motion)
    (ht : v.cou = s.cou) (hev : Relisted v.ptr ev.ptr) : (trackerEvent ev v).tallyOk = true := by
  have hv : v.tallyOk = true := tallyOk_congr h hr.1 hr.2.1 hm fun hnil => by rw [ht, hnil]
  exact trackerEvent_tallyOk hv (Followed.of_kept hv hev.1 hev.2.1)

theorem pictureMotion_tallyOk (c : Chan) : (pictureMotion c s).tallyOk = true := by
  obtain ⟨b, t, hptr⟩ := motionBeacon_ptr c s
  rw [pictureMotion_eq]
  exact relisted_tallyOk h (motionBeacon_relisted c s) (by rw [hptr]) (by simp) (motionEvent_relisted c _)

theorem pictureRecord_tallyOk (c : Chan) (r : BRec) : (pictureRecord c r s).tallyOk = true := by
  have hptr : (recordBeaconed c r s).ptr.motion = s.ptr.motion := by
    obtain ⟨b, hptr⟩ := recordBeacon_ptr c (channelInterval (s.chan c).recNew (s.chan c).recOld) r s
    rw [recordBeaconed, hptr]
  rw [pictureRecord_eq]
  exact relisted_tallyOk h (recordBeaconed_relisted c r s) hptr (by simp [recordBeaconed]) (recordEvent_relisted c r _)

theorem holdTimerExpiry_tallyOk (c : Chan) : (holdTimerExpiry c s).tallyOk = true :=
  relisted_tallyOk h (sendHold_relisted _ s) (by simp [sendHold_ptr]) (by simp) (holdLocal_relisted _ _ _)

/-- An operation that leaves the reference, and adds nothing to an empty tally set. -/
theorem tallyOk_of_ptr {u : State} (hp : u.ptr = s.ptr) (ht : s.cou.tally = [] → u.cou.tally = []) : u.tallyOk = true :=
  tallyOk_congr h (by rw [hp]) (by rw [hp]) (by rw [hp]) ht

/-- A PUNCH frame adds to the set while the reference runs FORWARD alone (R140). -/
theorem applyPunch_tallyOk (n : BitVec 5) (edge : BitVec 1) (p : PunchArgs) : (applyPunch n edge p s).tallyOk = true := by
  obtain ⟨-, hmoves⟩ := (tallyOk_iff s).1 h
  by_cases hm : s.ptr.motion = .forward
  · have hptr : (applyPunch n edge p s).ptr = s.ptr := by simp
    exact (tallyOk_iff _).2 (by rw [hptr]; exact ⟨.inr hm, hmoves⟩)
  · refine tallyOk_of_ptr h (by simp) fun hnil => ?_
    unfold applyPunch
    split
    · unfold tallyIn
      split
      · exact hnil
      · rw [if_neg fun hin => hm hin.1]
        exact hnil
    · simp [tallyOut, hnil]

end

theorem tallyOk_channel : ChannelInvariant False fun s => s.tallyOk = true where
  chan c ch h := tallyOk_of_ptr h (by simp) (by simp)
  pins f h := tallyOk_of_ptr h rfl id
  fault i h := tallyOk_of_ptr h (by simp) (by simp)
  motion c h := by
    unfold deliverMotion
    split
    · exact h
    · exact pictureMotion_tallyOk h c
    · exact tallyOk_of_ptr h (by simp) (by simp)
  record c r h _ _ := by
    unfold deliverRecord
    split
    · exact h
    · exact pictureRecord_tallyOk h c r
    · exact tallyOk_of_ptr h (by simp) (by simp)

/-! ## The tally over every operation -/

theorem tallyOk_same {s u : State} (hsame : SameCore s u) (h : s.tallyOk = true) : u.tallyOk = true := by
  obtain ⟨-, -, -, -, -, hptr, -, -, -, -, hcou⟩ := hsame
  exact tallyOk_of_ptr h hptr fun hnil => by rw [hcou, hnil]

theorem reset_tallyOk {s : State} (h : SameCore (resetBlocks s) s) : s.tallyOk = true := by
  obtain ⟨-, -, -, -, -, hptr, -, -, -, -, hcou⟩ := h
  rw [tallyOk_iff, hptr, hcou]
  exact ⟨.inl rfl, .inl rfl, nofun⟩

theorem startPart_tallyOk {s : State} (h : s.tallyOk = true) : (startPart s).tallyOk = true := by
  have hready : s.atTracker.tallyOk = true := tallyOk_of_ptr h (by simp) (by simp [State.atTracker])
  rw [startPart_stages]
  exact tallyOk_of_ptr (startTracker_tallyOk hready) (by simp) (by simp)

/-- Every operation keeps the tally's rule. -/
theorem act_tallyOk {s u : State} (hact : Act s u) (h : s.tallyOk = true) : u.tallyOk = true := by
  cases hact with
  | idle => exact h
  | written hl g => exact tallyOk_of_ptr h rfl id
  | cleared _ hreset => exact reset_tallyOk hreset
  | started hl => exact startPart_tallyOk h
  | restarted v hreset => exact startPart_tallyOk (reset_tallyOk hreset)
  | beacon n p t hl hn => exact applyBeacon_tallyOk h n p t
  | body n b => exact tallyOk_of_ptr h (by simp) (by simp)
  | order n op p => exact tallyOk_of_ptr h (by simp) (orderOf_tally n op p s)
  | punch n edge p => exact applyPunch_tallyOk h n edge p
  | duplicate hl => exact tallyOk_of_ptr h (by simp) fun _ => enterDuplicate_tally s
  | joined =>
    have hr : ∀ v : State, (trackerActive v).ptr.motion = v.ptr.motion := fun v => by
      unfold trackerActive
      (repeat' split) <;> simp [sendHold_ptr]
    unfold joinExpiry
    cases hg : decide (s.clp.line = .joining) && expired s.timebase s.clp.joinTimer
    · exact h
    · obtain ⟨hs, hc, -⟩ := trackerActive_relisted (statusChange (s.modClp fun c => { c with line := .active, joinTimer := none }))
      exact tallyOk_congr h (hs.trans (by simp)) (hc.trans (by simp)) ((hr _).trans (by simp)) (by simp [guarded])
  | tach c line level => exact tallyOk_channel.tachChange c line level h
  | index c level => exact tallyOk_channel.indexChange c level h nofun
  | stall c => exact tallyOk_channel.stallChannel c h
  | aged n => exact choose_tallyOk h _ rfl rfl
  | held c => exact holdTimerExpiry_tallyOk h c
  | fired d _ => exact tallyOk_of_ptr h (by simp) (by simp)
  | closed => exact tallyOk_of_ptr h rfl id

/-- Settles O23: every step is one operation, and each keeps both. -/
theorem referenceFollowsThePreferredSource : Obligations.ReferenceFollowsThePreferredSource := by
  unfold Obligations.ReferenceFollowsThePreferredSource
  intro s u h
  exact ⟨(step_acts s u h).keeps sourcesOk_same act_sourcesOk, (step_acts s u h).keeps tallyOk_same act_tallyOk⟩

end Sys2Proof.Machine
end

section
/-! SUPPORT. The books of the cues: what a punch line and a cue light count, and the rules of runs and listed elements, as one change of
an entry keeps them. -/

namespace Sys2Proof.Machine
open Sys2Proof

/-! ## Counts over the table -/

/-- What an entry counts, while it runs. -/
def countOf (o : Option CueEntry) (p : CueEntry → Bool) : Nat := (o.any fun e => decide (e.run.state = .running) && p e).toNat

/-- The cue holds a punch open on the channel. -/
def holdsPunch (g : Settings) (c : Chan) (e : CueEntry) : Bool := e.run.punchOpen && decide (g.recorder e.cue.group = some c)

/-- The cue holds the light of the position open. -/
def holdsLight (p : Nat) (e : CueEntry) : Bool := e.run.lightOpen && e.cue.mask.getLsbD p

def State.openCount (s : State) (c : Chan) : Nat := s.runningCount (holdsPunch s.settings c)

def State.litCount (s : State) (p : Nat) : Nat := s.runningCount (holdsLight p)

theorem runningCount_eq (s : State) (p : CueEntry → Bool) :
    s.runningCount p = s.ctb.entries.countP fun o => o.any fun e => decide (e.run.state = .running) && p e := by
  unfold State.runningCount
  rw [List.countP_filterMap]
  exact List.countP_congr fun o _ => by cases o <;> simp

section
variable {s u : State} {i : Nat} {o : Option CueEntry}

theorem entry_eq_getElem (h : i < s.ctb.entries.length) : s.entry i = s.ctb.entries[i] := by
  simp [State.entry, List.getD_eq_getElem?_getD, h]

theorem lt_of_entry {e : CueEntry} (h : s.entry i = some e) : i < s.ctb.entries.length := by
  by_contra hle
  rw [entry_none_of_le i s (by omega)] at h
  cases h

/-- The entries after one is set. -/
theorem entry_set (he : u.ctb.entries = s.ctb.entries.set i o) (hi : i < s.ctb.entries.length) (j : Nat) :
    u.entry j = if j = i then o else s.entry j := by
  rw [← setEntry_entry i j o s hi]
  simp [State.entry, he]

/-- Setting an entry changes a count by what the entry counts. -/
theorem runningCount_set (he : u.ctb.entries = s.ctb.entries.set i o) (hi : i < s.ctb.entries.length) (p : CueEntry → Bool) :
    u.runningCount p = s.runningCount p - countOf (s.entry i) p + countOf o p := by
  have hnat : ∀ b : Bool, (if b = true then 1 else 0) = b.toNat := fun b => by cases b <;> rfl
  rw [runningCount_eq, runningCount_eq, he, List.countP_set hi, hnat, hnat, ← entry_eq_getElem hi]
  rfl

theorem entry_mem {j : Nat} {e : CueEntry} (h : s.entry j = some e) : some e ∈ s.ctb.entries := by
  rw [← h, entry_eq_getElem (lt_of_entry h)]
  exact List.getElem_mem _

theorem mem_entry {e : CueEntry} (h : some e ∈ s.ctb.entries) : ∃ j, s.entry j = some e := by
  obtain ⟨j, hj, he⟩ := List.mem_iff_getElem.1 h
  exact ⟨j, (entry_eq_getElem hj).trans he⟩

theorem anyRunning_iff (s : State) : s.anyRunning = true ↔ ∃ j e, s.entry j = some e ∧ e.run.state = .running := by
  constructor
  · intro h
    obtain ⟨o, ho, hr⟩ := List.any_eq_true.1 h
    cases o with
    | none => cases hr
    | some e =>
      obtain ⟨j, hj⟩ := mem_entry ho
      exact ⟨j, e, hj, by simpa using hr⟩
  · rintro ⟨j, e, he, hr⟩
    by_contra hn
    exact calm_entry (by simpa using hn) he hr

/-- A part in which nothing runs counts nothing. -/
theorem runningCount_calm (h : s.anyRunning = false) (p : CueEntry → Bool) : s.runningCount p = 0 := by
  rw [runningCount_eq, List.countP_eq_zero]
  intro o ho
  cases o with
  | none => simp
  | some e =>
    obtain ⟨j, hj⟩ := mem_entry ho
    simp [calm_entry h hj]

end

theorem quiet_iff (s : State) : s.quiet = true ↔ s.anyRunning = false ∧ s.csh.due = [] := by simp [State.quiet]

/-! ## The outputs (R131, R136) -/

/-- The punch lines count `w`, the cue holdsLight `l`. -/
def Held (s : State) (w : Chan → Nat) (l : Nat → Nat) : Prop := (∀ c, s.cou.punch c = w c) ∧ s.cou.holds = s.settings.served.map l

section
variable {s u : State} {w : Chan → Nat} {l : Nat → Nat}

theorem Held.congr (h : Held s w l) {w' : Chan → Nat} {l' : Nat → Nat} (hw : ∀ c, w c = w' c) (hl : ∀ p, l p = l' p) : Held s w' l' :=
  ⟨fun c => (h.1 c).trans (hw c), h.2.trans (List.map_congr_left fun p _ => hl p)⟩

theorem Held.same (h : Held s w l) (hp : ∀ c, u.cou.punch c = s.cou.punch c) (hh : u.cou.holds = s.cou.holds)
    (hs : u.settings = s.settings) : Held u w l := ⟨fun c => (hp c).trans (h.1 c), by rw [hh, hs, h.2]⟩

theorem setPunch_punch (k : Cou) (c d : Chan) (n : Nat) : (k.setPunch c n).punch d = if d = c then n else k.punch d := by
  cases c <;> cases d <;> rfl

@[simp] theorem setPunch_kept (k : Cou) (c : Chan) (n : Nat) : (k.setPunch c n).holds = k.holds ∧ (k.setPunch c n).released = k.released := by
  cases c <;> exact ⟨rfl, rfl⟩

theorem Held.openPunch (h : Held s w l) (hr : s.cou.released = false) (c : Chan) (d : CueDef) (q : Option Int) :
    Held (openPunch c d q s) (fun x => if x = c then w x + 1 else w x) l := by
  have hcou : (Machine.openPunch c d q s).cou = s.cou.setPunch c (s.cou.punch c + 1) := by simp [Machine.openPunch, hr, State.modCou]
  refine ⟨fun x => ?_, by simp [hcou, h.2]⟩
  rw [hcou, setPunch_punch, h.1 x, h.1 c]
  by_cases hx : x = c <;> simp [hx]

theorem Held.closePunch (h : Held s w l) (c : Chan) (d : CueDef) (r : BitVec 2) (q : Option Int) :
    Held (closePunch c d r q s) (fun x => if x = c then w x - 1 else w x) l := by
  by_cases hz : s.cou.punch c = 0
  · have hid : Machine.closePunch c d r q s = s := by rw [Machine.closePunch, if_pos hz]
    rw [hid]
    refine h.congr (fun x => ?_) fun _ => rfl
    split
    · next hx => have := h.1 x; rw [hx, hz] at this; rw [hx, ← this]
    · rfl
  · have hcou : (Machine.closePunch c d r q s).cou = s.cou.setPunch c (s.cou.punch c - 1) := by
      simp [Machine.closePunch, hz, State.modCou]
    refine ⟨fun x => ?_, by simp [hcou, h.2]⟩
    rw [hcou, setPunch_punch, h.1 x, h.1 c]
    by_cases hx : x = c <;> simp [hx]

theorem Held.closeCuePunch (h : Held s w l) (d : CueDef) (r : BitVec 2) (q : Option Int) :
    Held (closeCuePunch d r q s) (fun c => w c - (decide (s.settings.recorder d.group = some c)).toNat) l := by
  unfold Machine.closeCuePunch
  split
  · next c hc =>
    refine (h.closePunch c d r q).congr (fun x => ?_) fun _ => rfl
    rw [hc]
    by_cases hx : x = c
    · simp [hx]
    · simp [hx, Ne.symm hx]
  · next hc => exact h.congr (fun x => by simp [hc]) fun _ => rfl

/-- Changing the holds of a mask's positions. -/
theorem Held.modHolds (h : Held s w l) (mask : BitVec 16) (f : Nat → Nat) :
    Held (modHolds mask f s) w (fun p => if mask.getLsbD p then f (l p) else l p) := by
  refine ⟨h.1, ?_⟩
  change List.zipWith _ s.settings.served s.cou.holds = _
  rw [h.2, List.zipWith_map_right, List.zipWith_self]
  rfl

theorem Held.releaseLight (h : Held s w l) (mask : BitVec 16) :
    Held (releaseLight mask s) w (fun p => l p - (mask.getLsbD p).toNat) :=
  (h.modHolds mask (· - 1)).congr (fun _ => rfl) fun p => by cases mask.getLsbD p <;> rfl

theorem Held.openLight (h : Held s w l) (hr : s.cou.released = false) (mask : BitVec 16) :
    Held (openLight mask s) w (fun p => l p + (mask.getLsbD p).toNat) := by
  have heq : Machine.openLight mask s = Machine.modHolds mask (· + 1) s := by simp [Machine.openLight, hr]
  rw [heq]
  exact (h.modHolds mask (· + 1)).congr (fun _ => rfl) fun p => by cases mask.getLsbD p <;> rfl

end

/-! ## Outputs are released by the duplicate notice alone (R143) -/

section
variable (s : State)

@[simp] theorem openPunch_released (c : Chan) (d : CueDef) (q : Option Int) : (openPunch c d q s).cou.released = s.cou.released := by
  unfold openPunch
  split <;> simp

@[simp] theorem closePunch_released (c : Chan) (d : CueDef) (r : BitVec 2) (q : Option Int) :
    (closePunch c d r q s).cou.released = s.cou.released := by
  unfold closePunch
  split <;> simp

@[simp] theorem closeCuePunch_released (d : CueDef) (r : BitVec 2) (q : Option Int) :
    (closeCuePunch d r q s).cou.released = s.cou.released := by
  unfold closeCuePunch
  split <;> simp

@[simp] theorem releaseLight_released (m : BitVec 16) : (releaseLight m s).cou.released = s.cou.released := rfl

@[simp] theorem openLight_released (m : BitVec 16) : (openLight m s).cou.released = s.cou.released := by
  unfold openLight
  split <;> rfl

@[simp] theorem beep_outputs : (beep s).cou.released = s.cou.released ∧ (beep s).cou.holds = s.cou.holds ∧
    ∀ c, (beep s).cou.punch c = s.cou.punch c := by
  unfold beep
  split
  · exact ⟨rfl, rfl, fun c => rfl⟩
  · exact ⟨rfl, rfl, fun c => by cases c <;> rfl⟩

end

/-! ## The books -/

/-- The element is a pending one of the entry, at its own position (R103, R104). -/
def ListedIn (g : Settings) (o : Option CueEntry) (d : Due) : Prop :=
  ∃ e, o = some e ∧ pendingElement g e d.element = true ∧ d.pos = elementPos g e.cue d.element

/-- The rules of runs, of listed elements and of the counts. The positions listed satisfy `Q`; the locks named by `L` are the ones that
hold punches in RECORD and SYNC alone; and where `R` holds a cue runs in a playable reference alone. -/
structure Books (Q : Int → Prop) (L : Chan → Prop) (R : Prop) (s : State) : Prop where
  size : s.ctb.entries.length = Config.cueCount
  halt : s.cou.released = s.csh.halted
  still : s.quiet = true ∨ s.clp.line ≠ .config ∧ s.csh.halted = false
  runs : ∀ i e, s.entry i = some e → e.run.ok = true
  listed : ∀ d ∈ s.csh.due, Q d.pos ∧ ListedIn s.settings (s.entry d.entry) d
  plays : R → s.anyRunning = true → s.ptr.playable = true
  locked : ∀ c, L c → s.openCount c = 0 ∨ s.csh.mode = .record ∧ (s.lock c).state = .sync
  held : Held s s.openCount s.litCount

/-- All that the books look at, but for the entries, the due list and the counts. -/
def SameScene (s u : State) : Prop :=
  u.settings = s.settings ∧ u.clp.line = s.clp.line ∧ u.ptr.playable = s.ptr.playable ∧ u.csh.halted = s.csh.halted ∧
  u.csh.mode = s.csh.mode ∧ u.cou.released = s.cou.released ∧ u.lockA.state = s.lockA.state ∧ u.lockB.state = s.lockB.state

theorem SameScene.lock {s u : State} (h : SameScene s u) (c : Chan) : (u.lock c).state = (s.lock c).state := by
  obtain ⟨-, -, -, -, -, -, ha, hb⟩ := h
  cases c
  · exact ha
  · exact hb

section
variable {Q : Int → Prop} {L : Chan → Prop} {R : Prop} {s u : State}

/-- Elements that leave the due list, and locks and a mode that change: the books but for what they ask of the locks. -/
theorem Books.shrink (h : Books Q L R s) (hset : u.settings = s.settings) (hline : u.clp.line = s.clp.line)
    (hplay : u.ptr.playable = s.ptr.playable) (hhalt : u.csh.halted = s.csh.halted) (hrel : u.cou.released = s.cou.released)
    (he : u.ctb.entries = s.ctb.entries) (hd : ∀ d ∈ u.csh.due, d ∈ s.csh.due) (hp : ∀ c, u.cou.punch c = s.cou.punch c)
    (hh : u.cou.holds = s.cou.holds) : Books Q (fun _ => False) R u ∧ ∀ c, u.openCount c = s.openCount c := by
  have hentry : ∀ j, u.entry j = s.entry j := fun j => by simp [State.entry, he]
  have hrun : u.anyRunning = s.anyRunning := by simp [State.anyRunning, he]
  have hopen : ∀ c, u.openCount c = s.openCount c := fun c => by simp [State.openCount, State.runningCount, he, hset]
  have hlit : ∀ p, u.litCount p = s.litCount p := fun p => by simp [State.litCount, State.runningCount, he]
  refine ⟨⟨by rw [he, h.size], by rw [hrel, hhalt, h.halt], ?_, ?_, ?_, ?_, nofun, ?_⟩, hopen⟩
  · rw [hline, hhalt]
    refine h.still.imp_left fun hq => ?_
    obtain ⟨hcalm, hnil⟩ := (quiet_iff s).1 hq
    refine (quiet_iff u).2 ⟨hrun.trans hcalm, List.eq_nil_iff_forall_not_mem.2 fun d hmem => ?_⟩
    have := hd d hmem
    simp [hnil] at this
  · intro i e hi
    exact h.runs i e (by rwa [← hentry])
  · intro d hmem
    rw [hset, hentry]
    exact h.listed d (hd d hmem)
  · rw [hrun, hplay]
    exact h.plays
  · exact (h.held.same hp hh hset).congr (fun c => (hopen c).symm) fun p => (hlit p).symm

/-- The books look at the scene, the entries, the due list and the counts alone. -/
theorem Books.congr (h : Books Q L R s) (hscene : SameScene s u) (he : u.ctb.entries = s.ctb.entries)
    (hd : ∀ d ∈ u.csh.due, d ∈ s.csh.due) (hp : ∀ c, u.cou.punch c = s.cou.punch c) (hh : u.cou.holds = s.cou.holds) :
    Books Q L R u := by
  obtain ⟨hset, hline, hplay, hhalt, hmode, hrel, -⟩ := id hscene
  obtain ⟨hbooks, hopen⟩ := h.shrink hset hline hplay hhalt hrel he hd hp hh
  exact { hbooks with
    locked := fun c hc => by
      rw [hopen, hmode, hscene.lock c]
      exact h.locked c hc }

theorem Books.mono {Q' : Int → Prop} {L' : Chan → Prop} {R' : Prop} (h : Books Q L R s) (hq : ∀ d ∈ s.csh.due, Q d.pos → Q' d.pos)
    (hl : ∀ c, L' c → L c) (hr : R' → R) : Books Q' L' R' s :=
  { h with
    listed := fun d hd => ⟨hq d hd (h.listed d hd).1, (h.listed d hd).2⟩
    plays := fun hr' => h.plays (hr hr')
    locked := fun c hc => h.locked c (hl c hc) }

/-- In a part in which nothing runs and nothing is listed, the books are the sizes, the run parts at rest and counts of 0. -/
theorem Books.of_quiet (hq : s.quiet = true) (hsize : s.ctb.entries.length = Config.cueCount) (hhalt : s.cou.released = s.csh.halted)
    (hruns : ∀ i e, s.entry i = some e → e.run.ok = true) (hheld : Held s (fun _ => 0) fun _ => 0) : Books Q L R s := by
  obtain ⟨hcalm, hdue⟩ := (quiet_iff s).1 hq
  have hzero : ∀ p, s.runningCount p = 0 := runningCount_calm hcalm
  exact
    { size := hsize
      halt := hhalt
      still := .inl hq
      runs := hruns
      listed := by simp [hdue]
      plays := by simp [hcalm]
      locked := fun c _ => .inl (hzero _)
      held := hheld.congr (fun c => (hzero _).symm) fun p => (hzero _).symm }

/-- What the books ask of a new value of an entry. -/
structure Turn (s : State) (old new : Option CueEntry) : Prop where
  ok : ∀ e, new = some e → e.run.ok = true
  run : ∀ e, new = some e → e.run.state = .running →
    (∃ e', old = some e' ∧ e'.run.state = .running) ∨ s.ptr.playable = true ∧ s.clp.line ≠ .config ∧ s.csh.halted = false
  opens : ∀ c, countOf new (holdsPunch s.settings c) ≤ countOf old (holdsPunch s.settings c) ∨
    s.csh.mode = .record ∧ (s.lock c).state = .sync

/-- One entry takes a new value, elements leave the due list, and the counts follow. -/
theorem Books.turn (h : Books Q L R s) {i : Nat} {o : Option CueEntry} (hi : i < s.ctb.entries.length) (hscene : SameScene s u)
    (he : u.ctb.entries = s.ctb.entries.set i o)
    (hdue : ∀ d ∈ u.csh.due, d ∈ s.csh.due ∧ (d.entry = i → ListedIn s.settings o d)) (ho : Turn s (s.entry i) o)
    (hheld : Held u (fun c => s.openCount c - countOf (s.entry i) (holdsPunch s.settings c) + countOf o (holdsPunch s.settings c))
      fun p => s.litCount p - countOf (s.entry i) (holdsLight p) + countOf o (holdsLight p)) : Books Q L R u := by
  obtain ⟨hset, hline, hplay, hhalt, hmode, hrel, -⟩ := id hscene
  have hentry := entry_set he hi
  have hopen : ∀ c, u.openCount c = s.openCount c - countOf (s.entry i) (holdsPunch s.settings c) + countOf o (holdsPunch s.settings c) :=
    fun c => by rw [State.openCount, hset, runningCount_set he hi]; rfl
  have hruns : u.anyRunning = true →
      s.anyRunning = true ∨ s.ptr.playable = true ∧ s.clp.line ≠ .config ∧ s.csh.halted = false := by
    intro hr
    obtain ⟨j, e, hj, hrun⟩ := (anyRunning_iff u).1 hr
    rw [hentry] at hj
    split at hj
    · refine (ho.run e hj hrun).imp_left fun ⟨e', he', hrun'⟩ => (anyRunning_iff s).2 ⟨i, e', he', hrun'⟩
    · exact .inl ((anyRunning_iff s).2 ⟨j, e, hj, hrun⟩)
  refine ⟨by rw [he, List.length_set, h.size], by rw [hrel, hhalt, h.halt], ?_, ?_, ?_, ?_, ?_, ?_⟩
  · rw [hline, hhalt]
    by_cases hr : u.anyRunning = true
    · rcases hruns hr with hr | ⟨-, hrest⟩
      · exact .inr (h.still.resolve_left fun hq => by simp [((quiet_iff s).1 hq).1] at hr)
      · exact .inr hrest
    · refine h.still.imp_left fun hq => (quiet_iff u).2 ⟨by simpa using hr, ?_⟩
      rw [List.eq_nil_iff_forall_not_mem]
      intro d hd
      have := (hdue d hd).1
      simp [((quiet_iff s).1 hq).2] at this
  · intro j e hj
    rw [hentry] at hj
    split at hj
    · exact ho.ok e hj
    · exact h.runs j e hj
  · intro d hd
    obtain ⟨hmem, hown⟩ := hdue d hd
    obtain ⟨hq, hlisted⟩ := h.listed d hmem
    refine ⟨hq, ?_⟩
    rw [hset, hentry]
    split
    · next heq => exact hown heq
    · exact hlisted
  · intro hR hr
    rw [hplay]
    exact (hruns hr).elim (h.plays hR) fun hp => hp.1
  · intro c hc
    rw [hmode, hscene.lock c, hopen]
    rcases ho.opens c with hle | hsync
    · refine (h.locked c hc).imp_left fun hz => ?_
      have hnone : countOf (s.entry i) (holdsPunch s.settings c) = 0 := by
        have hcount := runningCount_set (s := s) (u := s) (o := s.entry i) (i := i)
          (by rw [entry_eq_getElem hi, List.set_getElem_self]) hi (holdsPunch s.settings c)
        rw [← State.openCount, hz] at hcount
        omega
      omega
    · exact .inr hsync
  · exact hheld.congr (fun c => (hopen c).symm) fun p => (runningCount_set he hi (holdsLight p)).symm

end

end Sys2Proof.Machine
end

section
/-! SUPPORT. The books over the operations on one entry: re-derivation, arming, the end of a run, notices, and firing. -/

namespace Sys2Proof.Machine
open Sys2Proof

section
variable {Q : Int → Prop} {L : Chan → Prop} {R : Prop} {s u : State} {i : Nat} {e : CueEntry}

theorem countOf_rest {o : Option CueEntry} (h : ∀ e, o = some e → e.run.state ≠ .running) (p : CueEntry → Bool) : countOf o p = 0 := by
  cases o with
  | none => rfl
  | some e => simp [countOf, h e rfl]

theorem countOf_running (h : e.run.state = .running) (p : CueEntry → Bool) : countOf (some e) p = (p e).toNat := by
  simp [countOf, h]

/-- An element is listed of an ARMED or RUNNING entry alone. -/
theorem Books.not_listed (h : Books Q L R s) (he : s.entry i = some e) (ha : e.run.state ≠ .armed) (hr : e.run.state ≠ .running)
    {d : Due} (hd : d ∈ s.csh.due) : d.entry ≠ i := by
  rintro rfl
  obtain ⟨-, e', he', hpending, -⟩ := h.listed d hd
  rw [he] at he'
  cases he'
  simp [pendingElement, ha, hr] at hpending

/-- An entry at rest takes another value at rest, and none of its elements stays listed. -/
theorem Books.rest {o : Option CueEntry} (h : Books Q L R s) (hi : i < s.ctb.entries.length) (hscene : SameScene s u)
    (hentries : u.ctb.entries = s.ctb.entries.set i o) (hdue : ∀ d ∈ u.csh.due, d ∈ s.csh.due ∧ d.entry ≠ i)
    (hcou : u.cou = s.cou) (hold : ∀ e, s.entry i = some e → e.run.state ≠ .running)
    (hnew : ∀ e, o = some e → e.run.state ≠ .running ∧ e.run.ok = true) : Books Q L R u := by
  have hzero := countOf_rest hold
  have hzero' := countOf_rest fun e he => (hnew e he).1
  refine h.turn hi hscene hentries (fun d hd => ⟨(hdue d hd).1, fun heq => absurd heq (hdue d hd).2⟩) ?_ ?_
  · exact ⟨fun e he => (hnew e he).2, fun e he hr => absurd hr (hnew e he).1, fun c => .inl (by rw [hzero, hzero'])⟩
  · refine (h.held.same (fun c => by rw [hcou]) (by rw [hcou]) hscene.1).congr (fun c => ?_) fun p => ?_
    all_goals rw [hzero, hzero']; rfl

theorem mem_unlistEntry {d : Due} (h : d ∈ (unlistEntry i s).csh.due) : d ∈ s.csh.due ∧ d.entry ≠ i := by
  simpa [unlistEntry] using h

theorem modRun_entries (he : s.entry i = some e) (f : RunPart → RunPart) :
    (modRun i f s).ctb.entries = s.ctb.entries.set i (some { e with run := f e.run }) := by simp [modRun, he]

/-- The run part of an entry at rest changes, still at rest, and none of its elements stays listed. -/
theorem Books.modRun_rest (h : Books Q L R s) (he : s.entry i = some e) (hr : e.run.state ≠ .running) (f : RunPart → RunPart)
    (hf : (f e.run).state ≠ .running) (hok : (f e.run).ok = true) (hl : e.run.state ≠ .armed) : Books Q L R (modRun i f s) := by
  refine h.rest (lt_of_entry he) (by simp [SameScene]) (modRun_entries he f) (fun d hd => ?_) (by simp) ?_ ?_
  · have hd : d ∈ s.csh.due := by simpa using hd
    exact ⟨hd, h.not_listed he hl hr hd⟩
  · rw [he]; rintro _ ⟨⟩; exact hr
  · rintro _ ⟨⟩; exact ⟨hf, hok⟩

theorem Books.modRun_unlisted (h : Books Q L R s) (he : s.entry i = some e) (hr : e.run.state ≠ .running) (f : RunPart → RunPart)
    (hf : (f e.run).state ≠ .running) (hok : (f e.run).ok = true) : Books Q L R (unlistEntry i (modRun i f s)) := by
  refine h.rest (lt_of_entry he) (by simp [SameScene, unlistEntry]) (modRun_entries he f) (fun d hd => ?_) (by simp) ?_ ?_
  · simpa using mem_unlistEntry hd
  · rw [he]; rintro _ ⟨⟩; exact hr
  · rintro _ ⟨⟩; exact ⟨hf, hok⟩

/-! ## Re-derivation and arming (R105, R106, R110, R115) -/

theorem ok_of_fired_zero {r : RunPart} (hf : r.fired = 0) (hr : r.state ≠ .running) : r.ok = true := by simp [RunPart.ok, hf, hr]

theorem ok_of_rest {r : RunPart} (ha : r.state ≠ .armed) (hr : r.state ≠ .running) : r.ok = true := by simp [RunPart.ok, ha, hr]

theorem Books.rederive (h : Books Q L R s) (q : Option Int) (i : Nat) : Books Q L R (rederive q i s) := by
  unfold Machine.rederive
  split
  · next e he =>
    split
    · next hp => exact h.modRun_rest he (by simp [hp.1]) _ nofun (ok_of_fired_zero rfl nofun) (by simp [hp.1])
    split
    · next ha => exact h.modRun_unlisted he (by simp [ha.1]) _ nofun (ok_of_rest nofun nofun)
    · exact h
  · exact h

theorem Books.rederiveAll (h : Books Q L R s) (q : Option Int) : Books Q L R (rederiveAll q s) :=
  forIndexes_invariant (Books Q L R) _ _ (fun i _ hv => hv.rederive q i) s h

theorem Books.armEntry (h : Books Q L R s) (q : Option Int) (i : Nat) : Books Q L R (armEntry q i s) := by
  unfold Machine.armEntry
  split
  · next e he =>
    split
    · next hidle =>
      have hstate : (if ahead q e.cue = true then RunState.armed else .passed) ≠ .running := by split <;> decide
      exact h.modRun_rest he (by simp [hidle]) _ hstate (ok_of_fired_zero rfl hstate) (by simp [hidle])
    · exact h
  · exact h

theorem Books.crossEntry (h : Books Q L R s) (b : Int) (i : Nat) : Books Q L R (crossEntry b i s) := by
  unfold Machine.crossEntry
  split
  · next e he =>
    split
    · next ha => exact h.modRun_unlisted he (by simp [ha.1]) _ nofun (ok_of_rest nofun nofun)
    · exact h
  · exact h

theorem Books.goBack (h : Books Q L R s) (b : Int) (i : Nat) : Books Q L R (goBack b i s) := by
  unfold Machine.goBack
  split
  · next e he =>
    split
    · next hp => exact h.modRun_rest he (by simp [hp.1]) _ nofun (ok_of_fired_zero rfl nofun) (by simp [hp.1])
    · exact h
  · exact h

/-! ## The cue table (R87 to R92, R96) -/

/-- An entry that is not RUNNING is emptied. -/
theorem Books.emptyEntry (h : Books Q L R s) (hi : i < s.ctb.entries.length) (hr : ∀ e, s.entry i = some e → e.run.state ≠ .running) :
    Books Q L R (emptyEntry i s) := by
  refine h.rest (o := none) hi (by simp [SameScene, Machine.emptyEntry, unlistEntry]) (by simp [Machine.emptyEntry])
    (fun d hd => ?_) (by simp) hr (fun _ hn => nomatch hn)
  have hd : d ∈ (unlistEntry i s).csh.due := hd
  exact mem_unlistEntry hd

/-- A cue enters an entry that is EMPTY or IDLE (R91, R92). -/
theorem Books.enterCue (h : Books Q L R s) (hi : i < s.ctb.entries.length) (d : CueDef)
    (hidle : ∀ e, s.entry i = some e → e.run.state = .idle) : Books Q L R (enterCue i d s) := by
  refine h.rest hi (by simp [SameScene, Machine.enterCue]) (setEntry_entries ..) (fun x hx => ?_) (by simp [Machine.enterCue])
    (fun e he => by simp [hidle e he]) ?_
  · have hx : x ∈ s.csh.due := by simpa [Machine.enterCue] using hx
    refine ⟨hx, fun heq => ?_⟩
    obtain ⟨-, e, he, -⟩ := h.listed x hx
    rw [heq] at he
    exact h.not_listed he (by simp [hidle e he]) (by simp [hidle e he]) hx heq
  · rintro _ ⟨⟩
    exact ⟨nofun, ok_of_fired_zero rfl nofun⟩

/-- A definition replaces that of an entry that is not RUNNING, and its elements leave the list (R90). -/
theorem Books.updateEntry (h : Books Q L R s) (he : s.entry i = some e) (hr : e.run.state ≠ .running) (d : CueDef) :
    Books Q L R (updateEntry i d s) := by
  have hset : Books Q L R (unlistEntry i (setEntry i ((s.entry i).map fun e => { e with cue := d }) s)) := by
    refine h.rest (lt_of_entry he) (by simp [SameScene, unlistEntry]) rfl (fun x hx => ?_) (by simp) ?_ ?_
    · simpa using mem_unlistEntry hx
    · rw [he]; rintro _ ⟨⟩; exact hr
    · rw [he]; rintro _ ⟨⟩; exact ⟨hr, h.runs i e he⟩
  have hentry : (unlistEntry i (setEntry i ((s.entry i).map fun e => { e with cue := d }) s)).entry i = some { e with cue := d } := by
    refine (setEntry_entry i i _ s (lt_of_entry he)).trans ?_
    rw [if_pos rfl, he]; rfl
  have hmod : ∀ f : RunPart → RunPart, (f e.run).state ≠ .running → (f e.run).ok = true →
      Books Q L R (modRun i f (unlistEntry i (setEntry i ((s.entry i).map fun e => { e with cue := d }) s))) := by
    intro f hf hok
    refine hset.rest (lt_of_entry hentry) (by simp [SameScene]) (modRun_entries hentry f) (fun x hx => ?_) (by simp) ?_ ?_
    · change x ∈ (unlistEntry i _).csh.due at hx
      exact ⟨hx, (mem_unlistEntry hx).2⟩
    · rw [hentry]; rintro _ ⟨⟩; exact hr
    · rintro _ ⟨⟩; exact ⟨hf, hok⟩
  unfold Machine.updateEntry
  dsimp only
  (repeat' split)
  · exact hmod _ nofun (ok_of_fired_zero rfl nofun)
  · exact hmod _ nofun (ok_of_rest nofun nofun)
  · exact hset

/-! ## The end of a run, and the notices (R123, R125, R135) -/

/-- The counts of a state whose entry holds open what its flags say. -/
theorem countOf_punch (hr : e.run.state = .running) (g : Settings) (c : Chan) :
    countOf (some e) (holdsPunch g c) = (e.run.punchOpen && decide (g.recorder e.cue.group = some c)).toNat := countOf_running hr _

theorem countOf_light (hr : e.run.state = .running) (p : Nat) :
    countOf (some e) (holdsLight p) = (e.run.lightOpen && e.cue.mask.getLsbD p).toNat := countOf_running hr _

/-- A RUNNING cue's open punch closes, if there is one. -/
theorem Held.closeOpen {w : Chan → Nat} {l : Nat → Nat} (h : Held s w l) (e : CueEntry) (r : BitVec 2) (q : Option Int) :
    Held (if e.run.punchOpen then Machine.closeCuePunch e.cue r q s else s)
      (fun c => w c - (e.run.punchOpen && decide (s.settings.recorder e.cue.group = some c)).toNat) l := by
  split
  · next ho => exact (h.closeCuePunch e.cue r q).congr (fun c => by simp [ho]) fun _ => rfl
  · next ho => exact h.congr (fun c => by simp [ho]) fun _ => rfl

/-- A RUNNING cue's open light is released, if there is one. -/
theorem Held.releaseOpen {w : Chan → Nat} {l : Nat → Nat} (h : Held s w l) (e : CueEntry) :
    Held (if e.run.lightOpen then Machine.releaseLight e.cue.mask s else s) w
      (fun p => l p - (e.run.lightOpen && e.cue.mask.getLsbD p).toNat) := by
  split
  · next ho => exact (h.releaseLight e.cue.mask).congr (fun _ => rfl) fun p => by simp [ho]
  · next ho => exact h.congr (fun _ => rfl) fun p => by simp [ho]

/-- `s` with what the run of `e` still holds open released. -/
def runReleased (e : CueEntry) (r : BitVec 2) (q : Option Int) (s : State) : State :=
  let s₁ := if e.run.punchOpen then closeCuePunch e.cue r q s else s
  if e.run.lightOpen then releaseLight e.cue.mask s₁ else s₁

theorem runReleased_held {w : Chan → Nat} {l : Nat → Nat} (h : Held s w l) (e : CueEntry) (r : BitVec 2) (q : Option Int) :
    Held (runReleased e r q s) (fun c => w c - (e.run.punchOpen && decide (s.settings.recorder e.cue.group = some c)).toNat)
      (fun p => l p - (e.run.lightOpen && e.cue.mask.getLsbD p).toNat) := (h.closeOpen e r q).releaseOpen e

theorem runReleased_keeps (e : CueEntry) (r : BitVec 2) (q : Option Int) (s : State) :
    (runReleased e r q s).settings = s.settings ∧ (runReleased e r q s).clp.line = s.clp.line ∧ (runReleased e r q s).ptr = s.ptr ∧
    (runReleased e r q s).csh = s.csh ∧ (runReleased e r q s).cou.released = s.cou.released ∧ (runReleased e r q s).lockA = s.lockA ∧
    (runReleased e r q s).lockB = s.lockB ∧ (runReleased e r q s).ctb = s.ctb := by
  unfold runReleased
  dsimp only
  (repeat' split) <;> simp

/-- A run ends: what it holds is released, its elements leave the list, and its entry takes a run part at rest. -/
theorem Books.endWith (h : Books Q L R s) (he : s.entry i = some e) (hr : e.run.state = .running) (r : BitVec 2) (q : Option Int)
    (f : RunPart → RunPart) (hf : (f e.run).state ≠ .running) (hok : (f e.run).ok = true)
    (hscene : SameScene (runReleased e r q s) u) (hentries : u.ctb.entries = s.ctb.entries.set i (some { e with run := f e.run }))
    (hdue : ∀ d ∈ u.csh.due, d ∈ s.csh.due ∧ d.entry ≠ i) (hp : ∀ c, u.cou.punch c = (runReleased e r q s).cou.punch c)
    (hh : u.cou.holds = (runReleased e r q s).cou.holds) : Books Q L R u := by
  obtain ⟨hset, hline, hptr, hcsh, hrel, hA, hB, -⟩ := runReleased_keeps e r q s
  have hscene' : SameScene s u := by
    simpa [SameScene, hset, hline, hptr, hcsh, hrel, hA, hB] using hscene
  have hzero : ∀ p, countOf (some { e with run := f e.run }) p = 0 := countOf_rest (by rintro _ ⟨⟩; exact hf)
  refine h.turn (lt_of_entry he) hscene' hentries (fun d hd => ⟨(hdue d hd).1, fun heq => absurd heq (hdue d hd).2⟩) ?_ ?_
  · exact ⟨by rintro _ ⟨⟩; exact hok, by rintro _ ⟨⟩ hrun; exact absurd hrun hf, fun c => .inl (by rw [hzero]; exact Nat.zero_le _)⟩
  · refine ((runReleased_held h.held e r q).same hp hh (hscene'.1.trans hset.symm)).congr (fun c => ?_) fun p => ?_
    · rw [he, hzero, countOf_punch hr]; rfl
    · rw [he, hzero, countOf_light hr]; rfl

theorem Books.endRun (h : Books Q L R s) (t : RunState) (ht : t ≠ .running ∧ t ≠ .armed) (i : Nat) : Books Q L R (endRun t i s) := by
  unfold Machine.endRun
  dsimp only
  split
  · next e he =>
    split
    · next hr =>
      rw [← runReleased]
      obtain ⟨-, -, -, hcsh, -, -, -, hctb⟩ := runReleased_keeps e reasonAbort s.here s
      refine h.endWith he hr reasonAbort s.here (fun r =>
        { r with
          state := t
          outcome := .interrupted
          punch := if r.punchOpen then .aborted else r.punch
          punchOpen := false
          lightOpen := false }) ht.1 (ok_of_rest ht.2 ht.1)
        (by simp [SameScene, unlistEntry, dropTally]) ?_ (fun d hd => ?_) (fun c => ?_) ?_
      · have hentry : ∀ v : State, v.ctb = s.ctb → v.entry i = some e := fun v hv => by rw [← he]; simp [State.entry, hv]
        rw [modRun_entries (hentry _ (by simp [hctb]))]
        simp [hctb]
      · exact mem_unlistEntry (by simpa [unlistEntry, dropTally, hcsh] using hd)
      · simp [dropTally]; rfl
      · simp [dropTally]
    · exact h
  · exact h

/-- A RUNNING cue stays RUNNING; what it holds open, and the counts, change together. -/
theorem Books.stillRunning (h : Books Q L R s) (he : s.entry i = some e) (hr : e.run.state = .running) (f : RunPart → RunPart)
    (hf : (f e.run).state = .running) (hok : (f e.run).ok = true) (hscene : SameScene s u)
    (hentries : u.ctb.entries = s.ctb.entries.set i (some { e with run := f e.run }))
    (hdue : ∀ d ∈ u.csh.due, d ∈ s.csh.due ∧
      (d.entry = i → e.run.fired.getLsbD d.element.code = false → (f e.run).fired.getLsbD d.element.code = false))
    (hopens : (f e.run).punchOpen = true → e.run.punchOpen = true ∨
      ∀ c, s.settings.recorder e.cue.group = some c → s.csh.mode = .record ∧ (s.lock c).state = .sync)
    (hheld : Held u
      (fun c => s.openCount c - (e.run.punchOpen && decide (s.settings.recorder e.cue.group = some c)).toNat +
        ((f e.run).punchOpen && decide (s.settings.recorder e.cue.group = some c)).toNat)
      fun p => s.litCount p - (e.run.lightOpen && e.cue.mask.getLsbD p).toNat + ((f e.run).lightOpen && e.cue.mask.getLsbD p).toNat) :
    Books Q L R u := by
  have hnew : ∀ p, countOf (some { e with run := f e.run }) p = (p { e with run := f e.run }).toNat := countOf_running hf
  refine h.turn (lt_of_entry he) hscene hentries (fun d hd => ⟨(hdue d hd).1, fun heq => ?_⟩) ⟨?_, ?_, fun c => ?_⟩ ?_
  · obtain ⟨hmem, hfired⟩ := hdue d hd
    obtain ⟨-, e', he', hpending, hpos⟩ := h.listed d hmem
    rw [heq, he] at he'
    cases he'
    simp only [pendingElement, hr, Bool.and_eq_true, Bool.not_eq_true'] at hpending
    exact ⟨_, rfl, by simp [pendingElement, hf, hpending.1.2, hfired heq hpending.2], hpos⟩
  · rintro _ ⟨⟩; exact hok
  · exact fun _ _ _ => .inl ⟨e, he, hr⟩
  · rw [he, hnew, countOf_running hr, holdsPunch, holdsPunch]
    by_cases hc : s.settings.recorder e.cue.group = some c
    · cases ho : (f e.run).punchOpen
      · exact .inl (Nat.zero_le _)
      · exact (hopens ho).imp (fun hopen => by simp [hopen]) fun hsync => hsync c hc
    · exact .inl (by simp [hc])
  · rw [he]
    refine hheld.congr (fun c => ?_) fun p => ?_
    · rw [hnew, countOf_running hr]; rfl
    · rw [hnew, countOf_running hr]; rfl

/-- A RUNNING cue's run part changes in nothing the books look at. -/
theorem Books.modRun_kept (h : Books Q L R s) (he : s.entry i = some e) (hr : e.run.state = .running) (f : RunPart → RunPart)
    (hf : (f e.run).state = .running) (hp : (f e.run).punchOpen = e.run.punchOpen) (hl : (f e.run).lightOpen = e.run.lightOpen)
    (hfired : (f e.run).fired = e.run.fired) : Books Q L R (modRun i f s) := by
  have hok : (f e.run).ok = true := by
    have := h.runs i e he
    simpa [RunPart.ok, hf, hp, hl, hfired, hr] using this
  refine h.stillRunning he hr f hf hok (by simp [SameScene]) (modRun_entries he f) (fun d hd => ?_) (fun ho => .inl (hp ▸ ho)) ?_
  · exact ⟨by simpa using hd, fun _ hn => by rw [hfired, hn]⟩
  · have hcount := runningCount_set (s := s) (u := s) (o := s.entry i) (i := i)
      (by rw [entry_eq_getElem (lt_of_entry he), List.set_getElem_self]) (lt_of_entry he)
    refine (h.held.same (by simp) (by simp) (by simp)).congr (fun c => ?_) fun p => ?_
    · rw [hp, ← countOf_punch hr, ← he]
      exact hcount _
    · rw [hl, ← countOf_light hr, ← he]
      exact hcount _

theorem ok_of_closed {r r' : RunPart} (h : r.ok = true) (hr : r.state = .running) (hr' : r'.state = .running)
    (hp : r'.punchOpen = true → r.punchOpen = true) (hl : r'.lightOpen = true → r.lightOpen = true) (hf : r'.fired = r.fired) :
    r'.ok = true := by
  simp only [RunPart.ok, hr, hr', hf, ne_eq, decide_false, not_true_eq_false, Bool.false_or, Bool.and_eq_true,
    Bool.or_eq_true, Bool.not_eq_true', decide_eq_true_eq] at h ⊢
  obtain ⟨-, hpunch, hlight⟩ := h
  refine ⟨.inl (by simp), ?_, ?_⟩
  · cases ho : r'.punchOpen
    · exact .inl rfl
    · exact .inr (hpunch.resolve_left (by simp [hp ho]))
  · cases ho : r'.lightOpen
    · exact .inl rfl
    · exact .inr (hlight.resolve_left (by simp [hl ho]))

/-- A RUNNING cue's open punch closes (R109, R121, R135). -/
theorem Books.punchClosed (h : Books Q L R s) (he : s.entry i = some e) (hr : e.run.state = .running) (ho : e.run.punchOpen = true)
    (f : RunPart → RunPart) (hf : (f e.run).state = .running) (hp : (f e.run).punchOpen = false)
    (hl : (f e.run).lightOpen = e.run.lightOpen) (hfired : (f e.run).fired = e.run.fired) (r : BitVec 2) (q : Option Int)
    (hscene : SameScene s u) (hentries : u.ctb.entries = s.ctb.entries.set i (some { e with run := f e.run }))
    (hdue : u.csh.due = s.csh.due) (hcou : u.cou = (closeCuePunch e.cue r q s).cou) : Books Q L R u := by
  have hok := ok_of_closed (h.runs i e he) hr hf (by simp [hp]) (by simp [hl]) hfired
  have hset : u.settings = (closeCuePunch e.cue r q s).settings := hscene.1.trans (by simp)
  have hcount := runningCount_set (s := s) (u := s) (o := s.entry i) (i := i)
    (by rw [entry_eq_getElem (lt_of_entry he), List.set_getElem_self]) (lt_of_entry he)
  refine h.stillRunning he hr f hf hok hscene hentries (fun d hd => ⟨hdue ▸ hd, fun _ hn => by rw [hfired, hn]⟩) (by simp [hp]) ?_
  refine ((h.held.closeCuePunch e.cue r q).same (by simp [hcou]) (by rw [hcou]) hset).congr (fun c => ?_) fun p => ?_
  · simp [ho, hp]
  · rw [hl, ← countOf_light hr, ← he]
    exact hcount _

theorem Books.dropPunch (h : Books Q L R s) (c : Chan) (i : Nat) : Books Q L R (dropPunch c i s) := by
  unfold Machine.dropPunch
  split
  · next e he =>
    split
    · next hp =>
      obtain ⟨hr, ho, hc⟩ := hp
      have hclose : closePunch c e.cue reasonDropout s.here s = closeCuePunch e.cue reasonDropout s.here s := by
        simp [closeCuePunch, hc]
      rw [hclose]
      refine h.punchClosed he hr ho (fun r => { r with punchOpen := false, punch := .dropped }) hr rfl rfl rfl reasonDropout s.here
        (by simp [SameScene]) ?_ (by simp) (by simp)
      rw [modRun_entries (e := e) (by simp [State.entry, ← he])]
      simp
    · exact h
  · exact h

theorem Books.abortPunch (h : Books Q L R s) (i : Nat) : Books Q L R (abortPunch i s) := by
  unfold Machine.abortPunch
  split
  · next e he =>
    split
    · next hp =>
      obtain ⟨hr, ho⟩ := hp
      refine h.punchClosed he hr ho (fun r => { r with punchOpen := false, punch := .aborted }) hr rfl rfl rfl reasonAbort s.here
        (by simp [SameScene]) ?_ (by simp) (by simp)
      rw [modRun_entries (e := e) (by simp [State.entry, ← he])]
      simp
    · exact h
  · exact h

theorem Books.disarmEntry (h : Books Q L R s) (i : Nat) : Books Q L R (disarmEntry i s) := by
  unfold Machine.disarmEntry
  split
  · next e he =>
    split
    · exact h.endRun .idle (by decide) i
    · next hr => exact h.modRun_unlisted he hr _ nofun (ok_of_rest nofun nofun)
  · exact h

end

end Sys2Proof.Machine
end

section
/-! SUPPORT. The books over firing elements, boundaries and reports. -/

namespace Sys2Proof.Machine
open Sys2Proof

section
variable {Q : Int → Prop} {L : Chan → Prop} {R : Prop} {s u : State} {i : Nat} {e : CueEntry}

/-! ## Firing (R116 to R122) -/

theorem mem_allElements (el : Element) : el ∈ allElements := by cases el <;> decide

theorem code_injective {x y : Element} (h : x.code = y.code) : x = y := by
  have hall : ∀ x ∈ allElements, ∀ y ∈ allElements, x.code = y.code → x = y := by decide
  exact hall x (mem_allElements x) y (mem_allElements y) h

theorem code_lt (el : Element) : el.code < 10 := by
  have hall : ∀ x ∈ allElements, x.code < 10 := by decide
  exact hall el (mem_allElements el)

theorem markFired_getLsbD (r : RunPart) (el : Element) (x : Element) :
    (r.markFired el).fired.getLsbD x.code = (r.fired.getLsbD x.code || decide (x = el)) := by
  have hx := code_lt x
  have hiff : (x = el) ↔ x.code = el.code := ⟨fun h => by rw [h], code_injective⟩
  simp only [RunPart.markFired, BitVec.getLsbD_or, BitVec.getLsbD_shiftLeft, hiff]
  rcases Nat.lt_trichotomy x.code el.code with h | h | h
  · simp [h, Nat.ne_of_lt h]
  · simp [h, code_lt]
  · have hne : x.code ≠ el.code := by omega
    have hlt : ¬x.code < el.code := by omega
    have hsub : x.code - el.code ≠ 0 := by omega
    simp [hne, hlt, hsub]

/-- What an element's action asks: a RUNNING entry in whose fired set it stands. -/
structure Acting (s : State) (i : Nat) (el : Element) (e : CueEntry) : Prop where
  entry : s.entry i = some e
  running : e.run.state = .running
  fired : e.run.fired.getLsbD el.code = true

theorem ok_iff_of_running {r : RunPart} (hr : r.state = .running) : r.ok = true ↔
    (r.punchOpen = true → r.fired.getLsbD Element.punchIn.code = true) ∧ (r.lightOpen = true → r.fired.getLsbD Element.lightOn.code = true) := by
  cases hp : r.punchOpen <;> cases hl : r.lightOpen <;> simp [RunPart.ok, hr, hp, hl]

theorem ok_of_running {r : RunPart} (hr : r.state = .running) (hp : r.punchOpen = true → r.fired.getLsbD Element.punchIn.code = true)
    (hl : r.lightOpen = true → r.fired.getLsbD Element.lightOn.code = true) : r.ok = true := (ok_iff_of_running hr).2 ⟨hp, hl⟩

/-- The counts of an entry that stays as it is. -/
theorem count_self (he : s.entry i = some e) (hr : e.run.state = .running) (p : CueEntry → Bool) :
    s.runningCount p = s.runningCount p - (p e).toNat + (p e).toNat := by
  have h := runningCount_set (s := s) (u := s) (o := s.entry i) (i := i)
    (by rw [entry_eq_getElem (lt_of_entry he), List.set_getElem_self]) (lt_of_entry he) p
  rwa [he, countOf_running hr] at h

theorem Books.lightOn (h : Books Q L R s) (ha : Acting s i .lightOn e) (hl : e.run.lightOpen = false) (hrel : s.cou.released = false) :
    Books Q L R (fireLightOn i e.cue s) := by
  obtain ⟨he, hr, hf⟩ := ha
  have hok := (ok_iff_of_running hr).1 (h.runs i e he)
  refine h.stillRunning he hr (fun r => { r with lightOpen := true }) hr (ok_of_running hr hok.1 fun _ => hf)
    (by simp [SameScene, fireLightOn]) (by simp [fireLightOn, modRun_entries he]) (fun d hd => ⟨by simpa [fireLightOn] using hd, fun _ => id⟩)
    .inl ?_
  have hmod : Held (modRun i (fun r => { r with lightOpen := true }) s) s.openCount s.litCount := h.held.same (by simp) (by simp) (by simp)
  refine (hmod.openLight (by simpa using hrel) e.cue.mask).congr (fun c => count_self he hr (holdsPunch s.settings c)) fun p => ?_
  simp [hl]

theorem Books.lightOff (h : Books Q L R s) (ha : Acting s i .lightOff e) : Books Q L R (fireLightOff i e s) := by
  obtain ⟨he, hr, -⟩ := ha
  have hok := (ok_iff_of_running hr).1 (h.runs i e he)
  unfold fireLightOff
  split
  · next ho =>
    refine h.stillRunning he hr (fun r => { r with lightOpen := false }) hr (ok_of_running hr hok.1 nofun)
      (by simp [SameScene]) (by simp [modRun_entries he]) (fun d hd => ⟨by simpa using hd, fun _ => id⟩) .inl ?_
    have hmod : Held (modRun i (fun r => { r with lightOpen := false }) s) s.openCount s.litCount :=
      h.held.same (by simp) (by simp) (by simp)
    refine (hmod.releaseLight e.cue.mask).congr (fun c => count_self he hr (holdsPunch s.settings c)) fun p => ?_
    simp [ho]
  · exact h

theorem Books.punchIn (h : Books Q L R s) (ha : Acting s i .punchIn e) (hp : e.run.punchOpen = false) (hrel : s.cou.released = false)
    (q : Option Int) : Books Q L R (firePunchIn q i e.cue s) := by
  obtain ⟨he, hr, hf⟩ := ha
  have hok := (ok_iff_of_running hr).1 (h.runs i e he)
  unfold firePunchIn
  split
  · exact h.modRun_kept he hr _ hr rfl rfl rfl
  · exact h
  · next c hmode hc =>
    split
    · next hsync =>
      refine h.stillRunning he hr (fun r => { r with punch := .recorded, punched := true, punchOpen := true }) hr
        (ok_of_running hr (fun _ => hf) hok.2) (by simp [SameScene]) ?_ (fun d hd => ⟨by simpa using hd, fun _ => id⟩) ?_ ?_
      · rw [modRun_entries (e := e) (by simp [State.entry, ← he])]
        simp
      · intro _
        right
        rintro c' hc'
        rw [hc] at hc'
        cases hc'
        exact ⟨hmode, hsync⟩
      · have hopen := h.held.openPunch hrel c e.cue q
        refine (hopen.same (by simp) (by simp) (by simp)).congr (fun x => ?_) fun p => ?_
        · by_cases hx : x = c
          · simp [hx, hp, hc]
          · simp [hx, hp, hc, Ne.symm hx]
        · exact count_self he hr (holdsLight p)
    · have hmod := h.modRun_kept he hr (fun r => { r with punch := .noSync }) hr rfl rfl rfl
      exact hmod.congr (by simp [SameScene]) (by simp) (by simp) (by simp) (by simp)
  
theorem Books.punchOut (h : Books Q L R s) (ha : Acting s i .punchOut e) (q : Option Int) : Books Q L R (firePunchOut q i e s) := by
  obtain ⟨he, hr, -⟩ := ha
  unfold firePunchOut
  split
  · next ho =>
    refine h.punchClosed he hr ho (fun r => { r with punchOpen := false }) hr rfl rfl rfl reasonEnd q
      (by simp [SameScene]) ?_ (by simp) (by simp)
    rw [modRun_entries (e := e) (by simp [State.entry, ← he])]
    simp
  · exact h

theorem Books.spanEnd (h : Books Q L R s) (ha : Acting s i .spanEnd e) (q : Option Int) : Books Q L R (fireSpanEnd q i e s) := by
  obtain ⟨he, hr, -⟩ := ha
  unfold fireSpanEnd
  dsimp only
  rw [← runReleased]
  obtain ⟨-, -, -, hcsh, -, -, -, hctb⟩ := runReleased_keeps e reasonEnd q s
  refine h.endWith he hr reasonEnd q (fun r =>
    { r with
      state := .passed
      outcome := .complete
      takes := if r.punched then satInc 255 r.takes else r.takes
      punchOpen := false
      lightOpen := false }) nofun (ok_of_rest nofun nofun) (by simp [SameScene, unlistEntry]) ?_ (fun d hd => ?_) (fun c => ?_) ?_
  · have hentry : (runReleased e reasonEnd q s).entry i = some e := by simp [State.entry, hctb, ← he]
    simp [modRun_entries hentry, hctb, unlistEntry]
  · exact mem_unlistEntry (by simpa [unlistEntry, hcsh] using hd)
  · simp
  · simp

/-- SPAN_START of an ARMED entry, whose fired set it joins (R117). -/
theorem Books.spanStart (h : Books Q L R s) (he : s.entry i = some e) (hr : e.run.state = .armed)
    (hdue : ∀ d ∈ s.csh.due, d.entry = i → d.element ≠ .spanStart) (hline : s.clp.line ≠ .config ∧ s.csh.halted = false) :
    Books Q L R (fireSpanStart i (modRun i (fun r => r.markFired .spanStart) s)) := by
  have hnot : e.run.state ≠ .running := by simp [hr]
  have hentry : (modRun i (fun r => r.markFired .spanStart) s).entry i = some { e with run := e.run.markFired .spanStart } := by
    rw [modRun_entry i i _ s (lt_of_entry he), if_pos rfl, he]; rfl
  have hset : ∀ f : RunPart → RunPart, (modRun i f (modRun i (fun r => r.markFired .spanStart) s)).ctb.entries =
      s.ctb.entries.set i (some { e with run := f (e.run.markFired .spanStart) }) := fun f => by
    rw [modRun_entries hentry, modRun_entries he, List.set_set]
  have hptr : (modRun i (fun r => r.markFired .spanStart) s).ptr = s.ptr := by simp
  unfold fireSpanStart
  rw [hptr]
  split
  · next hplay =>
    have hzero : ∀ p : CueEntry → Bool, countOf (s.entry i) p = 0 := countOf_rest (by rw [he]; rintro _ ⟨⟩; exact hnot)
    refine h.turn (lt_of_entry he) (by simp [SameScene]) (hset _) (fun d hd => ?_) ⟨?_, ?_, fun c => .inl ?_⟩ ?_
    · have hmem : d ∈ s.csh.due := by simpa using hd
      refine ⟨hmem, fun heq => ?_⟩
      obtain ⟨-, e', he', hpending, hpos⟩ := h.listed d hmem
      rw [heq, he] at he'
      cases he'
      simp only [pendingElement, hr, Bool.and_eq_true, Bool.not_eq_true'] at hpending
      have hfired : (e.run.markFired .spanStart).fired.getLsbD d.element.code = false := by
        simp [markFired_getLsbD, hpending.2, hdue d hmem heq]
      exact ⟨_, rfl, by simp [pendingElement, RunPart.passStart, hpending.1.2, hfired], hpos⟩
    · rintro _ ⟨⟩
      exact ok_of_running rfl nofun nofun
    · exact fun _ _ _ => .inr ⟨hplay, hline⟩
    · simp [countOf, holdsPunch, RunPart.passStart]
    · refine (h.held.same (by simp) (by simp) (by simp)).congr (fun c => ?_) fun p => ?_
      · rw [hzero]; simp [countOf, holdsPunch, RunPart.passStart]
      · rw [hzero]; simp [countOf, holdsLight, RunPart.passStart]
  · refine h.rest (lt_of_entry he) (by simp [SameScene, unlistEntry])
      (hset fun r => { r.passStart with state := .passed, outcome := .missed }) (fun d hd => ?_) (by simp) ?_ ?_
    · simpa using mem_unlistEntry hd
    · rw [he]; rintro _ ⟨⟩; exact hnot
    · rintro _ ⟨⟩; exact ⟨nofun, ok_of_rest nofun nofun⟩

/-- An element that is not listed any more joins the fired set of a RUNNING entry (R116). -/
theorem Books.markFired (h : Books Q L R s) (he : s.entry i = some e) (hr : e.run.state = .running) (el : Element)
    (hdue : ∀ d ∈ s.csh.due, d.entry = i → d.element ≠ el) : Books Q L R (modRun i (fun r => r.markFired el) s) := by
  have hok := (ok_iff_of_running hr).1 (h.runs i e he)
  refine h.stillRunning he hr (fun r => r.markFired el) hr ?_ (by simp [SameScene]) (modRun_entries he _) (fun d hd => ?_) .inl ?_
  · refine ok_of_running hr (fun hp => ?_) fun hl => ?_
    · rw [markFired_getLsbD, hok.1 hp]; rfl
    · rw [markFired_getLsbD, hok.2 hl]; rfl
  · have hmem : d ∈ s.csh.due := by simpa using hd
    exact ⟨hmem, fun heq hn => by rw [markFired_getLsbD, hn]; simp [hdue d hmem heq]⟩
  · exact (h.held.same (by simp) (by simp) (by simp)).congr (fun c => count_self he hr (holdsPunch s.settings c))
      fun p => count_self he hr (holdsLight p)

/-- An element that is unfired and not listed fires (R116 to R122). -/
theorem Books.fireElement (h : Books Q L R s) (q : Option Int) (i : Nat) (el : Element)
    (hdue : ∀ d ∈ s.csh.due, d.entry = i → d.element ≠ el)
    (hnew : ∀ e, s.entry i = some e → e.run.fired.getLsbD el.code = false)
    (hline : s.clp.line ≠ .config ∧ s.csh.halted = false) : Books Q L R (fireElement q i el s) := by
  unfold Machine.fireElement
  split
  · next e he =>
    split
    · next hacts =>
      by_cases hs : el = .spanStart
      · subst hs
        exact h.spanStart he hacts hdue hline
      have hr : e.run.state = .running := by
        rw [hacts]
        cases el with
        | spanStart => exact absurd rfl hs
        | _ => rfl
      have hmark := h.markFired he hr el hdue
      have hacting : Acting (modRun i (fun r => r.markFired el) s) i el { e with run := e.run.markFired el } := by
        refine ⟨?_, hr, by simp [markFired_getLsbD]⟩
        rw [modRun_entry i i _ s (lt_of_entry he), if_pos rfl, he]; rfl
      have hrel : (modRun i (fun r => r.markFired el) s).cou.released = false := by simpa using h.halt.trans hline.2
      have hok := (ok_iff_of_running hr).1 (h.runs i e he)
      have hunfired := hnew e he
      cases el with
      | spanStart => exact absurd rfl hs
      | lightOn => exact hmark.lightOn (e := ⟨e.cue, e.run.markFired _⟩) hacting (by simpa [hunfired, RunPart.markFired] using hok.2) hrel
      | lightOff => exact hmark.lightOff (e := ⟨e.cue, e.run.markFired _⟩) hacting
      | punchIn => exact hmark.punchIn (e := ⟨e.cue, e.run.markFired _⟩) hacting (by simpa [hunfired, RunPart.markFired] using hok.1) hrel q
      | punchOut => exact hmark.punchOut (e := ⟨e.cue, e.run.markFired _⟩) hacting q
      | spanEnd => exact hmark.spanEnd (e := ⟨e.cue, e.run.markFired _⟩) hacting q
      | _ => exact hmark.congr (by simp [elementAction, SameScene]) (by simp [elementAction]) (by simp [elementAction]) (by simp [elementAction]) (by simp [elementAction])
    · exact h
  · exact h

end

end Sys2Proof.Machine
end

section
/-! SUPPORT. The books over loops of the table, reports, locks, the mode and boundaries. -/

namespace Sys2Proof.Machine
open Sys2Proof

section
variable {Q : Int → Prop} {L : Chan → Prop} {R : Prop} {s u : State}

/-! ## The due list gets shorter -/

theorem Books.unlist (h : Books Q L R s) (i : Nat) (el : Element) : Books Q L R (unlist i el s) :=
  h.congr (by simp [SameScene, Machine.unlist]) (by simp) (fun d hd => by
    have hd : d ∈ s.csh.due.filter fun d => !(decide (d.entry = i) && decide (d.element = el)) := hd
    exact (List.mem_filter.1 hd).1) (by simp) (by simp)

theorem Books.emptyDue (h : Books Q L R s) : Books Q L R (emptyDue s) :=
  h.congr (by simp [SameScene, Machine.emptyDue]) (by simp) (by simp [Machine.emptyDue]) (by simp) (by simp)

/-- What the books do not look at may change. -/
theorem Books.other (h : Books Q L R s) (hset : u.settings = s.settings) (hline : u.clp.line = s.clp.line)
    (hplay : u.ptr.playable = s.ptr.playable) (hA : u.lockA.state = s.lockA.state) (hB : u.lockB.state = s.lockB.state)
    (he : u.ctb.entries = s.ctb.entries) (hcsh : u.csh = s.csh) (hcou : u.cou = s.cou) : Books Q L R u :=
  h.congr ⟨hset, hline, hplay, by rw [hcsh], by rw [hcsh], by rw [hcou], hA, hB⟩ he (fun d hd => hcsh ▸ hd) (fun c => by rw [hcou])
    (by rw [hcou])

theorem Books.fault (h : Books Q L R s) (i : FaultInfo) : Books Q L R (recordFault i s) :=
  h.other (by simp) (by simp) (by simp) (by simp) (by simp) (by simp) (by simp) (by simp)

theorem Books.status (h : Books Q L R s) : Books Q L R (statusChange s) :=
  h.other (by simp) (by simp) (by simp) (by simp) (by simp) (by simp) (by simp) (by simp)

/-! ## Loops of the table -/

theorem forIndexes_succ (n : Nat) (f : Nat → State → State) (s : State) : forIndexes (n + 1) f s = f n (forIndexes n f s) := by
  simp [forIndexes, List.range_succ]

/-- A loop whose every turn leaves the other entries and its own one with `P`, in states that satisfy `K`, leaves `P` everywhere. -/
theorem forIndexes_each {K : State → Prop} {P : CueEntry → Prop} {f : Nat → State → State} (hK : ∀ i v, K v → K (f i v))
    (hown : ∀ i v, K v → ∀ e, (f i v).entry i = some e → P e) (hother : ∀ i v j, j ≠ i → (f i v).entry j = v.entry j)
    (n : Nat) (hs : K s) : ∀ i < n, ∀ e, (forIndexes n f s).entry i = some e → P e := by
  induction n with
  | zero => exact fun i hi => absurd hi (Nat.not_lt_zero i)
  | succ n ih =>
    intro i hi e he
    rw [forIndexes_succ] at he
    have hk : K (forIndexes n f s) := forIndexes_invariant K n f hK s hs
    by_cases heq : i = n
    · subst heq
      exact hown i _ hk e he
    · rw [hother n _ i heq] at he
      exact ih i (by omega) e he

/-- Every entry of the table is below its size. -/
theorem each_entry {P : CueEntry → Prop} (hsize : s.ctb.entries.length = Config.cueCount)
    (h : ∀ i < Config.cueCount, ∀ e, s.entry i = some e → P e) : ∀ i e, s.entry i = some e → P e :=
  fun i e he => h i (hsize ▸ lt_of_entry he) e he

theorem modRun_entry_other (f : RunPart → RunPart) {i j : Nat} (h : j ≠ i) (v : State) : (modRun i f v).entry j = v.entry j := by
  by_cases hi : i < v.ctb.entries.length
  · rw [modRun_entry i j f v hi, if_neg h]
  · simp [State.entry, modRun, List.set_eq_of_length_le (by omega : v.ctb.entries.length ≤ i)]

theorem modRun_entry_self (f : RunPart → RunPart) (i : Nat) (v : State) :
    (modRun i f v).entry i = (v.entry i).map fun e => { e with run := f e.run } := by
  by_cases hi : i < v.ctb.entries.length
  · rw [modRun_entry i i f v hi, if_pos rfl]
  · have hnone := entry_none_of_le i v (by omega)
    rw [hnone]
    exact entry_none_of_le i _ (by simpa [modRun] using hi)

/-- The entries read alike where the table is. -/
theorem entry_congr {v w : State} (h : v.ctb = w.ctb) (j : Nat) : v.entry j = w.entry j := by simp [State.entry, h]

/-- The entries after the end of a run: the other ones as they were, its own one not RUNNING. -/
theorem endRun_entry (t : RunState) (ht : t ≠ .running) (i : Nat) (v : State) :
    (∀ e, (endRun t i v).entry i = some e → e.run.state ≠ .running) ∧ ∀ j, j ≠ i → (endRun t i v).entry j = v.entry j := by
  unfold endRun
  dsimp only
  split
  · next e he =>
    split
    · rw [← runReleased]
      have hctb : ∀ j, (setCause causeCueDone (unlistEntry i (dropTally e.cue.name (runReleased e reasonAbort v.here v)))).entry j =
          v.entry j := entry_congr (by simp [(runReleased_keeps e reasonAbort v.here v).2.2.2.2.2.2.2])
      refine ⟨fun e' he' => ?_, fun j hj => by rw [modRun_entry_other _ hj, hctb]⟩
      rw [modRun_entry_self, hctb, he] at he'
      cases he'
      exact ht
    · next hr => exact ⟨fun e' he' => by rw [he] at he'; cases he'; exact hr, fun _ _ => rfl⟩
  · next he => exact ⟨fun e' he' => by simp [he] at he', fun _ _ => rfl⟩

theorem Books.interruptAll (h : Books Q L R s) : Books Q L R (interruptAll s) :=
  forIndexes_invariant (Books Q L R) _ _ (fun i _ hv => hv.endRun .passed (by decide) i) s h

/-- Nothing runs after every run has ended. -/
theorem interruptAll_ended (h : Books Q L R s) : (interruptAll s).anyRunning = false := by
  have hnone : ∀ n, ∀ i < n, ∀ e, (forIndexes n (Machine.endRun .passed) s).entry i = some e → e.run.state ≠ .running := fun n =>
    forIndexes_each (K := fun _ => True) (fun _ _ _ => trivial) (fun i v _ => (endRun_entry .passed (by decide) i v).1)
      (fun i v => (endRun_entry .passed (by decide) i v).2) n trivial
  rw [Bool.eq_false_iff, ne_eq, anyRunning_iff]
  rintro ⟨j, e, he, hr⟩
  exact each_entry h.interruptAll.size (hnone _) j e he hr

/-! ## Reports at the scheduler, and orders (R107 to R109, R126, R127) -/

theorem emptyDue_anyRunning (v : State) : (emptyDue v).anyRunning = v.anyRunning := rfl

theorem emptyDue_due (v : State) : (emptyDue v).csh.due = [] := rfl

/-- After an interruption and an empty due list the books are in order for any positions, and for a playable reference or not. -/
theorem Books.interrupted (h : Books Q L R s) (q : Option Int) {Q' : Int → Prop} {R' : Prop} :
    Books Q' L R' (Machine.rederiveAll q (Machine.emptyDue (Machine.interruptAll s))) ∧
      (Machine.rederiveAll q (Machine.emptyDue (Machine.interruptAll s))).quiet = true := by
  have hcalm : (Machine.emptyDue (Machine.interruptAll s)).anyRunning = false :=
    (emptyDue_anyRunning _).trans (interruptAll_ended h)
  have hbooks : Books (fun _ => False) L R (Machine.emptyDue (Machine.interruptAll s)) :=
    h.interruptAll.emptyDue.mono (by simp [emptyDue_due]) (fun _ => id) id
  have hdone := hbooks.rederiveAll q
  have hcalm' := rederiveAll_calm q _ hcalm
  refine ⟨{ hdone.mono (fun d hd _ => absurd (hdone.listed d hd).1 id) (fun _ => id) id with
    plays := by simp [hcalm'] }, (quiet_iff _).2 ⟨hcalm', ?_⟩⟩
  exact List.eq_nil_iff_forall_not_mem.2 fun d hd => (hdone.listed d hd).1

theorem Books.armReel (h : Books Q L R s) (reel : BitVec 6) : Books Q L R (armReel reel s) := by
  refine forIndexes_invariant (Books Q L R) _ _ (fun i v hv => ?_) s h
  split
  · exact hv.armEntry _ i
  · exact hv

theorem Books.disarmAll (h : Books Q L R s) : Books Q L R (disarmAll s) :=
  forIndexes_invariant (Books Q L R) _ _ (fun i _ hv => hv.disarmEntry i) s h

theorem Books.dropWhere (h : Books Q L R s) (p : CueDef → Bool) : Books Q L R (dropWhere p s) := by
  refine forIndexes_invariant (Books Q L R) _ _ (fun i v hv => ?_) s h
  split
  · next hp =>
    obtain ⟨e, he⟩ : ∃ e, v.entry i = some e := by
      cases he : v.entry i with
      | none => simp [he] at hp
      | some e => exact ⟨e, rfl⟩
    have hended := hv.endRun .passed (by decide) i
    have hi : i < (Machine.endRun .passed i v).ctb.entries.length := by
      rw [hended.size, ← hv.size]
      exact lt_of_entry he
    exact hended.emptyEntry hi (endRun_entry .passed (by decide) i v).1
  · exact hv

end

end Sys2Proof.Machine
end

section
/-! SUPPORT. The books over orders, commits, PUNCH frames, the mode, the locks and a report's delivery. -/

namespace Sys2Proof.Machine
open Sys2Proof

section
variable {Q : Int → Prop} {L : Chan → Prop} {R : Prop} {s u : State}

/-! ## Commits (R87 to R92) -/

theorem findCue_entry {r : BitVec 6} {n : BitVec 12} {i : Nat} (h : s.findCue r n = some i) : ∃ e, s.entry i = some e := by
  have hp := List.find?_some h
  cases he : s.entry i with
  | none => simp [he] at hp
  | some e => exact ⟨e, rfl⟩

theorem not_running_of_inState {i : Nat} (h : s.inState i .running = false) {e : CueEntry} (he : s.entry i = some e) :
    e.run.state ≠ .running := by simpa [State.inState, he] using h

theorem Books.placeCue (h : Books Q L R s) (d : CueDef) (n : BitVec 5) : Books Q L R (placeCue d n s) := by
  unfold Machine.placeCue
  split
  · next i hi =>
    have hlt : i < s.ctb.entries.length := h.size ▸ List.mem_range.1 (List.mem_of_find?_eq_some hi)
    have hnone := List.find?_some hi
    exact h.enterCue hlt d fun e he => by simp [he] at hnone
  split
  · next i hi =>
    have hidle := List.find?_some hi
    obtain ⟨e, he⟩ : ∃ e, s.entry i = some e := by
      cases he : s.entry i with
      | none => simp [State.inState, he] at hidle
      | some e => exact ⟨e, rfl⟩
    have hin := h.enterCue (lt_of_entry he) d fun e he => by simpa [State.inState, he] using hidle
    exact hin.other rfl rfl rfl rfl rfl rfl rfl rfl
  · exact h.fault _

theorem Books.recordTimes (h : Books Q L R s) (f : FaultInfo) (n : Nat) : Books Q L R (recordTimes f n s) := by
  induction n generalizing s with
  | zero => exact h
  | succ n ih => exact ih (h.fault f)

theorem recordTimes_ctb (f : FaultInfo) (n : Nat) : (recordTimes f n s).ctb = s.ctb := by simp

/-- A commit changes entries that do not run alone (R87 to R92). -/
theorem Books.commit (h : Books Q L R s) (hd : CueHead) (b : CueBody) (n : BitVec 5) : Books Q L R (commit hd b n s) := by
  unfold Machine.commit
  dsimp only
  cases hfound : s.findCue hd.reel hd.id with
  | none =>
    simp only [Option.any_none, Bool.false_eq_true, if_false]
    split
    · exact (h.recordTimes _ _).placeCue _ n
    · exact h
  | some i =>
    obtain ⟨e, he⟩ := findCue_entry hfound
    have hrest : ∀ v : State, v.ctb = s.ctb → ¬(some i).any (fun i => s.inState i .running) = true →
        v.entry i = some e ∧ e.run.state ≠ .running := fun v hv hbusy =>
      ⟨(entry_congr hv i).trans he, not_running_of_inState (by simpa using hbusy) he⟩
    dsimp only
    split
    · split
      · exact h.fault _
      · next hbusy =>
        obtain ⟨he', hr⟩ := hrest _ (recordTimes_ctb _ _) hbusy
        exact (h.recordTimes _ _).updateEntry he' hr _
    · split
      · exact h.fault _
      · next hbusy =>
        refine h.emptyEntry (lt_of_entry he) fun e' he' => ?_
        rw [he] at he'
        cases he'
        exact (hrest s rfl hbusy).2

theorem Books.takeBody (h : Books Q L R s) (n : BitVec 5) (b : CueBody) : Books Q L R (takeBody n b s) := by
  unfold Machine.takeBody
  (repeat' split)
  · have hstaged : Books Q L R (setStaging (s.stagingWithout n.toNat) s) := h.other rfl rfl rfl rfl rfl rfl rfl rfl
    exact hstaged.commit _ b n
  · exact h.fault _
  · exact h.fault _

/-! ## PUNCH frames (R140, R141) -/

theorem Books.modTally (h : Books Q L R s) (f : List Tally → List Tally) : Books Q L R (s.modCou fun c => { c with tally := f c.tally }) :=
  h.congr ⟨rfl, rfl, rfl, rfl, rfl, rfl, rfl, rfl⟩ rfl (fun _ => id) (fun c => by cases c <;> rfl) rfl

theorem Books.applyPunch (h : Books Q L R s) (n : BitVec 5) (edge : BitVec 1) (p : PunchArgs) : Books Q L R (applyPunch n edge p s) := by
  unfold Machine.applyPunch
  split
  · unfold tallyIn
    split
    · exact h
    · next i _ =>
      dsimp only
      split
      · generalize (if s.cou.tally.length < Config.tallySize then s.cou.tally else s.cou.tally.drop 1) ++ _ = l
        have hjoined := h.modTally fun _ => l
        split
        · next hrun =>
          cases he : (s.modCou fun c => { c with tally := l }).entry i with
          | none => simp [State.inState, he] at hrun
          | some e =>
            have hr : e.run.state = .running := by simpa [State.inState, he] using hrun
            exact hjoined.modRun_kept he hr _ hr rfl rfl rfl
        · exact hjoined
      · exact h
  · exact h.modTally _

/-! ## The mode (R109) -/

theorem runningCount_zero {p : CueEntry → Bool} (h : ∀ j e, s.entry j = some e → e.run.state = .running → p e = false) :
    s.runningCount p = 0 := by
  rw [runningCount_eq, List.countP_eq_zero]
  intro o ho
  cases o with
  | none => simp
  | some e =>
    obtain ⟨j, hj⟩ := mem_entry ho
    by_cases hr : e.run.state = .running
    · simp [h j e hj hr]
    · simp [hr]

theorem abortPunch_entry (i : Nat) (v : State) :
    (∀ e, (abortPunch i v).entry i = some e → e.run.state = .running → e.run.punchOpen = false) ∧
      ∀ j, j ≠ i → (abortPunch i v).entry j = v.entry j := by
  unfold abortPunch
  split
  · next e he =>
    split
    · have hctb : ∀ j, (closeCuePunch e.cue reasonAbort v.here v).entry j = v.entry j := entry_congr (by simp)
      refine ⟨fun e' he' _ => ?_, fun j hj => by rw [modRun_entry_other _ hj, hctb]⟩
      rw [modRun_entry_self, hctb, he] at he'
      cases he'
      rfl
    · next hr =>
      refine ⟨fun e' he' hrun => ?_, fun _ _ => rfl⟩
      rw [he] at he'
      cases he'
      simpa [hrun] using hr
  · next he => exact ⟨fun e' he' => by simp [he] at he', fun _ _ => rfl⟩

/-- No punch is open after every one has closed. -/
theorem abortPunches_closed
    (hsize : (forIndexes Config.cueCount abortPunch s).ctb.entries.length = Config.cueCount) (c : Chan) :
    (forIndexes Config.cueCount abortPunch s).openCount c = 0 := by
  have hnone : ∀ n, ∀ i < n, ∀ e, (forIndexes n abortPunch s).entry i = some e → e.run.state = .running → e.run.punchOpen = false :=
    fun n => forIndexes_each (K := fun _ => True) (P := fun e => e.run.state = .running → e.run.punchOpen = false) (fun _ _ _ => trivial)
      (fun i v _ => (abortPunch_entry i v).1) (fun i v => (abortPunch_entry i v).2) n trivial
  exact runningCount_zero fun j e he hr => by simp [holdsPunch, each_entry hsize (hnone _) j e he hr]

theorem Books.setMode (h : Books Q L R s) (m : Mode) : Books Q L R (setMode m s) := by
  unfold Machine.setMode
  split
  · exact h
  next hne =>
  obtain ⟨hfree, hopen⟩ := h.shrink (u := Machine.statusChange (s.modCsh fun c => { c with mode := m })) (by simp) (by simp) (by simp)
    (by simp) (by simp) (by simp) (by simp) (by simp) (by simp)
  dsimp only
  split
  · have hloop := forIndexes_invariant (Books Q (fun _ => False) R) Config.cueCount _ (fun i _ hv => hv.abortPunch i) _ hfree
    exact { hloop with locked := fun c _ => .inl (abortPunches_closed hloop.size c) }
  · next hm =>
    refine { hfree with locked := fun c hc => .inl ?_ }
    rw [hopen]
    refine (h.locked c hc).resolve_right fun hsync => ?_
    have hrecord := hsync.1
    cases m <;> simp_all

theorem Books.orderOf (h : Books Q L R s) (n : BitVec 5) (op : BitVec 4) (p : ControlArgs) : Books Q L R (orderOf n op p s) := by
  unfold Machine.orderOf
  have hstaging : ∀ {v : State} (q : CueHead → Bool), Books Q L R v → Books Q L R (unstageWhere q v) :=
    fun q hv => hv.other rfl rfl rfl rfl rfl rfl rfl rfl
  split
  · unfold armCue
    split
    · exact h.armEntry _ _
    · exact h
  · exact h.armReel _
  · unfold disarmCue
    split
    · exact h.disarmEntry _
    · exact h
  · exact h.disarmAll
  · exact hstaging _ (h.dropWhere _)
  · exact hstaging _ (h.dropWhere _)
  · exact hstaging _ (h.dropWhere _)
  · unfold modeOrder
    split
    · exact h.setMode _
    · exact h.fault _
  · exact h.other (by simp) (by simp) (by simp) (by simp) (by simp) (by simp) (by simp) (by simp)
  · exact h.other rfl rfl rfl rfl rfl rfl rfl rfl
  · exact h.fault _

/-! ## Locks (R66 to R75, R135) -/

theorem dropPunch_entry (c : Chan) (i : Nat) (v : State) :
    (∀ e, (dropPunch c i v).entry i = some e → e.run.state = .running → holdsPunch v.settings c e = false) ∧
      ∀ j, j ≠ i → (dropPunch c i v).entry j = v.entry j := by
  unfold dropPunch
  split
  · next e he =>
    split
    · have hctb : ∀ j, (recordFault { kind := .punchDropout, pos := v.here, chan := some c, cue := some e.cue.name }
          (closePunch c e.cue reasonDropout v.here v)).entry j = v.entry j := entry_congr (by simp)
      refine ⟨fun e' he' _ => ?_, fun j hj => by rw [modRun_entry_other _ hj, hctb]⟩
      rw [modRun_entry_self, hctb, he] at he'
      cases he'
      rfl
    · next hr =>
      refine ⟨fun e' he' hrun => ?_, fun _ _ => rfl⟩
      rw [he] at he'
      cases he'
      simpa [hrun, holdsPunch] using hr
  · next he => exact ⟨fun e' he' => by simp [he] at he', fun _ _ => rfl⟩

/-- The sync-lost notice keeps the books, and leaves no punch of the channel open. -/
theorem Books.syncLost (h : Books Q L R s) (c : Chan) : Books Q L R (syncLost c s) ∧ (syncLost c s).openCount c = 0 := by
  have hbooks : Books Q L R (Machine.syncLost c s) :=
    forIndexes_invariant (Books Q L R) _ _ (fun i _ hv => hv.dropPunch c i) s h
  have hnone : ∀ n, ∀ i < n, ∀ e, (forIndexes n (Machine.dropPunch c) s).entry i = some e → e.run.state = .running →
      holdsPunch s.settings c e = false := fun n =>
    forIndexes_each (K := fun v => v.settings = s.settings) (P := fun e => e.run.state = .running → holdsPunch s.settings c e = false)
      (fun i v hv => by simpa using hv) (fun i v hv => hv ▸ (dropPunch_entry c i v).1) (fun i v => (dropPunch_entry c i v).2) n rfl
  refine ⟨hbooks, runningCount_zero fun j e he hr => ?_⟩
  have hset : (Machine.syncLost c s).settings = s.settings := by simp
  rw [hset]
  exact each_entry hbooks.size (hnone _) j e he hr

/-- The lock's new state, before a sync-lost notice (R75). -/
def relocked (c : Chan) (l : LockState) (s : State) : State :=
  statusChange (setCause causeLock (s.modLock c fun k => { k with state := l, good := 0, bad := 0 }))

theorem relocked_keeps (c : Chan) (l : LockState) (s : State) :
    (relocked c l s).settings = s.settings ∧ (relocked c l s).clp.line = s.clp.line ∧ (relocked c l s).ptr = s.ptr ∧
    (relocked c l s).csh = s.csh ∧ (relocked c l s).cou = s.cou ∧ (relocked c l s).ctb = s.ctb ∧
    (relocked c l s).lock (otherChan c) = s.lock (otherChan c) := by
  have hlock : ∀ v : State, (statusChange (setCause causeLock v)).lock (otherChan c) = v.lock (otherChan c) := fun v =>
    State.lock_congr (by simp) (by simp) _
  refine ⟨?_, ?_, ?_, ?_, ?_, ?_, (hlock _).trans (by simp)⟩
  all_goals cases c <;> simp [relocked, State.modLock]

/-- A change of lock state (R75): no punch of the channel is open after it. -/
theorem Books.setLock (h : Books Q L R s) (c : Chan) (l : LockState) : Books Q L R (setLock c l s) := by
  obtain ⟨hset, hline, hptr, hcsh, hcou, hctb, hother⟩ := relocked_keeps c l s
  obtain ⟨hfree, hopen⟩ := h.shrink hset hline (by rw [hptr]) (by rw [hcsh]) (by rw [hcou]) (by rw [hctb]) (by simp [hcsh]) (by simp [hcou])
    (by rw [hcou])
  have hdone : ∀ v : State, Books Q (fun _ => False) R v → v.openCount c = 0 ∨ ¬L c →
      (L (otherChan c) → v.openCount (otherChan c) = 0 ∨ v.csh.mode = .record ∧ (v.lock (otherChan c)).state = .sync) →
      Books Q L R v := fun v hv hown hoth => { hv with
    locked := (forall_chan c).2 ⟨fun hL => .inl (hown.resolve_right (not_not_intro hL)), hoth⟩ }
  have hmove : Books Q (fun d => d ≠ c ∧ L d) R (relocked c l s) := { hfree with
    locked := (forall_chan c).2 ⟨fun hL => absurd rfl hL.1, fun hL => by
      rw [hopen, hcsh, hother]
      exact h.locked _ hL.2⟩ }
  have hne : otherChan c ≠ c := by cases c <;> decide
  have heq : Machine.setLock c l s = guarded (decide ((s.lock c).state = .sync)) (Machine.syncLost c) (relocked c l s) := rfl
  rw [heq, guarded]
  split
  · obtain ⟨hlost, hzero⟩ := hmove.syncLost c
    exact hdone _ (hlost.mono (fun _ _ => id) nofun id) (.inl hzero) fun hL => hlost.locked _ ⟨hne, hL⟩
  · next hsync =>
    refine hdone _ hfree ?_ fun hL => hmove.locked _ ⟨hne, hL⟩
    by_cases hL : L c
    · rw [hopen]
      exact .inl ((h.locked c hL).resolve_right fun hs => hsync (by simpa using hs.2))
    · exact .inr hL

/-- A lock's counts and error change. -/
theorem Books.modLock (h : Books Q L R s) (c : Chan) (f : Lock → Lock) (hf : ∀ k, (f k).state = k.state) : Books Q L R (s.modLock c f) := by
  cases c
  · exact h.other rfl rfl rfl (hf _) rfl rfl rfl rfl
  · exact h.other rfl rfl rfl rfl (hf _) rfl rfl rfl

theorem Books.unlock (h : Books Q L R s) (c : Chan) : Books Q L R (unlock c s) := by
  unfold Machine.unlock
  split
  · exact h
  · exact h.setLock c _

theorem Books.countChasing (h : Books Q L R s) (c : Chan) (good : Bool) : Books Q L R (countChasing c good s) := by
  unfold Machine.countChasing
  split
  · split
    · exact h.setLock c _
    · exact h.modLock c _ fun _ => rfl
  · exact h.modLock c _ fun _ => rfl

theorem Books.countSync (h : Books Q L R s) (c : Chan) (good : Bool) : Books Q L R (countSync c good s) := by
  unfold Machine.countSync
  split
  · exact h.modLock c _ fun _ => rfl
  · split
    · exact h.setLock c _
    · exact h.modLock c _ fun _ => rfl

theorem Books.lockBoundary (h : Books Q L R s) (c : Chan) (r : BRec) : Books Q L R (lockBoundary c r s) := by
  have hmeasure : ∀ b p, Books Q L R (measure c b p s) := fun b p => by
    have herr := h.modLock c (fun l => { l with err := syncError b p }) fun _ => rfl
    unfold measure
    dsimp only
    split
    · exact (herr.setLock c _).countChasing c _
    · exact herr.countChasing c _
    · exact herr.countSync c _
  unfold Machine.lockBoundary
  split
  · exact h
  split
  · exact h.unlock c
  split
  · exact h.unlock c
  split
  · exact hmeasure _ _
  · exact h

theorem Books.lockMotion (h : Books Q L R s) (c : Chan) : Books Q L R (lockMotion c s) := by
  unfold Machine.lockMotion
  split
  · exact h.unlock c
  split
  · exact h.unlock c
  · exact h

theorem Books.lockReport (h : Books Q L R s) (r : Report) (c : Chan) : Books Q L R (lockReport r c s) := by
  unfold Machine.lockReport
  split
  · split
    · split
      · exact h
      · exact h.modLock c _ fun _ => rfl
      · exact h.setLock c _
    · split
      · exact h
      · exact h.modLock c _ fun _ => rfl
      · exact h.setLock c _
    · exact h.unlock c
    · exact h.unlock c
    · exact h.unlock c
    · exact h
    · exact h
  · exact h

/-! ## The delivery of a report (R62, R126) -/

/-- `f` leaves a part in which nothing runs and nothing is listed so. -/
theorem quiet_of_entries (he : u.ctb.entries = s.ctb.entries) (hd : u.csh.due = s.csh.due) : u.quiet = s.quiet := by
  simp [State.quiet, State.anyRunning, he, hd]

theorem Books.clearTally (h : Books Q L R s) : Books Q L R (clearTally s) := h.modTally fun _ => []

theorem Books.deliverReport (h : Books Q L R s) (r : Report) : Books Q L R (deliverReport r s) := by
  unfold Machine.deliverReport
  refine ((Books.clearTally ?_).lockReport r .a).lockReport r .b
  unfold schedulerReport
  split
  · exact h
  · exact (h.interrupted s.here).1

end

end Sys2Proof.Machine
end

section
/-! SUPPORT. The books over late firing, the listing and a boundary. -/

namespace Sys2Proof.Machine
open Sys2Proof

section
variable {Q : Int → Prop} {L : Chan → Prop} {R : Prop} {s u : State}

/-! ## The fired sets and the due list as elements fire -/

/-- The element is not in the fired set of the entry. -/
def Unfired (s : State) (i : Nat) (el : Element) : Prop := ∀ e, s.entry i = some e → e.run.fired.getLsbD el.code = false

theorem Unfired.congr {i : Nat} {el : Element} (h : Unfired s i el) (hctb : u.ctb = s.ctb) : Unfired u i el := fun e he =>
  h e ((entry_congr hctb i).symm.trans he)

theorem Unfired.modRun {i : Nat} {el : Element} (h : Unfired s i el) (j : Nat) (f : RunPart → RunPart)
    (hf : j = i → ∀ r : RunPart, r.fired.getLsbD el.code = false → (f r).fired.getLsbD el.code = false) : Unfired (modRun j f s) i el := by
  intro e he
  by_cases hj : i = j
  · subst hj
    rw [modRun_entry_self] at he
    obtain ⟨e', he', rfl⟩ := Option.map_eq_some_iff.1 he
    exact hf rfl _ (h e' he')
  · rw [modRun_entry_other f hj] at he
    exact h e he

section
variable (q : Option Int) (i j : Nat) (e : CueEntry) (el x : Element)

/-- What an element does on its entry leaves the fired sets (R117 to R122). -/
theorem elementAction_unfired (h : Unfired s j x) : Unfired (elementAction q i e el s) j x := by
  have hkept : ∀ {v : State} (f : RunPart → RunPart), (∀ r, (f r).fired = r.fired) → Unfired v j x → Unfired (modRun i f v) j x :=
    fun f hf hv => hv.modRun i f fun _ r hr => by rw [hf, hr]
  cases el with
  | spanStart =>
    simp only [elementAction, fireSpanStart]
    split
    · exact hkept _ (fun _ => rfl) h
    · exact (hkept (fun r => { r.passStart with state := .passed, outcome := .missed }) (fun _ => rfl) h).congr rfl
  | lightOn => exact (hkept (fun r => { r with lightOpen := true }) (fun _ => rfl) h).congr (by simp [elementAction, fireLightOn])
  | lightOff =>
    simp only [elementAction, fireLightOff]
    split
    · exact (hkept (fun r => { r with lightOpen := false }) (fun _ => rfl) h).congr (by simp)
    · exact h
  | punchIn =>
    simp only [elementAction, firePunchIn]
    (repeat' split)
    · exact hkept _ (fun _ => rfl) h
    · exact h
    · exact hkept _ (fun _ => rfl) (h.congr (by simp))
    · exact (hkept (fun r => { r with punch := .noSync }) (fun _ => rfl) h).congr (by simp)
  | punchOut =>
    simp only [elementAction, firePunchOut]
    split
    · exact hkept _ (fun _ => rfl) (h.congr (by simp))
    · exact h
  | spanEnd =>
    simp only [elementAction, fireSpanEnd]
    rw [← runReleased]
    have hrel := h.congr (runReleased_keeps e reasonEnd q s).2.2.2.2.2.2.2
    refine (hkept (fun r => { r with
      state := .passed, outcome := .complete, takes := if r.punched then satInc 255 r.takes else r.takes
      punchOpen := false, lightOpen := false }) (fun _ => rfl) hrel).congr ?_
    simp [unlistEntry]
  | _ => exact h.congr (by simp [elementAction])

theorem fireElement_unfired (h : Unfired s j x) (hne : j ≠ i ∨ x ≠ el) : Unfired (fireElement q i el s) j x := by
  unfold fireElement
  split
  · split
    · refine elementAction_unfired q i j _ el x (h.modRun i _ fun hij r hr => ?_)
      have hx : x ≠ el := hne.resolve_left (not_not_intro hij.symm)
      rw [markFired_getLsbD, hr]
      simp [hx]
    · exact h
  · exact h

/-- All that an element's action can do to the scheduler: its cue's elements leave the due list. -/
theorem elementAction_csh (s : State) :
    (elementAction q i e el s).csh = s.csh ∨ (elementAction q i e el s).csh = (unlistEntry i s).csh := by
  cases el with
  | spanStart =>
    simp only [elementAction, fireSpanStart]
    split
    · exact .inl (by simp)
    · exact .inr (by simp [unlistEntry])
  | lightOn => exact .inl (by simp [elementAction, fireLightOn])
  | lightOff =>
    simp only [elementAction, fireLightOff]
    split <;> exact .inl (by simp)
  | punchIn =>
    simp only [elementAction, firePunchIn]
    (repeat' split) <;> exact .inl (by simp)
  | punchOut =>
    simp only [elementAction, firePunchOut]
    split <;> exact .inl (by simp)
  | spanEnd =>
    simp only [elementAction, fireSpanEnd]
    rw [← runReleased]
    exact .inr (by simp [unlistEntry, (runReleased_keeps e reasonEnd q s).2.2.2.1])
  | _ => exact .inl (by simp [elementAction])

/-- All that a firing element can do to the scheduler. -/
theorem fireElement_csh (s : State) :
    (fireElement q i el s).csh = s.csh ∨ (fireElement q i el s).csh = (unlistEntry i s).csh := by
  unfold fireElement
  split
  · split
    · exact (elementAction_csh q i _ el _).imp (fun h => h.trans (by simp)) fun h => h.trans (by simp [unlistEntry])
    · exact .inl rfl
  · exact .inl rfl

/-- No element joins the due list as one fires, and the scheduler goes on as it did. -/
theorem fireElement_scheduler (s : State) :
    (∀ d ∈ (fireElement q i el s).csh.due, d ∈ s.csh.due) ∧ (fireElement q i el s).csh.halted = s.csh.halted := by
  rcases fireElement_csh q i el s with h | h
  · rw [h]
    exact ⟨fun _ => id, rfl⟩
  · rw [h]
    exact ⟨fun d hd => (mem_unlistEntry hd).1, rfl⟩

end

theorem mem_unlist {d : Due} {i : Nat} {el : Element} (h : d ∈ (unlist i el s).csh.due) :
    d ∈ s.csh.due ∧ (d.entry = i → d.element ≠ el) := by
  simpa [unlist, imp_iff_not_or] using h

/-- An element that is taken off the due list and is unfired fires (R112, R114). -/
theorem Books.fireUnlisted (h : Books Q L R s) (q : Option Int) (i : Nat) (el : Element) (hnew : Unfired s i el)
    (hline : s.clp.line ≠ .config ∧ s.csh.halted = false) : Books Q L R (Machine.fireElement q i el (Machine.unlist i el s)) := by
  refine (h.unlist i el).fireElement q i el (fun d hd => (mem_unlist hd).2) (hnew.congr (by simp)) ?_
  simpa [Machine.unlist] using hline

/-- Where anything is listed the station has started and the scheduler is not halted. -/
theorem Books.acts_of_listed (h : Books Q L R s) {d : Due} (hd : d ∈ s.csh.due) : s.clp.line ≠ .config ∧ s.csh.halted = false :=
  h.still.resolve_left fun hq => by simp [((quiet_iff s).1 hq).2] at hd

/-- A listed element fires (R113, R114). -/
theorem Books.fireListed (h : Books Q L R s) (q : Option Int) {d : Due} (hd : d ∈ s.csh.due) :
    Books Q L R (Machine.fireElement q d.entry d.element (Machine.unlist d.entry d.element s)) := by
  refine h.fireUnlisted q _ _ (fun e he => ?_) (h.acts_of_listed hd)
  obtain ⟨-, e', he', hpending, -⟩ := h.listed d hd
  rw [he] at he'
  cases he'
  simp only [pendingElement, Bool.and_eq_true, Bool.not_eq_true'] at hpending
  exact hpending.2

/-! ## Late firing (R112) -/

/-- Which element it is. -/
def Due.key (d : Due) : Nat × Element := (d.entry, d.element)

theorem mem_pendingWhere {p : Int → Bool} {fire : Int → Time} {d : Due} : d ∈ s.pendingWhere p fire ↔
    d.entry < Config.cueCount ∧ ListedIn s.settings (s.entry d.entry) d ∧ p d.pos = true ∧ d.fire = fire d.pos := by
  unfold State.pendingWhere
  rw [mem_sortBy, List.mem_flatMap]
  constructor
  · rintro ⟨i, hi, hd⟩
    cases he : s.entry i with
    | none => simp [he] at hd
    | some e =>
      simp only [he, List.mem_map, List.mem_filter, Bool.and_eq_true] at hd
      obtain ⟨el, ⟨-, hpending, hp⟩, rfl⟩ := hd
      exact ⟨List.mem_range.1 hi, ⟨e, he, hpending, rfl⟩, hp, rfl⟩
  · rintro ⟨hi, ⟨e, he, hpending, hpos⟩, hp, hfire⟩
    refine ⟨d.entry, List.mem_range.2 hi, ?_⟩
    rw [hpos] at hp hfire
    simp only [he, List.mem_map, List.mem_filter, Bool.and_eq_true]
    refine ⟨d.element, ⟨mem_allElements _, hpending, hp⟩, ?_⟩
    rw [← hfire, ← hpos]

theorem pendingWhere_nodup (p : Int → Bool) (fire : Int → Time) : ((s.pendingWhere p fire).map Due.key).Nodup := by
  unfold State.pendingWhere
  rw [((sortBy_perm _ _).map _).nodup_iff, List.map_flatMap, List.nodup_flatMap]
  have hmem : ∀ i x, x ∈ ((match s.entry i with
      | none => []
      | some e => (allElements.filter fun el => pendingElement s.settings e el && p (elementPos s.settings e.cue el)).map fun el =>
        { entry := i, element := el, pos := elementPos s.settings e.cue el, fire := fire (elementPos s.settings e.cue el) : Due }).map
          Due.key) → x.1 = i := by
    intro i x hx
    cases he : s.entry i with
    | none => simp [he] at hx
    | some e =>
      simp only [he, List.map_map, List.mem_map] at hx
      obtain ⟨el, -, rfl⟩ := hx
      rfl
  refine ⟨fun i _ => ?_, ?_⟩
  · cases he : s.entry i with
    | none => simp
    | some e =>
      simp only [List.map_map]
      refine List.Nodup.map (fun x y hxy => (Prod.mk.inj hxy).2) (List.Nodup.filter _ ?_)
      decide
  · refine List.nodup_range.pairwise_of_forall_ne fun i _ j _ hij => ?_
    intro x hx hy
    exact hij ((hmem i x hx).symm.trans (hmem j x hy))

theorem Books.lateTurn (h : Books Q L R s) (q : Option Int) (d : Due) (hnew : Unfired s d.entry d.element)
    (hline : s.clp.line ≠ .config ∧ s.csh.halted = false) : Books Q L R (lateTurn q d s) := by
  unfold Machine.lateTurn
  dsimp only
  split
  · split
    · refine Books.fault ?_ _
      exact (h.fireUnlisted q _ _ hnew hline).congr ⟨rfl, rfl, rfl, rfl, rfl, rfl, rfl, rfl⟩ rfl (fun _ => id) (fun _ => rfl) rfl
    · exact h.unlist _ _
  · exact h.unlist _ _

/-- What a turn of late firing leaves: its own element is off the list, nothing joins it, and the others stay unfired. -/
theorem lateTurn_leaves (q : Option Int) (d : Due) (s : State) :
    (∀ x ∈ (lateTurn q d s).csh.due, x ∈ s.csh.due ∧ x.key ≠ d.key) ∧
    (∀ y : Due, y.key ≠ d.key → Unfired s y.entry y.element → Unfired (lateTurn q d s) y.entry y.element) ∧
    (lateTurn q d s).csh.halted = s.csh.halted := by
  have hkey : ∀ x : Due, (x.entry = d.entry → x.element ≠ d.element) → x.key ≠ d.key := fun x hx heq =>
    hx (Prod.mk.inj heq).1 (Prod.mk.inj heq).2
  have hoff : ∀ x ∈ (unlist d.entry d.element s).csh.due, x ∈ s.csh.due ∧ x.key ≠ d.key := fun x hx =>
    ⟨(mem_unlist hx).1, hkey x (mem_unlist hx).2⟩
  have hkept : ∀ y : Due, Unfired s y.entry y.element → Unfired (unlist d.entry d.element s) y.entry y.element := fun y hy =>
    hy.congr (by simp)
  unfold lateTurn
  dsimp only
  split
  · split
    · refine ⟨fun x hx => ?_, fun y hy hun => ?_, ?_⟩
      · exact hoff x ((fireElement_scheduler q _ _ _).1 x (by simpa using hx))
      · have hne : y.entry ≠ d.entry ∨ y.element ≠ d.element := by
          by_contra hboth
          obtain ⟨h₁, h₂⟩ := not_or.1 hboth
          exact hy (Prod.ext (not_not.1 h₁) (not_not.1 h₂))
        refine Unfired.congr (fireElement_unfired q d.entry y.entry d.element y.element (hkept y hun) hne) (by simp)
      · simp [fireElement_scheduler, unlist]
    · exact ⟨hoff, fun y _ => hkept y, by simp [unlist]⟩
  · exact ⟨hoff, fun y _ => hkept y, by simp [unlist]⟩

/-- Late firing over a list without repetition of unfired elements that holds every listed one. -/
theorem Books.lateTurns (q : Option Int) (l : List Due) (hl : (l.map Due.key).Nodup) {s : State} (h : Books Q L R s)
    (hnew : ∀ d ∈ l, Unfired s d.entry d.element) (hdue : ∀ x ∈ s.csh.due, ∃ d ∈ l, x.key = d.key)
    (hline : s.clp.line ≠ .config ∧ s.csh.halted = false) :
    Books Q L R (l.foldl (fun v d => Machine.lateTurn q d v) s) ∧ (l.foldl (fun v d => Machine.lateTurn q d v) s).csh.due = [] := by
  induction l generalizing s with
  | nil =>
    refine ⟨h, List.eq_nil_iff_forall_not_mem.2 fun x hx => ?_⟩
    obtain ⟨d, hd, -⟩ := hdue x hx
    cases hd
  | cons d l ih =>
    obtain ⟨hfresh, hl⟩ := List.nodup_cons.1 hl
    obtain ⟨hoff, hothers, hhalt⟩ := lateTurn_leaves q d s
    have hd := h.lateTurn q d (hnew d (List.mem_cons_self ..)) hline
    refine ih hl hd (fun y hy => ?_) (fun x hx => ?_) ⟨by simpa using hline.1, hhalt.trans hline.2⟩
    · exact hothers y (fun heq => hfresh (heq ▸ List.mem_map_of_mem hy)) (hnew y (List.mem_cons_of_mem _ hy))
    · obtain ⟨hmem, hkey⟩ := hoff x hx
      obtain ⟨y, hy, hxy⟩ := hdue x hmem
      rcases List.mem_cons.1 hy with rfl | hy
      · exact absurd hxy hkey
      · exact ⟨y, hy, hxy⟩

/-- Late firing of a boundary that lies behind every listed element empties the due list. -/
theorem Books.lateFiring (h : Books Q L R s) (b : Int) (hbehind : ∀ d ∈ s.csh.due, d.pos < b * 256)
    (hline : s.clp.line ≠ .config ∧ s.csh.halted = false) :
    Books Q L R (Machine.lateFiring b s) ∧ (Machine.lateFiring b s).csh.due = [] := by
  refine Books.lateTurns _ _ (pendingWhere_nodup _ _) h (fun d hd e he => ?_) (fun x hx => ?_) hline
  · obtain ⟨-, ⟨e', he', hpending, -⟩, -⟩ := mem_pendingWhere.1 hd
    rw [he] at he'
    cases he'
    simp only [pendingElement, Bool.and_eq_true, Bool.not_eq_true'] at hpending
    exact hpending.2
  · obtain ⟨-, hlisted⟩ := h.listed x hx
    have hlt : x.entry < Config.cueCount := by
      obtain ⟨e, he, -⟩ := hlisted
      exact h.size ▸ lt_of_entry he
    exact ⟨{ x with fire := 0 }, mem_pendingWhere.2 ⟨hlt, hlisted, by simpa using hbehind x hx, rfl⟩, rfl⟩

/-! ## The listing and the boundary (R110 to R115) -/

/-- An element that its reached fire time fires at the listing (R113). -/
theorem Books.fireReached (h : Books Q L R s) (d : Due) : Books Q L R (fireReached d s) := by
  unfold Machine.fireReached
  split
  · next hc => exact h.fireListed _ (by simpa using (Bool.and_eq_true_iff.1 hc).1)
  · exact h

theorem Books.fireReachedAll (l : List Due) {s : State} (h : Books Q L R s) :
    Books Q L R (l.foldl (fun v d => Machine.fireReached d v) s) := by
  induction l generalizing s with
  | nil => exact h
  | cons d l ih => exact ih (h.fireReached d)

theorem Books.listing (h : Books Q L R s) (hdue : s.csh.due = []) (hline : s.clp.line ≠ .config ∧ s.csh.halted = false) (b : Int)
    (t : Time) (n : Nat) : Books (fun p => inFrame b p = true) L R (listing b t n s) := by
  refine Books.fireReachedAll _ ?_
  exact { h with
    halt := h.halt
    still := .inr hline
    listed := fun d hd => by
      have hmem : d ∈ s.pendingWhere (inFrame b) (fireTime b t n) := by
        have hd : d ∈ s.csh.due ++ (s.pendingWhere (inFrame b) (fireTime b t n)).take (Config.dueSize - s.csh.due.length) := hd
        rw [hdue, List.nil_append] at hd
        exact List.mem_of_mem_take hd
      obtain ⟨-, hlisted, hpos, -⟩ := mem_pendingWhere.1 hmem
      exact ⟨hpos, hlisted⟩ }

theorem Books.boundaryList (h : Books Q L R s) (hdue : s.csh.due = []) (hline : s.clp.line ≠ .config ∧ s.csh.halted = false) (r : BRec) :
    Books (fun p => s.ptr.playable = true ∧ inFrame r.b p = true) L R (boundaryList r s) := by
  unfold Machine.boundaryList
  split
  · next hplay _ =>
    exact (h.listing hdue hline r.b r.stamp _).mono (fun _ _ hp => ⟨hplay, hp⟩) (fun _ => id) id
  · have hnone : Books (fun _ => False) L R s := h.mono (by simp [hdue]) (fun _ => id) id
    have hcrossed := forIndexes_invariant (Books (fun _ => False) L R) Config.cueCount _ (fun i _ hv => hv.crossEntry r.b i) s hnone
    exact hcrossed.mono (fun _ _ => False.elim) (fun _ => id) id

/-- A reference boundary that lies behind every listed element, or finds none (R110 to R115). -/
theorem Books.takeBoundary (h : Books Q L R s) (hline : s.clp.line ≠ .config) (r : BRec)
    (hdue : s.csh.due = [] ∨ r.dir = .forward ∧ s.ptr.motion = .forward ∧ ∀ d ∈ s.csh.due, d.pos < r.b * 256) :
    Books (fun p => s.ptr.playable = true ∧ r.dir = .forward ∧ inFrame r.b p = true) L R (takeBoundary r s) := by
  have hempty : s.csh.due = [] → Books (fun p => s.ptr.playable = true ∧ r.dir = .forward ∧ inFrame r.b p = true) L R s := fun hnil =>
    h.mono (by simp [hnil]) (fun _ => id) id
  unfold Machine.takeBoundary
  split
  · next hhalt =>
    exact hempty ((quiet_iff s).1 (h.still.resolve_right fun hs => by simp [hhalt] at hs)).2
  next hhalt =>
  replace hhalt : s.csh.halted = false := by simpa using hhalt
  split
  · next hforward =>
    have hbehind : ∀ d ∈ s.csh.due, d.pos < r.b * 256 := by
      rcases hdue with hnil | ⟨-, -, hpos⟩
      · simp [hnil]
      · exact hpos
    obtain ⟨hlate, hnil⟩ := h.lateFiring r.b hbehind ⟨hline, hhalt⟩
    have hptr : (Machine.lateFiring r.b s).ptr = s.ptr := by simp
    have hhalt' : (Machine.lateFiring r.b s).csh.halted = false := by
      refine Eq.trans ?_ hhalt
      exact foldl_same (fun v => v.csh.halted) _ (fun v d => (lateTurn_leaves _ d v).2.2) _ s
    have hlisted := hlate.boundaryList hnil ⟨by simpa using hline, hhalt'⟩ r
    rw [hptr] at hlisted
    have hdone := forIndexes_invariant (Books _ L R) Config.cueCount _ (fun i _ hv => hv.goBack r.b i) _ hlisted
    exact hdone.mono (fun _ _ hp => ⟨hp.1, hforward.1, hp.2⟩) (fun _ => id) id
  · next hforward =>
    exact (hempty (hdue.resolve_right fun hd => hforward ⟨hd.1, hd.2.1⟩)).rederiveAll _

theorem Books.takeHold (h : Books Q L R s) : Books Q L R (takeHold s) := by
  unfold Machine.takeHold
  split
  · exact h
  · exact h.rederiveAll _

end

end Sys2Proof.Machine
end

section
/-! SUPPORT. The books over events at the tracker. -/

namespace Sys2Proof.Machine
open Sys2Proof

/-- The reference is playable and the position lies in the frame of its newest record, which is a forward one. -/
def Ptr.InReach (p : Ptr) (x : Int) : Prop := p.playable = true ∧ ∃ r, p.recNew = some r ∧ r.dir = .forward ∧ inFrame r.b x = true

/-- The books of a part between commands: every listed element lies in reach, both locks stand for their punches, cues run in a playable
reference alone, and playable says what R61 says. -/
def State.Booked (s : State) : Prop := Books s.ptr.InReach (fun _ => True) True s ∧ s.ptr.playable = s.ptr.isPlayable

/-- `s` with the new reference, its status changes and a SOURCE_LOST: what an event leaves before its reports (R62). -/
def State.noted (s : State) (ev : TrackerEvent) : State :=
  let after := ev.settle s.ptr
  let v := guarded (decide (after.motion ≠ s.ptr.motion)) statusChange
    (guarded (decide (after.state ≠ s.ptr.state)) statusChange { s with ptr := after })
  match ev.lost with
  | some n => recordFault { kind := .sourceLost, pos := after.frozen, sender := some (BitVec.ofNat 5 n) } v
  | none => v

/-- An event: the new reference, its reports, its boundary, its hold update. -/
theorem trackerEvent_eq (ev : TrackerEvent) (s : State) : trackerEvent ev s =
    guarded ev.hold takeHold
      (match ev.boundary with
        | some r => takeBoundary r ((ev.reports s.ptr (ev.settle s.ptr)).foldl (fun v r => deliverReport r v) (s.noted ev))
        | none => (ev.reports s.ptr (ev.settle s.ptr)).foldl (fun v r => deliverReport r v) (s.noted ev)) := rfl

/-- An event carries a boundary with the record it takes, and otherwise the reference keeps its record or a JUMP is reported; a boundary
that neither JUMP nor WRAP reports and that leaves an interval is the next frame's (R53, R54, R58, R59). -/
structure TrackerEvent.Continues (ev : TrackerEvent) (p : Ptr) : Prop where
  kept : ev.boundary = none → ev.jump = false → ev.ptr.recNew = p.recNew
  taken : ∀ r, ev.boundary = some r → ev.ptr.recNew = some r ∧
    (ev.jump = false → ev.wrap = false → ev.ptr.interval.isSome = true → consecutive r p.recNew = true ∧ r.wrap = false)

section
variable {Q : Int → Prop} {L : Chan → Prop} {R : Prop} {s : State}

theorem Books.guarded {p : Bool} {f : State → State} (h : Books Q L R s) (hf : ∀ {v}, Books Q L R v → Books Q L R (f v)) :
    Books Q L R (Machine.guarded p f s) := by
  cases p
  · exact h
  · exact hf h

/-- The books move to a new reference in which, where `R` holds, cues may run. -/
theorem Books.withPtr (h : Books Q L R s) (p : Ptr) {R' : Prop} (hplay : R' → s.anyRunning = true → p.playable = true) :
    Books Q L R' { s with ptr := p } :=
  { h with plays := hplay }

theorem Books.noted (h : Books Q L R s) (ev : TrackerEvent) {R' : Prop}
    (hplay : R' → s.anyRunning = true → (ev.settle s.ptr).playable = true) : Books Q L R' (s.noted ev) := by
  have hv : Books Q L R' (Machine.guarded (decide ((ev.settle s.ptr).motion ≠ s.ptr.motion)) statusChange
      (Machine.guarded (decide ((ev.settle s.ptr).state ≠ s.ptr.state)) statusChange { s with ptr := ev.settle s.ptr })) :=
    ((h.withPtr _ hplay).guarded Books.status).guarded Books.status
  unfold State.noted
  dsimp only
  split
  · exact hv.fault _
  · exact hv

theorem noted_ptr (ev : TrackerEvent) (s : State) : (s.noted ev).ptr = ev.settle s.ptr := by
  have hptr : ∀ (p : Bool) (v : State), (guarded p statusChange v).ptr = v.ptr := fun p v => by cases p <;> simp [guarded]
  unfold State.noted
  dsimp only
  split <;> simp [hptr]

theorem Books.deliverReports (h : Books Q L R s) (l : List Report) : Books Q L R (l.foldl (fun v r => Machine.deliverReport r v) s) := by
  induction l generalizing s with
  | nil => exact h
  | cons r l ih => exact ih (h.deliverReport r)

/-- A report that acts ends every run and empties the due list (R126). -/
theorem Books.deliverReport_acts (h : Books Q L R s) (r : Report) (hr : r ≠ .playable true) :
    Books (fun _ => False) L True (Machine.deliverReport r s) := by
  unfold Machine.deliverReport
  refine ((Books.clearTally ?_).lockReport r .a).lockReport r .b
  unfold schedulerReport
  split
  · next hor =>
    have hhalt : s.csh.halted = true := hor.resolve_right hr
    obtain ⟨hcalm, hnil⟩ := (quiet_iff s).1 (h.still.resolve_right fun hs => by simp [hhalt] at hs)
    exact { h with
      listed := by simp [hnil]
      plays := by simp [hcalm] }
  · exact (h.interrupted s.here).1

theorem Books.deliverReports_acts (h : Books Q L R s) (l : List Report) (hl : ∃ r ∈ l, r ≠ .playable true) :
    Books (fun _ => False) L True (l.foldl (fun v r => Machine.deliverReport r v) s) := by
  induction l generalizing s with
  | nil => obtain ⟨r, hr, -⟩ := hl; cases hr
  | cons x l ih =>
    by_cases hx : x = .playable true
    · refine ih (h.deliverReport x) ?_
      obtain ⟨r, hr, hne⟩ := hl
      exact ⟨r, (List.mem_cons.1 hr).resolve_left fun heq => hne (heq.trans hx), hne⟩
    · exact (h.deliverReport_acts x hx).deliverReports l

theorem noted_line (ev : TrackerEvent) (s : State) : (s.noted ev).clp.line = s.clp.line := by
  have hline : ∀ (p : Bool) (v : State), (guarded p statusChange v).clp.line = v.clp.line := fun p v => by cases p <;> simp [guarded]
  unfold State.noted
  dsimp only
  split <;> simp [hline]

/-- The next frame's boundary of a forward reference lies behind what its frame holds. -/
theorem next_frame {r o : BRec} {x : Int} (hc : consecutive r (some o) = true) (hw : r.wrap = false) (ho : o.dir = .forward)
    (hx : inFrame o.b x = true) : r.dir = .forward ∧ x < r.b * 256 := by
  have hdir : r.dir = .forward ∧ r.b = o.b + 1 := by
    cases hd : r.dir <;> simp [consecutive, hd, ho, hw] at hc ⊢
    exact hc
  simp only [inFrame, Bool.and_eq_true, decide_eq_true_eq] at hx
  exact ⟨hdir.1, by omega⟩

/-- After the reports of an event come its boundary and its hold update. -/
theorem booked_of_reported {after : Ptr} {ev : TrackerEvent} (h : Books Q (fun _ => True) True s) (hptr : s.ptr = after)
    (hplay : after.playable = after.isPlayable) (hrec : ∀ r, ev.boundary = some r → after.recNew = some r ∧ s.clp.line ≠ .config)
    (hkept : ev.boundary = none → ∀ x, Q x → after.InReach x)
    (hpassed : ∀ r, ev.boundary = some r → ∀ x, Q x → r.dir = .forward ∧ after.motion = .forward ∧ x < r.b * 256) :
    (guarded ev.hold takeHold (match ev.boundary with
      | some r => takeBoundary r s
      | none => s)).Booked := by
  have hheld : ∀ v : State, v.ptr = after → Books after.InReach (fun _ => True) True v → (guarded ev.hold takeHold v).Booked := by
    intro v hv hbooks
    have hp : (guarded ev.hold takeHold v).ptr = after := by cases ev.hold <;> simp [guarded, hv]
    unfold State.Booked
    rw [hp]
    exact ⟨hbooks.guarded Books.takeHold, hplay⟩
  split
  · next r hr =>
    refine hheld _ (by simp [hptr]) ?_
    have hdue : s.csh.due = [] ∨ r.dir = .forward ∧ s.ptr.motion = .forward ∧ ∀ d ∈ s.csh.due, d.pos < r.b * 256 := by
      cases hnil : s.csh.due with
      | nil => exact .inl rfl
      | cons d l =>
        have hall : ∀ x ∈ d :: l, r.dir = .forward ∧ after.motion = .forward ∧ x.pos < r.b * 256 := fun x hx =>
          hpassed r hr x.pos (h.listed x (hnil ▸ hx)).1
        obtain ⟨hdir, hm, -⟩ := hall d (List.mem_cons_self ..)
        exact .inr ⟨hdir, hptr ▸ hm, fun x hx => (hall x hx).2.2⟩
    refine (h.takeBoundary (hrec r hr).2 r hdue).mono (fun d _ hq => ?_) (fun _ => id) id
    rw [hptr] at hq
    exact ⟨hq.1, r, (hrec r hr).1, hq.2⟩
  · next hnone => exact hheld _ hptr (h.mono (fun d _ => hkept hnone d.pos) (fun _ => id) id)

theorem settle_interval {ev : TrackerEvent} {p : Ptr} (h : (ev.settle p).interval.isSome = true) : ev.ptr.interval.isSome = true := by
  rw [settle_eq] at h
  dsimp only at h
  split at h
  · cases h
  · exact h

/-- Every event keeps the books. -/
theorem trackerEvent_booked {ev : TrackerEvent} (h : s.Booked) (hev : ev.Continues s.ptr)
    (hline : ev.boundary.isSome = true → s.clp.line ≠ .config) : (trackerEvent ev s).Booked := by
  obtain ⟨hbooks, hplay⟩ := h
  have hrec : ∀ r, ev.boundary = some r → (ev.settle s.ptr).recNew = some r ∧
      ((ev.reports s.ptr (ev.settle s.ptr)).foldl (fun v r => deliverReport r v) (s.noted ev)).clp.line ≠ .config := fun r hr =>
    ⟨by rw [(settle_kept ev s.ptr).2.2.2.2.1]; exact (hev.taken r hr).1,
      by rw [(deliverReports_line _ _).1, noted_line]; exact hline (by simp [hr])⟩
  have hptr : ((ev.reports s.ptr (ev.settle s.ptr)).foldl (fun v r => deliverReport r v) (s.noted ev)).ptr = ev.settle s.ptr := by
    simp [noted_ptr]
  have hempty : Books (fun _ => False) (fun _ => True) True
      ((ev.reports s.ptr (ev.settle s.ptr)).foldl (fun v r => deliverReport r v) (s.noted ev)) → (trackerEvent ev s).Booked := fun hb => by
    rw [trackerEvent_eq]
    exact booked_of_reported hb hptr (settle_playable ev s.ptr) hrec (fun _ _ => False.elim) fun _ _ _ => False.elim
  cases hp : s.ptr.playable
  · have hcalm : s.anyRunning = false := by
      rw [Bool.eq_false_iff]
      intro hr
      simp [hbooks.plays trivial hr] at hp
    have hnone : Books (fun _ => False) (fun _ => True) True s :=
      hbooks.mono (fun d _ hreach => by simp [hp, Ptr.InReach] at hreach) (fun _ => id) id
    exact hempty ((hnone.noted ev fun _ hr => by simp [hcalm] at hr).deliverReports _)
  by_cases hacts : ∃ r ∈ ev.reports s.ptr (ev.settle s.ptr), r ≠ .playable true
  · exact hempty ((hbooks.noted ev (R' := False) nofun).deliverReports_acts _ hacts)
  have hnone : ∀ r, r ≠ .playable true → r ∉ ev.reports s.ptr (ev.settle s.ptr) := fun r hr hmem => hacts ⟨r, hmem, hr⟩
  have hafter : (ev.settle s.ptr).playable = true := by
    cases hf : (ev.settle s.ptr).playable
    · exact absurd (by simp [TrackerEvent.reports, hp, hf]) (hnone (.playable false) (by decide))
    · rfl
  have hjump : ev.jump = false := by
    cases hj : ev.jump
    · rfl
    · exact absurd (by simp [TrackerEvent.reports, hj]) (hnone .jump (by decide))
  have hwrap : ev.wrap = false := by
    cases hw : ev.wrap
    · rfl
    · exact absurd (by simp [TrackerEvent.reports, hw]) (hnone .wrap (by decide))
  obtain ⟨-, hforward, i, hi, -⟩ := (isPlayable_iff _).1 ((settle_playable ev s.ptr).symm.trans hafter)
  rw [trackerEvent_eq]
  refine booked_of_reported ((hbooks.noted ev fun _ _ => hafter).deliverReports _) hptr (settle_playable ev s.ptr) hrec
    (fun hb x hx => ?_) fun r hr x hx => ?_
  · obtain ⟨-, o, ho, hdir, hin⟩ := hx
    refine ⟨hafter, o, ?_, hdir, hin⟩
    rw [(settle_kept ev s.ptr).2.2.2.2.1, hev.kept hb hjump, ho]
  · obtain ⟨-, o, ho, hdir, hin⟩ := hx
    obtain ⟨hcons, hw⟩ := (hev.taken r hr).2 hjump hwrap (settle_interval (p := s.ptr) (by rw [hi]; rfl))
    rw [ho] at hcons
    obtain ⟨hd, hlt⟩ := next_frame hcons hw hdir hin
    exact ⟨hd, hforward, hlt⟩

end

end Sys2Proof.Machine
end

section
/-! Punch lines and cue lights count what RUNNING cues hold open, over every operation. -/

namespace Sys2Proof.Machine
open Sys2Proof

/-! ## The invariant is the books, and motions that are consistent -/

theorem dueOk_iff (s : State) : s.dueOk = true ↔
    ∀ d ∈ s.csh.due, s.ptr.InReach d.pos ∧ ListedIn s.settings (s.entry d.entry) d := by
  have hlisted : ∀ d : Due, ((s.entry d.entry).any fun e =>
      pendingElement s.settings e d.element && decide (d.pos = elementPos s.settings e.cue d.element)) = true ↔
        ListedIn s.settings (s.entry d.entry) d := by
    intro d
    cases he : s.entry d.entry <;> simp [ListedIn]
  cases hdue : s.csh.due with
  | nil => simp [State.dueOk, hdue]
  | cons d l =>
    cases hr : s.ptr.recNew with
    | none =>
      have hno : ∀ x, ¬s.ptr.InReach x := fun x hx => by
        obtain ⟨-, r, hr', -⟩ := hx
        simp [hr] at hr'
      have hfalse : s.dueOk = false := by simp [State.dueOk, hdue, hr]
      rw [hfalse]
      exact ⟨nofun, fun h => absurd (h d (List.mem_cons_self ..)).1 (hno _)⟩
    | some r =>
      have hreach : ∀ x, s.ptr.InReach x ↔ s.ptr.playable = true ∧ r.dir = .forward ∧ inFrame r.b x = true := fun x => by
        simp [Ptr.InReach, hr]
      simp only [State.dueOk, hdue, hr, List.isEmpty_cons, Bool.false_or, Bool.and_eq_true, decide_eq_true_eq, List.all_eq_true,
        hlisted, hreach]
      constructor
      · rintro ⟨hp, hd, hall⟩ x hx
        exact ⟨⟨hp, hd, (hall x hx).1⟩, (hall x hx).2⟩
      · intro h
        obtain ⟨⟨hp, hd, -⟩, -⟩ := h d (List.mem_cons_self ..)
        exact ⟨hp, hd, fun x hx => ⟨(h x hx).1.2.2, (h x hx).2⟩⟩

theorem runs_ok_iff (s : State) : ((s.ctb.entries.filterMap id).all fun e => e.run.ok) = true ↔
    ∀ i e, s.entry i = some e → e.run.ok = true := by
  rw [List.all_eq_true]
  constructor
  · intro h i e he
    exact h e (List.mem_filterMap.2 ⟨_, entry_mem he, rfl⟩)
  · intro h e he
    obtain ⟨o, ho, rfl⟩ := List.mem_filterMap.1 he
    obtain ⟨j, hj⟩ := mem_entry ho
    exact h j e hj

theorem outputsOk_iff (s : State) : s.outputsOk = true ↔ s.Booked ∧ s.motionsOk := by
  have hmotions : s.motionsOk ↔ s.chA.motionOk = true ∧ s.chB.motionOk = true := forall_chan .a
  have hpunch : (∀ c, s.cou.punch c = s.openCount c) ↔
      s.cou.punchA = (s.runningCount fun e => e.run.punchOpen && decide (s.settings.recorder e.cue.group = some .a)) ∧
      s.cou.punchB = s.runningCount fun e => e.run.punchOpen && decide (s.settings.recorder e.cue.group = some .b) := forall_chan .a
  have hlocked : (∀ c, s.cou.punch c = 0 ∨ s.csh.mode = .record ∧ (s.lock c).state = .sync) ↔
      (s.cou.punchA = 0 ∨ s.csh.mode = .record ∧ s.lockA.state = .sync) ∧
      (s.cou.punchB = 0 ∨ s.csh.mode = .record ∧ s.lockB.state = .sync) := forall_chan .a
  have hrunning : (s.anyRunning = true → s.ptr.playable = true) ↔ s.anyRunning = false ∨ s.ptr.playable = true := by
    cases s.anyRunning <;> simp
  have hstill : (s.quiet = true ∨ s.clp.line ≠ .config ∧ s.csh.halted = false) ↔
      (s.clp.line ≠ .config ∨ s.quiet = true) ∧ (s.csh.halted = false ∨ s.quiet = true) := by
    rw [or_comm, and_or_right]
  simp only [State.outputsOk, Bool.and_eq_true, Bool.or_eq_true, decide_eq_true_eq, Bool.not_eq_true', dueOk_iff, runs_ok_iff]
  constructor
  · rintro ⟨⟨⟨⟨⟨⟨⟨⟨⟨⟨⟨⟨⟨⟨hsize, hline⟩, hhalt⟩, hquiet⟩, hplay⟩, hruns⟩, hA⟩, hB⟩, hok⟩, hdue⟩, hpA⟩, hpB⟩, hlA⟩, hlB⟩, hlights⟩
    have hcounts := hpunch.2 ⟨hpA, hpB⟩
    refine ⟨⟨⟨hsize, hhalt, hstill.2 ⟨hline, hquiet⟩, hok, hdue, fun _ => hrunning.2 hruns, fun c _ => ?_, hcounts, hlights⟩, hplay⟩,
      hmotions.2 ⟨hA, hB⟩⟩
    rw [← hcounts c]
    exact hlocked.2 ⟨hlA, hlB⟩ c
  · rintro ⟨⟨h, hplay⟩, hm⟩
    obtain ⟨hcounts, hlights⟩ := h.held
    obtain ⟨hline, hquiet⟩ := hstill.1 h.still
    obtain ⟨hpA, hpB⟩ := hpunch.1 hcounts
    obtain ⟨hlA, hlB⟩ := hlocked.1 fun c => by rw [hcounts c]; exact h.locked c trivial
    obtain ⟨hA, hB⟩ := hmotions.1 hm
    exact ⟨⟨⟨⟨⟨⟨⟨⟨⟨⟨⟨⟨⟨⟨h.size, hline⟩, h.halt⟩, hquiet⟩, hplay⟩, hrunning.1 (h.plays trivial)⟩, hA⟩, hB⟩, h.runs⟩, h.listed⟩, hpA⟩, hpB⟩,
      hlA⟩, hlB⟩, hlights⟩

/-! ## Events that continue the reference -/

section
variable {ev : TrackerEvent} {p : Ptr}

theorem TrackerEvent.Continues.of_kept (hb : ev.boundary = none) (hr : ev.jump = false → ev.ptr.recNew = p.recNew) : ev.Continues p :=
  ⟨fun _ => hr, fun r hr' => by simp [hb] at hr'⟩

theorem TrackerEvent.Continues.choose (q : Ptr) (hr : q.recNew = p.recNew) (t : Time) : ((TrackerEvent.of q).choose t).Continues p := by
  unfold TrackerEvent.choose
  (repeat' split)
  · exact .of_kept rfl fun _ => hr
  · exact .of_kept rfl nofun
  · exact .of_kept rfl fun _ => hr
  · exact .of_kept rfl fun _ => hr

/-- A record that the reference takes (R53, R54, R58, R59). -/
theorem TrackerEvent.Continues.takeRecord (hr : ev.ptr.recNew = p.recNew) (r : BRec) : (ev.takeRecord r).Continues p := by
  refine ⟨nofun, fun r' hr' => ?_⟩
  obtain rfl : r = r' := Option.some.inj hr'
  refine ⟨rfl, fun _ hw hi => ⟨?_, ?_⟩⟩
  · rw [← hr]
    by_contra hc
    simp [TrackerEvent.takeRecord, hc] at hi
  · simp only [TrackerEvent.takeRecord, Bool.or_eq_false_iff] at hw
    exact hw.2

theorem TrackerEvent.Continues.takeHold (h : ev.Continues p) (m : Motion) (x : Int) : (ev.takeHold m x).Continues p := by
  have hjump : (ev.takeHold m x).jump = false → ev.jump = false := fun hj => (Bool.or_eq_false_iff.1 hj).1
  refine ⟨fun hb hj => h.kept hb (hjump hj), fun r hr => ?_⟩
  obtain ⟨hrec, hnext⟩ := h.taken r hr
  refine ⟨hrec, fun hj hw hi => hnext (hjump hj) hw ?_⟩
  unfold TrackerEvent.takeHold at hi
  dsimp only at hi
  split at hi
  · cases hi
  · exact hi

theorem TrackerEvent.Continues.holdLocal (h : ev.Continues p) (m : Motion) (x : Int) : (ev.holdLocal m x).Continues p := by
  have hmod : TrackerEvent.Continues { ev with ptr := ev.ptr.modLocal fun e => { e with hold := some x } } p := ⟨h.kept, h.taken⟩
  unfold TrackerEvent.holdLocal
  dsimp only
  split
  · exact TrackerEvent.Continues.takeHold hmod m x
  · exact hmod

end

theorem knownEvent_kept (n : Nat) (e : Source) (p : Beacon) (t : Time) (s : State) :
    (knownEvent n e p t s).boundary = none ∧ ((knownEvent n e p t s).jump = false → (knownEvent n e p t s).ptr.recNew = s.ptr.recNew) := by
  unfold knownEvent TrackerEvent.choose
  dsimp only
  (repeat' split)
  · exact ⟨rfl, fun _ => rfl⟩
  · exact ⟨rfl, fun _ => rfl⟩
  · exact ⟨rfl, nofun⟩
  · exact ⟨rfl, fun _ => rfl⟩
  · exact ⟨rfl, fun _ => rfl⟩

theorem TrackerEvent.Continues.passBeacon (n : Nat) (e : Source) (p : Beacon) (t : Time) (s : State) (hj : (knownEvent n e p t s).jump = false) :
    ((knownEvent n e p t s).passBeacon n p t).Continues s.ptr := by
  obtain ⟨hb, hr⟩ := knownEvent_kept n e p t s
  have hkept : (knownEvent n e p t s).Continues s.ptr := .of_kept hb hr
  unfold TrackerEvent.passBeacon
  split
  · split
    · exact TrackerEvent.Continues.takeRecord (hr hj) _
    · exact hkept.takeHold _ _
    · exact hkept
  · exact hkept

theorem motionEvent_continues (c : Chan) (s : State) : (motionEvent c s).Continues s.ptr := by
  unfold motionEvent
  dsimp only
  have hkept : (TrackerEvent.of (({ s.ptr with chanInterval := none }).modLocal fun e =>
      { e with motion := localMotion (s.chan c).motion none, interval := none })).Continues s.ptr := .of_kept rfl fun _ => rfl
  split
  · exact hkept.holdLocal _ _
  · exact hkept

theorem recordEvent_continues (c : Chan) (r : BRec) (s : State) : (recordEvent c r s).Continues s.ptr := by
  have htake : ∀ ev : TrackerEvent, ev.boundary = none → ev.ptr.recNew = s.ptr.recNew →
      (if ev.ptr.followsLocal then ev.takeRecord r else ev).Continues s.ptr := by
    intro ev hb hr
    split
    · exact TrackerEvent.Continues.takeRecord hr r
    · exact .of_kept hb fun _ => hr
  unfold recordEvent
  dsimp only
  split
  · exact TrackerEvent.Continues.holdLocal (htake _ rfl rfl) _ _
  · exact htake _ rfl rfl

/-! ## Operations that move no cue -/

section
variable {s u : State}

/-- The books look at the reference's state, motion, interval, record and playable alone. -/
theorem booked_congr (h : s.Booked) (hset : u.settings = s.settings) (hline : u.clp.line = s.clp.line)
    (hptr : ∃ b t, u.ptr = { s.ptr with lastBeacon := b, holdTimer := t }) (hA : u.lockA.state = s.lockA.state)
    (hB : u.lockB.state = s.lockB.state) (he : u.ctb.entries = s.ctb.entries) (hcsh : u.csh = s.csh) (hcou : u.cou = s.cou) :
    u.Booked := by
  obtain ⟨hbooks, hplay⟩ := h
  obtain ⟨b, t, hptr⟩ := hptr
  unfold State.Booked
  rw [hptr]
  exact ⟨hbooks.other hset hline (by rw [hptr]) hA hB he hcsh hcou, hplay⟩

theorem booked_of_kept (h : s.Booked) (hset : u.settings = s.settings) (hline : u.clp.line = s.clp.line) (hptr : u.ptr = s.ptr)
    (hA : u.lockA.state = s.lockA.state) (hB : u.lockB.state = s.lockB.state) (he : u.ctb.entries = s.ctb.entries)
    (hcsh : u.csh = s.csh) (hcou : u.cou = s.cou) : u.Booked := booked_congr h hset hline ⟨_, _, hptr⟩ hA hB he hcsh hcou

theorem booked_of_books (h : s.Booked) (hptr : u.ptr = s.ptr) (hbooks : Books s.ptr.InReach (fun _ => True) True u) : u.Booked := by
  unfold State.Booked
  rw [hptr]
  exact ⟨hbooks, h.2⟩

theorem booked_same (hsame : SameCore s u) (h : s.Booked) : u.Booked := by
  obtain ⟨-, hset, hline, -, -, hptr, hA, hB, he, hcsh, hcou⟩ := hsame
  exact booked_congr h hset hline ⟨_, _, hptr⟩ (by rw [hA]) (by rw [hB]) he hcsh hcou

/-- The line state changes, to one other than CONFIG. -/
theorem Books.withLine {Q : Int → Prop} {L : Chan → Prop} {R : Prop} (h : Books Q L R s) (f : Clp → Clp)
    (hl : (f s.clp).line ≠ .config) : Books Q L R (s.modClp f) :=
  { h with still := h.still.imp_right fun hs => ⟨hl, hs.2⟩ }

/-- Where nothing runs and nothing is listed, the settings and the line state are free. -/
theorem Books.of_still {Q Q' : Int → Prop} {L L' : Chan → Prop} {R R' : Prop} (h : Books Q L R s) (hq : s.quiet = true)
    (hctb : u.ctb = s.ctb) (hcsh : u.csh = s.csh) (hcou : u.cou = s.cou) : Books Q' L' R' u := by
  obtain ⟨hcalm, -⟩ := (quiet_iff s).1 hq
  refine Books.of_quiet ((quiet_of_entries (by rw [hctb]) (by rw [hcsh])).trans hq) (by rw [hctb, h.size]) (by rw [hcou, hcsh, h.halt])
    (fun i e he => h.runs i e ((entry_congr hctb i).symm.trans he)) ⟨fun c => ?_, ?_⟩
  · rw [hcou, h.held.1 c]
    exact runningCount_calm hcalm _
  · rw [hcou, h.held.2]
    have hzero : ∀ p, s.litCount p = 0 := fun p => runningCount_calm hcalm _
    simp [Settings.served, hzero]

/-- Before START nothing runs and nothing is listed. -/
theorem Books.quiet_of_config {Q : Int → Prop} {L : Chan → Prop} {R : Prop} (h : Books Q L R s) (hl : s.clp.line = .config) :
    s.quiet = true := h.still.resolve_right fun hs => hs.1 hl

theorem reset_booked (h : SameCore (resetBlocks s) s) : s.Booked ∧ s.quiet = true := by
  obtain ⟨-, hset, -, -, -, hptr, -, -, he, hcsh, hcou⟩ := h
  have hnone : ∀ i, s.entry i = none := fun i => by
    cases hi : s.entry i with
    | none => rfl
    | some e =>
      have hmem := entry_mem hi
      rw [he] at hmem
      exact absurd (List.eq_of_mem_replicate hmem) nofun
  have hq : s.quiet = true := by
    refine (quiet_iff s).2 ⟨?_, by rw [hcsh]; rfl⟩
    rw [Bool.eq_false_iff, ne_eq, anyRunning_iff]
    rintro ⟨j, e, hj, -⟩
    simp [hnone] at hj
  refine ⟨⟨Books.of_quiet hq ?_ ?_ ?_ ⟨?_, ?_⟩, ?_⟩, hq⟩
  · rw [he]; rfl
  · rw [hcou, hcsh]; rfl
  · intro i e hi
    simp [hnone] at hi
  · intro c
    rw [hcou]
    cases c <;> rfl
  · rw [hcou]; rfl
  · rw [hptr]; rfl

end

/-- The duplicate notice ends every run, empties the due list and releases the outputs (R127, R143). -/
theorem halted_booked {Q : Int → Prop} {L : Chan → Prop} {R : Prop} {s : State} (h : Books Q L R s)
    (hplay : s.ptr.playable = s.ptr.isPlayable) : (releaseOutputs (haltScheduler s)).Booked := by
  have hctb : (releaseOutputs (haltScheduler s)).ctb = (interruptAll s).ctb := by simp [haltScheduler]
  have hcsh : (releaseOutputs (haltScheduler s)).csh = { (interruptAll s).csh with due := [], halted := true } := by
    simp [haltScheduler, emptyDue]
  have hcou := releaseOutputs_cou (haltScheduler s)
  have hq : (releaseOutputs (haltScheduler s)).quiet = true := by
    refine (quiet_iff _).2 ⟨?_, by rw [hcsh]⟩
    have hrun : (releaseOutputs (haltScheduler s)).anyRunning = (interruptAll s).anyRunning := by simp only [State.anyRunning, hctb]
    rw [hrun, interruptAll_ended h]
  refine ⟨Books.of_quiet hq (by rw [hctb, h.interruptAll.size]) (by rw [hcou, hcsh])
    (fun i e he => h.interruptAll.runs i e ((entry_congr hctb i).symm.trans he)) ⟨fun c => ?_, ?_⟩, by simpa using hplay⟩
  · rw [hcou]
    cases c <;> rfl
  · rw [hcou]; rfl

/-! ## Operations that move the reference -/

section
variable {s : State} (h : s.Booked)
include h

theorem choose_booked (q : Ptr) (hr : q.recNew = s.ptr.recNew) : (trackerEvent ((TrackerEvent.of q).choose s.timebase) s).Booked := by
  have hb : ((TrackerEvent.of q).choose s.timebase).boundary = none := by
    unfold TrackerEvent.choose
    (repeat' split) <;> rfl
  exact trackerEvent_booked h (.choose q hr _) (by rw [hb]; nofun)

theorem applyBeacon_booked (n : BitVec 5) (p : Beacon) (t : Time) (hl : s.listening = true) : (applyBeacon n p t s).Booked := by
  have hline := line_of_listening hl
  unfold applyBeacon
  split
  · next e _ =>
    rw [beaconKnown_eq]
    split
    · obtain ⟨hb, hr⟩ := knownEvent_kept n.toNat e p t s
      exact trackerEvent_booked h (.of_kept hb hr) fun _ => hline
    · next hj => exact trackerEvent_booked h (.passBeacon n.toNat e p t s (by simpa using hj)) fun _ => hline
  · unfold beaconNew
    dsimp only
    (repeat' split)
    · exact choose_booked h _ rfl
    · exact choose_booked h _ rfl
    all_goals exact h

theorem startTracker_booked : (startTracker s).Booked := by
  unfold startTracker
  split
  · exact h
  · exact choose_booked h _ rfl

/-- START of a part in which nothing runs (R188). -/
theorem startPart_booked (hq : s.quiet = true) : (startPart s).Booked := by
  have hready : s.atTracker.Booked := by
    refine ⟨h.1.of_still hq (by simp) (by simp) (by simp [State.atTracker]), ?_⟩
    have hptr : s.atTracker.ptr = s.ptr := by simp
    rw [hptr]
    exact h.2
  rw [startPart_stages]
  exact booked_of_kept (startTracker_booked hready) (by simp) (by simp) (by simp) (by simp) (by simp) (by simp) (by simp) (by simp)

theorem sendHold_booked (x : Int) : (sendHold x s).Booked :=
  booked_congr h (by simp) (by simp) ⟨_, _, sendHold_ptr x s⟩ (by simp) (by simp) (by simp) (by simp) (by simp)

theorem pictureMotion_booked (c : Chan) : (pictureMotion c s).Booked := by
  have hbeacon : (motionBeacon c s).Booked :=
    booked_congr h (by simp) (by simp) (motionBeacon_ptr c s) (by simp) (by simp) (by simp) (by simp) (by simp)
  have hb : (motionEvent c (motionBeacon c s)).boundary = none := by
    unfold motionEvent TrackerEvent.holdLocal
    dsimp only
    (repeat' split) <;> rfl
  rw [pictureMotion_eq]
  exact trackerEvent_booked hbeacon (motionEvent_continues c _) (by rw [hb]; nofun)

theorem pictureRecord_booked (c : Chan) (r : BRec) (hl : s.clp.line ≠ .config) : (pictureRecord c r s).Booked := by
  have hptr : ∃ b t, (recordBeaconed c r s).ptr = { s.ptr with lastBeacon := b, holdTimer := t } := by
    obtain ⟨b, hb⟩ := recordBeacon_ptr c (channelInterval (s.chan c).recNew (s.chan c).recOld) r s
    exact ⟨b, s.ptr.holdTimer, hb⟩
  have hbeacon : (recordBeaconed c r s).Booked :=
    booked_congr h (by simp [recordBeaconed]) (by simp [recordBeaconed]) hptr (by simp [recordBeaconed]) (by simp [recordBeaconed])
      (by simp [recordBeaconed]) (by simp [recordBeaconed]) (by simp [recordBeaconed])
  rw [pictureRecord_eq]
  exact trackerEvent_booked hbeacon (recordEvent_continues c r _) fun _ => by simpa [recordBeaconed] using hl

theorem holdTimerExpiry_booked (c : Chan) : (holdTimerExpiry c s).Booked := by
  have hb : ∀ ev : TrackerEvent, ∀ m x, ev.boundary = none → (ev.holdLocal m x).boundary = none := by
    intro ev m x hb
    unfold TrackerEvent.holdLocal
    dsimp only
    split <;> exact hb
  have hkept : ∀ v : State, (TrackerEvent.of v.ptr).Continues v.ptr := fun v => .of_kept rfl fun _ => rfl
  exact trackerEvent_booked (sendHold_booked h _) ((hkept _).holdLocal _ _) (by rw [hb _ _ _ rfl]; nofun)

theorem enterDuplicate_booked : (enterDuplicate s).Booked := by
  have hline : Books s.ptr.InReach (fun _ => True) True (s.modClp fun c => { c with
      line := .duplicate, inFlight := none, queue := [], slot := none, joinTimer := none, spacingTimer := none, statusDue := false }) :=
    h.1.withLine _ nofun
  exact halted_booked (hline.fault _) (by simpa using h.2)

end

theorem booked_channel : ChannelInvariant False State.Booked where
  chan c ch h := booked_of_kept h (by simp) (by simp) (by simp) (by simp) (by simp) (by simp) (by simp) (by simp)
  pins f h := booked_of_kept h rfl rfl rfl rfl rfl rfl rfl rfl
  fault i h := booked_of_books h (by simp) (h.1.fault i)
  motion c h := by
    unfold deliverMotion
    split
    · exact h
    · exact pictureMotion_booked h c
    · exact booked_of_books h (by simp) (h.1.lockMotion c)
  record c r h hl _ := by
    unfold deliverRecord
    split
    · exact h
    · exact pictureRecord_booked h c r hl
    · exact booked_of_books h (by simp) (h.1.lockBoundary c r)

/-! ## Every operation -/

theorem act_booked {s u : State} (hact : Act s u) (h : s.Booked) : u.Booked := by
  cases hact with
  | idle => exact h
  | written hl g => exact ⟨h.1.of_still (h.1.quiet_of_config hl) rfl rfl rfl, h.2⟩
  | cleared _ hreset => exact (reset_booked hreset).1
  | started hl => exact startPart_booked h (h.1.quiet_of_config hl)
  | restarted v hreset => exact startPart_booked (reset_booked hreset).1 (reset_booked hreset).2
  | beacon n p t hl hn => exact applyBeacon_booked h n p t hl
  | body n b => exact booked_of_books h (by simp) (h.1.takeBody n b)
  | order n op p => exact booked_of_books h (by simp) (h.1.orderOf n op p)
  | punch n edge p => exact booked_of_books h (by simp) (h.1.applyPunch n edge p)
  | duplicate hl => exact enterDuplicate_booked h
  | joined =>
    unfold joinExpiry
    cases hg : decide (s.clp.line = .joining) && expired s.timebase s.clp.joinTimer
    · exact h
    · have hactive : (statusChange (s.modClp fun c => { c with line := .active, joinTimer := none })).Booked :=
        booked_of_books h (by simp) (h.1.withLine (fun c => { c with line := .active, joinTimer := none }) nofun).status
      change (trackerActive _).Booked
      unfold trackerActive
      (repeat' split)
      · exact sendHold_booked hactive _
      all_goals exact hactive
  | tach c line level => exact booked_channel.tachChange c line level h
  | index c level => exact booked_channel.indexChange c level h nofun
  | stall c => exact booked_channel.stallChannel c h
  | aged n => exact choose_booked h _ rfl
  | held c => exact holdTimerExpiry_booked h c
  | fired d hd =>
    have hmem : d ∈ s.csh.due := by
      unfold headExpired at hd
      split at hd
      · cases hd
      · next x l hdue =>
        split at hd
        · cases hd
          rw [hdue]
          exact List.mem_cons_self ..
        · cases hd
    exact booked_of_books h (by simp) (h.1.fireListed _ hmem)
  | closed => exact booked_of_books h rfl (h.1.congr ⟨rfl, rfl, rfl, rfl, rfl, rfl, rfl, rfl⟩ rfl (fun _ => id) (fun c => by cases c <;> rfl) rfl)

/-- Settles O26: every step is one operation, each keeps the books, and `step_change` keeps the motions. -/
theorem outputsCountWhatRunningCuesHoldOpen : Obligations.OutputsCountWhatRunningCuesHoldOpen := by
  unfold Obligations.OutputsCountWhatRunningCuesHoldOpen
  intro s u hs h
  obtain ⟨hbooked, hmotions⟩ := (outputsOk_iff s).1 hs
  refine (outputsOk_iff u).2 ⟨(step_acts s u h).keeps booked_same act_booked hbooked, ?_⟩
  rcases step_change s u h with ⟨t, st, levels, -, v, rfl⟩ | hc
  · exact (fullReset_result st levels v).2.1
  · exact hc.motions hmotions

end Sys2Proof.Machine
end

section
/-! SUPPORT. What an event at the tracker comes to: nothing but new entries, the entry into TRACKING on a source, or a move. -/

namespace Sys2Proof.Machine
open Sys2Proof

/-! ## The chosen entry -/

theorem chosenSource_of_mem {p : Ptr} (hn : (p.list.map fun e => e.sender).Nodup) {x : Source} (hx : x ∈ p.list)
    (hc : p.chosen = some x.sender) : p.chosenSource = some x := by
  have hfind : p.chosenSource = p.list.find? fun e => decide (e.sender = x.sender) := by rw [Ptr.chosenSource, hc]; rfl
  rw [hfind]
  cases hy : p.list.find? fun e => decide (e.sender = x.sender) with
  | none => simpa using List.find?_eq_none.1 hy x hx
  | some y =>
    have hsender : y.sender = x.sender := by simpa using List.find?_some hy
    rw [source_eq_of_sender hn (List.mem_of_find?_eq_some hy) hx hsender]

theorem derivedMotion_tracking {p : Ptr} {x : Source} (hs : p.state = .tracking) (hc : p.chosenSource = some x) :
    p.derivedMotion = if x.motion = .fast ∨ p.fastDiff = true then .fast else x.motion := by simp [Ptr.derivedMotion, hs, hc]

/-! ## Events without an effect on the reference -/

theorem spoils_self (m : Motion) : spoils m m = false := by cases m <;> rfl

/-- An event that reports nothing and leaves the motion, the interval and playable writes its values alone. -/
theorem trackerEvent_quiet {ev : TrackerEvent} {s : State} (hl : ev.lost = none) (hb : ev.boundary = none) (hj : ev.jump = false)
    (hw : ev.wrap = false) (hh : ev.hold = false) (hs : ev.ptr.state = s.ptr.state) (hm : ev.ptr.motion = s.ptr.motion)
    (hi : ev.ptr.interval = s.ptr.interval) (hp : ev.ptr.playable = s.ptr.playable) (hder : ev.ptr.derivedMotion = s.ptr.motion)
    (hplay : s.ptr.playable = s.ptr.isPlayable) : trackerEvent ev s = { s with ptr := ev.ptr } := by
  have hsame : ev.ptr.isPlayable = ev.ptr.playable := by rw [hp, hplay, Ptr.isPlayable, Ptr.isPlayable, hs, hm, hi]
  have hsettle : ev.settle s.ptr = ev.ptr := by
    rw [settle_eq, hder, spoils_self, ← hm]
    change { ev.ptr with playable := ev.ptr.isPlayable } = ev.ptr
    rw [hsame]
  rw [trackerEvent_moved ev s hl hb, hj, hw, hh, hsettle, moved_quiet s ev.ptr hs hm hp]
  rfl

/-! ## Entry into TRACKING (R50) -/

/-- The reference as it enters TRACKING on an entry. -/
def Ptr.entered (p : Ptr) (x : Source) : Ptr :=
  { p with
    state := .tracking, motion := x.motion, chosen := some x.sender, recNew := x.record, recOld := none, interval := none,
    fastDiff := false, hold := x.hold, frozen := none, playable := false }

/-- A change of source leaves the state. -/
theorem entered_tracking {p : Ptr} (h : p.state = .tracking) (x : Source) : p.entered x = { p with
    motion := x.motion, chosen := some x.sender, recNew := x.record, recOld := none, interval := none, fastDiff := false,
    hold := x.hold, frozen := none, playable := false } := by rw [Ptr.entered, ← h]

/-- The entry into TRACKING on an entry of the list is a JUMP to its values. -/
theorem trackerEvent_enter (q : Ptr) (x : Source) (s : State) (hx : x ∈ q.list) (hn : (q.list.map fun e => e.sender).Nodup) :
    trackerEvent ((TrackerEvent.of q).enter x) s = guarded x.hold.isSome takeHold (s.moved (q.entered x) true false) := by
  have hchosen : ((TrackerEvent.of q).enter x).ptr.chosenSource = some x :=
    chosenSource_of_mem (p := ((TrackerEvent.of q).enter x).ptr) hn hx rfl
  have hmotion : ((TrackerEvent.of q).enter x).ptr.derivedMotion = x.motion := by
    rw [derivedMotion_tracking rfl hchosen]
    split
    · next h => exact (h.resolve_right nofun).symm
    · rfl
  have hsettle : ((TrackerEvent.of q).enter x).settle s.ptr = q.entered x := by
    rw [settle_eq, hmotion]
    cases spoils s.ptr.motion x.motion <;> simp [Ptr.isPlayable, Ptr.entered, TrackerEvent.enter, TrackerEvent.of]
  rw [trackerEvent_moved _ s rfl rfl, hsettle]
  rfl

/-- What the entry leaves: the reference, and an empty tally set. -/
theorem enter_leaves (s : State) (q : Ptr) (b : Bool) (u : State) (h : u = guarded b takeHold (s.moved q true false)) :
    u.ptr = q ∧ u.cou.tally = [] ∧ u = (if b then takeHold else id) (s.moved q true false) := by
  have htally : (s.moved q true false).cou.tally = [] := moved_tally s q true false (by simp [Ptr.reportsTo])
  subst h
  cases b
  · exact ⟨by simp [guarded], by simp [guarded, htally], rfl⟩
  · exact ⟨by simp [guarded], by simp [guarded, htally], rfl⟩

/-- A choice from a list whose preferred entry is `x`. -/
theorem choose_preferred {q : Ptr} {x : Source} (h : leastBy Source.before q.list = some x) (t : Time) :
    (TrackerEvent.of q).choose t =
      if q.state = .tracking ∧ q.chosen = some x.sender then TrackerEvent.of q else (TrackerEvent.of q).enter x := by
  have hlist : leastBy Source.before ((TrackerEvent.of q).ptr.sources.filterMap id) = some x := h
  unfold TrackerEvent.choose
  rw [hlist]
  rfl

/-! ## The choice of a list as it must be (R45) -/

/-- In a list with entries the reference is TRACKING the preferred one. -/
theorem choice_of_mem {p : Ptr} (h : p.ChoiceOk) {y : Source} (hy : y ∈ p.list) :
    p.state = .tracking ∧ ∃ x, leastBy Source.before p.list = some x ∧ p.chosen = some x.sender := by
  obtain ⟨hchosen, htracking⟩ := h
  refine ⟨htracking.2 (List.ne_nil_of_mem hy), ?_⟩
  cases hx : leastBy Source.before p.list with
  | none => rw [(leastBy_eq_none _ _).1 hx] at hy; cases hy
  | some x => exact ⟨x, rfl, by rw [hchosen, hx]; rfl⟩

section
variable {s : State} (hs : s.sourcesOk = true) (hm : s.ptr.motion = s.ptr.derivedMotion) (hp : s.ptr.playable = s.ptr.isPlayable)
include hs hm hp

/-- A list that keeps the preferred entry as the preferred one changes alone. -/
theorem choose_kept {sources : List (Option Source)} {x : Source} (hx : leastBy Source.before s.ptr.list = some x)
    (hx' : leastBy Source.before (Ptr.list { s.ptr with sources := sources }) = some x)
    (hn : ((Ptr.list { s.ptr with sources := sources }).map fun e => e.sender).Nodup) (t : Time) :
    trackerEvent ((TrackerEvent.of { s.ptr with sources := sources }).choose t) s =
      { s with ptr := { s.ptr with sources := sources } } := by
  obtain ⟨-, hlist, hchoice⟩ := (sourcesOk_iff s).1 hs
  have hmem : x ∈ s.ptr.list := leastBy_mem hx
  obtain ⟨htracking, y, hy, hchosen⟩ := choice_of_mem hchoice hmem
  obtain rfl : x = y := Option.some.inj (hx.symm.trans hy)
  rw [choose_preferred hx', if_pos ⟨htracking, hchosen⟩]
  refine trackerEvent_quiet rfl rfl rfl rfl rfl rfl rfl rfl rfl ?_ hp
  have hold := chosenSource_of_mem hlist.1 hmem hchosen
  have hnew : Ptr.chosenSource { s.ptr with sources := sources } = some x := chosenSource_of_mem hn (leastBy_mem hx') hchosen
  rw [hm, derivedMotion_tracking htracking hold]
  exact derivedMotion_tracking (p := { s.ptr with sources := sources }) htracking hnew

/-- An entry of a new sender joins the list, in the place of none or of an entry of a higher rank: it is chosen where it is preferred to
every entry, and otherwise the choice stays (R43, R45, R50). -/
theorem choose_joined {e : Source} {sources : List (Option Source)} {l : List Source}
    (hperm : (Ptr.list { s.ptr with sources := sources }).Perm (e :: l)) (hsub : l.Sublist s.ptr.list)
    (hnew : ∀ x ∈ s.ptr.list, x.sender ≠ e.sender) (hgone : ∀ x ∈ s.ptr.list, x ∉ l → e.rank < x.rank) (t : Time) :
    ((∀ x ∈ s.ptr.list, e.rank < x.rank ∨ e.rank = x.rank ∧ e.sender < x.sender) →
      trackerEvent ((TrackerEvent.of { s.ptr with sources := sources }).choose t) s =
        guarded e.hold.isSome takeHold (s.moved (Ptr.entered { s.ptr with sources := sources } e) true false)) ∧
    (¬(∀ x ∈ s.ptr.list, e.rank < x.rank ∨ e.rank = x.rank ∧ e.sender < x.sender) →
      trackerEvent ((TrackerEvent.of { s.ptr with sources := sources }).choose t) s =
        { s with ptr := { s.ptr with sources := sources } }) := by
  obtain ⟨-, hlist, hchoice⟩ := (sourcesOk_iff s).1 hs
  have hn : ((Ptr.list { s.ptr with sources := sources }).map fun e => e.sender).Nodup := by
    rw [(hperm.map _).nodup_iff, List.map_cons, List.nodup_cons]
    refine ⟨fun hmem => ?_, hlist.1.sublist (hsub.map _)⟩
    obtain ⟨x, hx, hsender⟩ := List.mem_map.1 hmem
    exact hnew x (hsub.subset hx) hsender
  have hmem : ∀ x, x ∈ Ptr.list { s.ptr with sources := sources } ↔ x = e ∨ x ∈ l := fun x => by rw [hperm.mem_iff, List.mem_cons]
  refine ⟨fun hbetter => ?_, fun hworse => ?_⟩
  · have hx : leastBy Source.before (Ptr.list { s.ptr with sources := sources }) = some e := by
      refine (preferred_iff hn e).2 ⟨(hmem e).2 (.inl rfl), fun y hy => ?_⟩
      rw [before_iff]
      rcases (hmem y).1 hy with rfl | hy
      · exact .inr ⟨rfl, le_rfl⟩
      · exact (hbetter y (hsub.subset hy)).imp_right fun h => ⟨h.1, h.2.le⟩
    have hchosen : s.ptr.chosen ≠ some e.sender := by
      rw [hchoice.1]
      intro h
      obtain ⟨x, hx, hsender⟩ := Option.map_eq_some_iff.1 h
      exact hnew x (leastBy_mem hx) hsender
    rw [choose_preferred hx, if_neg fun h => hchosen h.2]
    exact trackerEvent_enter _ e s ((hmem e).2 (.inl rfl)) hn
  · push Not at hworse
    obtain ⟨y, hy, hyrank, hysender⟩ := hworse
    obtain ⟨-, x, hx, -⟩ := choice_of_mem hchoice hy
    obtain ⟨hxmem, hxle⟩ := (preferred_iff hlist.1 x).1 hx
    have hxy := hxle y hy
    rw [before_iff] at hxy
    have hxe : x.before e = true := by
      rw [before_iff]
      have := hnew y hy
      omega
    have hxl : x ∈ l := by
      by_contra hno
      have := hgone x hxmem hno
      rw [before_iff] at hxe
      omega
    refine choose_kept hs hm hp hx ((preferred_iff hn x).2 ⟨(hmem x).2 (.inr hxl), fun z hz => ?_⟩) hn t
    rcases (hmem z).1 hz with rfl | hz
    · exact hxe
    · exact hxle z (hsub.subset hz)

end

end Sys2Proof.Machine
end

section
/-! A beacon of a sender without an entry. -/

namespace Sys2Proof.Machine
open Sys2Proof

/-! ## What a beacon carries (R42) -/

/-- The record of a beacon, as the statements write it. -/
def boundaryRecord (p : Beacon) (stamp : Time) : BRec :=
  { b := p.frame.toInt, stamp := stamp - p.age.setWidth 32
    dir := if p.motion = 1 then .forward else if p.motion = 2 then .reverse else .none, wrap := decide (p.wrap = 1) }

theorem bit_cases (x : BitVec 1) : x = 0 ∨ x = 1 := by
  revert x
  decide

theorem motion_cases (x : BitVec 2) : x = 0 ∨ x = 1 ∨ x = 2 ∨ x = 3 := by
  revert x
  decide

theorem beaconRecord_eq (p : Beacon) (stamp : Time) :
    beaconRecord p stamp = if p.kind = 0 ∧ p.motion ≠ 0 then some (boundaryRecord p stamp, motionOf p.motion) else none := by
  have hwrap : p.wrap.getLsbD 0 = decide (p.wrap = 1) := by
    rcases bit_cases p.wrap with h | h <;> rw [h] <;> decide
  unfold beaconRecord boundaryRecord
  rw [hwrap]
  rcases bit_cases p.kind with hk | hk
  · rcases motion_cases p.motion with hm | hm | hm | hm <;> rw [hk, hm] <;> rfl
  · rw [hk]; rfl

theorem beaconHold_eq (p : Beacon) :
    beaconHold p = if p.kind = 1 then some (p.frame.toInt * 256 + p.phase.toNat) else none := rfl

/-- The values that a beacon gives an entry (R42). -/
theorem source_beacon_eq (e : Source) (p : Beacon) (stamp : Time) : e.beacon p stamp =
    { e with
      rank := p.rank.toNat, lastBeacon := stamp, aging := some (later stamp 500000)
      interval := if p.interval = 0 then none else some p.interval.toNat
      motion := if p.kind = 0 ∧ p.motion ≠ 0 then motionOf p.motion else if p.kind = 1 then .stopped else e.motion
      record := if p.kind = 0 ∧ p.motion ≠ 0 then some (boundaryRecord p stamp) else e.record
      hold := if p.kind = 1 then some (p.frame.toInt * 256 + p.phase.toNat) else e.hold } := by
  unfold Source.beacon
  rw [beaconRecord_eq, beaconHold_eq]
  by_cases hr : p.kind = 0 ∧ p.motion ≠ 0
  · have hk : p.kind ≠ 1 := by rw [hr.1]; decide
    simp only [if_pos hr, if_neg hk]
    rfl
  · simp only [if_neg hr]
    by_cases hk : p.kind = 1
    · simp only [if_pos hk]
      rfl
    · simp only [if_neg hk]
      rfl

/-! ## Places of the list (R43) -/

/-- The lowest free place takes an added entry. -/
theorem addSource_lowest (e : Source) (l : List (Option Source)) (k : Nat) (hk : k < l.length) (hfree : l.getD k none = none)
    (hlow : ∀ j, j < k → (l.getD j none).isSome = true) : addSource e l = l.set k (some e) := by
  induction l generalizing k with
  | nil => cases hk
  | cons o l ih =>
    cases k with
    | zero =>
      obtain rfl : o = none := hfree
      rfl
    | succ k =>
      cases o with
      | none => simpa using hlow 0 (Nat.succ_pos k)
      | some x =>
        rw [addSource, List.set_cons_succ, ih k (Nat.lt_of_succ_lt_succ hk) hfree fun j hj => hlow (j + 1) (Nat.succ_lt_succ hj)]

/-- Different places hold entries of different senders. -/
theorem place_unique {l : List (Option Source)} (hn : ((l.filterMap id).map fun e => e.sender).Nodup) {j k : Nat} {x y : Source}
    (hj : l[j]? = some (some x)) (hk : l[k]? = some (some y)) (h : x.sender = y.sender) : j = k := by
  have hpair : l.Pairwise fun o o' => ∀ x, id o = some x → ∀ y, id o' = some y → x.sender ≠ y.sender :=
    List.pairwise_filterMap.1 (List.pairwise_map.1 hn)
  rw [List.pairwise_iff_getElem] at hpair
  obtain ⟨hj', hj⟩ := List.getElem?_eq_some_iff.1 hj
  obtain ⟨hk', hk⟩ := List.getElem?_eq_some_iff.1 hk
  by_contra hne
  rcases Nat.lt_or_gt_of_ne hne with hlt | hlt
  · exact hpair j k hj' hk' hlt x hj y hk h
  · exact hpair k j hk' hj' hlt y hk x hj h.symm

/-- Changing the entries that are `e` changes the one place that holds it. -/
theorem map_place {l : List (Option Source)} (hn : ((l.filterMap id).map fun e => e.sender).Nodup) {k : Nat} {e : Source}
    (hk : l[k]? = some (some e)) (f : Option Source → Option Source) (v : Option Source) (hself : f (some e) = v) (hnone : f none = none)
    (hother : ∀ x : Source, x.sender ≠ e.sender → f (some x) = some x) : l.map f = l.set k v := by
  refine List.ext_getElem? fun j => ?_
  rw [List.getElem?_map, List.getElem?_set]
  split
  · next hjk =>
    subst hjk
    obtain ⟨hlt, -⟩ := List.getElem?_eq_some_iff.1 hk
    rw [hk, if_pos hlt, ← hself]
    rfl
  · next hjk =>
    cases hj : l[j]? with
    | none => rfl
    | some o =>
      cases o with
      | none => rw [Option.map_some, hnone]
      | some x =>
        rw [Option.map_some, hother x fun hsender => hjk (place_unique hn hk hj hsender.symm)]

theorem getElem?_of_getD {l : List (Option Source)} {k : Nat} {x : Source} (h : l.getD k none = some x) : l[k]? = some (some x) := by
  rw [List.getD_eq_getElem?_getD] at h
  cases hk : l[k]? with
  | none => simp [hk] at h
  | some o => rw [hk] at h; exact congrArg some h

theorem mem_list_of_place {p : Ptr} {k : Nat} {x : Source} (h : p.sources.getD k none = some x) : x ∈ p.list :=
  List.mem_filterMap.2 ⟨some x, List.mem_of_getElem? (getElem?_of_getD h), rfl⟩

/-- The update of a REMOTE sender's entry changes its place alone. -/
theorem setRemote_place {p : Ptr} (hn : (p.list.map fun e => e.sender).Nodup) {k : Nat} {c : Source}
    (hc : p.sources.getD k none = some c) (hl : c.isLocal = false) (v : Option Source) :
    p.setRemote c.sender v = { p with sources := p.sources.set k v } := by
  unfold Ptr.setRemote
  rw [map_place hn (getElem?_of_getD hc) _ v (by simp [hl]) rfl fun x hx => by simp [hx]]

/-- The REMOTE entry that is after every other one in the order of R45 is the candidate for replacement (R43). -/
theorem candidate_eq {p : Ptr} (hn : (p.list.map fun e => e.sender).Nodup) {c : Source} (hc : c ∈ p.list) (hl : c.isLocal = false)
    (hlast : ∀ x ∈ p.list, x.isLocal = true ∨ x.before c = true) : p.candidate = some c := by
  have hmem : c ∈ p.list.filter fun e => !e.isLocal := List.mem_filter.2 ⟨hc, by simp [hl]⟩
  cases hd : p.candidate with
  | none =>
    have hnil : (p.list.filter fun e => !e.isLocal) = [] := (leastBy_eq_none _ _).1 hd
    rw [hnil] at hmem
    cases hmem
  | some d =>
    obtain ⟨hdmem, hdlocal⟩ := candidate_some hd
    have hdc := (hlast d hdmem).resolve_left (by simp [hdlocal])
    have hcd := leastBy_le (le := fun x y : Source => y.before x) (fun x y => before_total y x) (fun x y z h k => before_trans z y x k h)
      hd c hmem
    rw [before_iff] at hdc hcd
    rw [source_eq_of_sender hn hdmem hc (by omega)]

/-! ## The beacon of a new sender (R43) -/

/-- A BEACON frame that takes effect. -/
theorem exec_beacon (t stamp : Time) (n : BitVec 5) (p : Beacon) (s : State) (h : s.takes n) :
    exec (.beaconFrame t stamp n p) s = .next (applyBeacon n p stamp (s.heard t)) := by
  have hreset : s.resetActive = false := h.1
  have hrun : exec (.beaconFrame t stamp n p) s = s.event t (receiveFrame n (applyBeacon n p stamp)) := rfl
  rw [hrun, State.event_next s t _ hreset, receiveFrame_takes s t n _ h]

/-- A free place takes the new entry. -/
theorem beaconNew_free (n : Nat) (p : Beacon) (stamp : Time) (s : State) (k : Nat) (hk : k < s.ptr.sources.length)
    (hlen : s.ptr.sources.length = 8) (hfree : s.ptr.sources.getD k none = none)
    (hlow : ∀ j, j < k → (s.ptr.sources.getD j none).isSome = true) :
    beaconNew n p stamp s = trackerEvent ((TrackerEvent.of { s.ptr with
      sources := s.ptr.sources.set k (some ((Source.fresh n).beacon p stamp)) }).choose s.timebase) s := by
  have hroom : (s.ptr.sources.filterMap id).length < Config.sourceCount := by
    have hlt : (s.ptr.sources.filterMap id).length < s.ptr.sources.length := by
      rw [List.length_filterMap_lt_length_iff_exists]
      refine ⟨none, ?_, rfl⟩
      rw [List.getD_eq_getElem?_getD, List.getElem?_eq_getElem hk] at hfree
      rw [← hfree]
      exact List.getElem_mem hk
    rwa [hlen] at hlt
  unfold beaconNew
  dsimp only
  rw [if_pos hroom, addSource_lowest _ _ k hk hfree hlow]

/-- A full list: the new entry takes the candidate's place, or the beacon is ignored. -/
theorem beaconNew_full (n : Nat) (p : Beacon) (stamp : Time) (s : State) (k : Nat) (c : Source)
    (hn : (s.ptr.list.map fun e => e.sender).Nodup) (hlen : s.ptr.sources.length = 8) (hc : s.ptr.sources.getD k none = some c)
    (hfull : s.ptr.sources.all (fun o => o.isSome) = true) (hl : c.isLocal = false)
    (hlast : ∀ x ∈ s.ptr.list, x.isLocal = true ∨ x.before c = true) :
    beaconNew n p stamp s =
      if p.rank.toNat < c.rank then trackerEvent ((TrackerEvent.of { s.ptr with
        sources := s.ptr.sources.set k (some ((Source.fresh n).beacon p stamp)) }).choose s.timebase) s
      else s := by
  have hroom : ¬(s.ptr.sources.filterMap id).length < Config.sourceCount := by
    have heq : (s.ptr.sources.filterMap id).length = s.ptr.sources.length := by
      rw [List.filterMap_length_eq_length]
      exact fun o ho => List.all_eq_true.1 hfull o ho
    rw [heq, hlen]
    decide
  unfold beaconNew
  dsimp only
  rw [if_neg hroom, candidate_eq hn (mem_list_of_place hc) hl hlast]
  dsimp only
  rw [setRemote_place hn hc hl]

/-- Settles O50: `beaconNew_free` and `beaconNew_full` find the place, `choose_joined` makes the choice. -/
theorem beaconsFillTheSourceList : Obligations.BeaconsFillTheSourceList := by
  unfold Obligations.BeaconsFillTheSourceList
  intro t stamp sender p s htakes hs hlen hm hp hnone boundary dir e list better joins
  have hv : (s.heard t).sourcesOk = true := hs
  obtain ⟨-, hlist, -⟩ := (sourcesOk_iff s).1 hs
  have hrun : exec (.beaconFrame t stamp sender p) s = .next (beaconNew sender.toNat p stamp (s.heard t)) := by
    have hnone' : (s.heard t).ptr.remote sender.toNat = none := hnone
    rw [exec_beacon t stamp sender p s htakes, applyBeacon, hnone']
  have he : (Source.fresh sender.toNat).beacon p stamp = e := by
    have hstands : (if p.kind = 1 then Motion.stopped else (Source.fresh sender.toNat).motion) = .stopped := by split <;> rfl
    rw [source_beacon_eq, hstands]
    rfl
  have hnew : ∀ x ∈ s.ptr.list, x.sender ≠ e.sender := fun x hx hsender => by
    obtain ⟨-, -, -, -, hown⟩ := htakes
    have hentry := hlist.2 x hx
    rw [remote_none hnone x hx hsender] at hentry
    exact hown (BitVec.eq_of_toNat_eq (hsender.symm.trans hentry.1))
  have hbetter : list.all better = true ↔ ∀ x ∈ s.ptr.list, e.rank < x.rank ∨ e.rank = x.rank ∧ e.sender < x.sender := by
    change s.ptr.list.all better = true ↔ _
    rw [List.all_eq_true]
    exact forall₂_congr fun x _ => decide_eq_true_iff
  have hjoins : ∀ k l, beaconNew sender.toNat p stamp (s.heard t) = trackerEvent ((TrackerEvent.of { s.ptr with
        sources := s.ptr.sources.set k (some e) }).choose t) (s.heard t) →
      (Ptr.list { s.ptr with sources := s.ptr.sources.set k (some e) }).Perm (e :: l) → l.Sublist s.ptr.list →
      (∀ x ∈ s.ptr.list, x ∉ l → e.rank < x.rank) → joins k := by
    intro k l hbeacon hperm hsub hgone
    obtain ⟨hchosen, hkept⟩ := choose_joined hv hm hp hperm hsub hnew hgone t
    refine ⟨fun hall => ?_, fun hall => ?_⟩
    · obtain ⟨hptr, htally, hu⟩ := enter_leaves (s.heard t) _ _ _ (hbeacon.trans (hchosen (hbetter.1 hall)))
      have hkind : e.hold.isSome = decide (p.kind = 1) := by
        change (if p.kind = 1 then some _ else none).isSome = _
        by_cases hk : p.kind = 1
        · rw [if_pos hk, decide_eq_true hk]; rfl
        · rw [if_neg hk, decide_eq_false hk]; rfl
      rw [hkind] at hu
      exact ⟨_, hrun, hptr, htally, hu.trans (by simp only [decide_eq_true_eq]; rfl)⟩
    · have hworse := hkept fun hb => by rw [hbetter.2 hb] at hall; cases hall
      exact hrun.trans (congrArg _ (hbeacon.trans hworse))
  refine ⟨fun k hk hfree hlow => ?_, fun k hk c hc hfull hl hlast => ?_⟩
  · have hbeacon := beaconNew_free sender.toNat p stamp (s.heard t) k (by simpa [State.heard, hlen] using hk) hlen hfree hlow
    rw [he] at hbeacon
    refine hjoins k s.ptr.list hbeacon ?_ (List.Sublist.refl _) fun x hx hno => absurd hx hno
    have hadd := addSource_lowest e s.ptr.sources k (hlen ▸ hk) hfree hlow
    rcases addSource_list e s.ptr.sources with hperm | hsame
    · rwa [hadd] at hperm
    · rw [hadd] at hsame
      rw [← hsame, List.getD_eq_getElem?_getD, List.getElem?_set_self (hlen ▸ hk)] at hfree
      cases hfree
  · have hlast' : ∀ x ∈ s.ptr.list, x.isLocal = true ∨ x.before c = true := by
      intro x hx
      simpa [before_iff] using List.all_eq_true.1 hlast x hx
    have hmem : c ∈ s.ptr.list := mem_list_of_place hc
    have hbeacon := beaconNew_full sender.toNat p stamp (s.heard t) k c hlist.1 hlen hc hfull hl hlast'
    rw [he] at hbeacon
    refine ⟨fun hle => ?_, fun hlt => ?_⟩
    · rw [hrun, hbeacon, if_neg (Nat.not_lt.2 hle)]
    · rw [if_pos hlt] at hbeacon
      refine hjoins k (s.ptr.list.erase c) hbeacon ?_ List.erase_sublist fun x hx hno => ?_
      · have hperm := replace_perm hlist.1 hmem hl e
        rwa [← setRemote_list, setRemote_place hlist.1 hc hl] at hperm
      · have hxc : x = c := by
          by_contra hne
          exact hno ((List.mem_erase_of_ne hne).2 hx)
        rw [hxc]
        exact hlt

end Sys2Proof.Machine
end

section
/-! A beacon of a sender with an entry. -/

namespace Sys2Proof.Machine
open Sys2Proof

/-! ## The values a moving event settles on (R52, R61) -/

/-- The interval test of playable (R61). -/
theorem playable_interval (p : Ptr) (hs : p.state = .tracking) :
    p.isPlayable = (decide (p.motion = .forward) && p.interval.any fun i => decide (16000 ≤ i ∧ i ≤ 125000)) := by
  simp [Ptr.isPlayable, hs]

/-- The reference with a motion and an interval, and playable as R61 says of a TRACKING one. -/
def Ptr.settled (p : Ptr) (m : Motion) (i : Option Nat) : Ptr :=
  { p with motion := m, interval := i, playable := decide (m = .forward) && i.any fun n => decide (16000 ≤ n ∧ n ≤ 125000) }

/-- A TRACKING reference with a derived motion `m` settles on it. -/
theorem settle_tracking {ev : TrackerEvent} {m : Motion} (hs : ev.ptr.state = .tracking) (hder : ev.ptr.derivedMotion = m) (before : Ptr) :
    ev.settle before = ev.ptr.settled m (if spoils before.motion m then none else ev.ptr.interval) := by
  rw [settle_eq, hder]
  exact congrArg
    (fun b => { ev.ptr with motion := m, interval := if spoils before.motion m then none else ev.ptr.interval, playable := b })
    (playable_interval { ev.ptr with motion := m, interval := if spoils before.motion m then none else ev.ptr.interval } hs)

/-- The interval of a record that a reference takes, unless the reference turns or becomes FAST (R54). -/
theorem interval_unless (b : Bool) (c : Prop) [Decidable c] (d : Nat) :
    (if b then none else if c then some d else none) = if b = false ∧ c then some d else none := by
  cases b <;> simp

/-- What makes a move a reported one (R58 to R61). -/
theorem reportsTo_ne_nil (p q : Ptr) (jump wrap : Bool)
    (h : jump = true ∨ wrap = true ∨ spoils p.motion q.motion = true ∨ q.playable ≠ p.playable ∨
      q.state = .tracking ∧ q.motion = .stopped ∧ p.motion ≠ .stopped) : p.reportsTo q jump wrap ≠ [] := by
  intro hnil
  simp only [Ptr.reportsTo, List.append_eq_nil_iff] at hnil
  obtain ⟨⟨⟨⟨⟨hjump, hwrap⟩, hturn⟩, hstop⟩, hfast⟩, hplay⟩ := hnil
  rcases h with h | h | h | h | h
  · simp [h] at hjump
  · simp [h] at hwrap
  · simp only [spoils, turned, Bool.or_eq_true, Bool.and_eq_true, decide_eq_true_eq] at h
    rcases h with h | h
    · rw [if_pos h] at hturn; cases hturn
    · rw [if_pos h] at hfast; cases hfast
  · rw [if_pos h] at hplay; cases hplay
  · rw [if_pos h] at hstop; cases hstop

section
variable {q : Ptr} {x : Source} (hs : q.state = .tracking) (hc : q.chosenSource = some x) {m : Motion} (s : State)
include hs hc

/-- A record that a TRACKING reference takes moves it (R53, R54, R58, R59, R61). -/
theorem trackerEvent_takeRecord (r : BRec)
    (hm : (if x.motion = .fast ∨ (consecutive r q.recNew && decide (recordGap r q.recNew < 8000)) = true then .fast else x.motion) = m) :
    let steps := consecutive r q.recNew
    let d := recordGap r q.recNew
    let i := if spoils s.ptr.motion m = false ∧ steps = true ∧ 8000 ≤ d ∧ d ≤ 1000000 then some d else none
    trackerEvent ((TrackerEvent.of q).takeRecord r) s = takeBoundary r (s.moved
      (Ptr.settled { q with recNew := some r, recOld := q.recNew, fastDiff := steps && decide (d < 8000) } m i)
      (sameRun r q.recNew && !steps) r.wrap) := by
  intro steps d i
  have hder : ((TrackerEvent.of q).takeRecord r).ptr.derivedMotion = m :=
    (derivedMotion_tracking (p := ((TrackerEvent.of q).takeRecord r).ptr) hs hc).trans hm
  rw [trackerEvent_moved_boundary _ s r rfl rfl, settle_tracking hs hder]
  exact congrArg (fun i => takeBoundary r (s.moved
    (Ptr.settled { q with recNew := some r, recOld := q.recNew, fastDiff := steps && decide (d < 8000) } m i)
    (sameRun r q.recNew && !steps) r.wrap))
    (interval_unless (spoils s.ptr.motion m) (steps = true ∧ 8000 ≤ d ∧ d ≤ 1000000) d)

/-- A hold update of a TRACKING reference moves it (R52, R55, R58). -/
theorem trackerEvent_takeHold (before : Motion) (h : Int)
    (hm : (if x.motion = .fast ∨ q.fastDiff = true then .fast else x.motion) = m) :
    let leaps := holdJump before q.hold h
    let i := if leaps = true ∨ spoils s.ptr.motion m = true then none else q.interval
    trackerEvent ((TrackerEvent.of q).takeHold before h) s =
      takeHold (s.moved (Ptr.settled { q with hold := some h } m i) leaps false) := by
  intro leaps i
  have hder : ((TrackerEvent.of q).takeHold before h).ptr.derivedMotion = m :=
    (derivedMotion_tracking (p := ((TrackerEvent.of q).takeHold before h).ptr) hs hc).trans hm
  have hi : (if spoils s.ptr.motion m then none else if leaps then none else q.interval) = i := by
    cases hl : leaps <;> cases hsp : spoils s.ptr.motion m <;> simp [i, hl, hsp]
  rw [trackerEvent_moved _ s rfl rfl, settle_tracking hs hder]
  exact congrArg (fun i => takeHold (s.moved (Ptr.settled { q with hold := some h } m i) leaps false)) hi

end

/-- A reference that a standing source leaves STOPPED or FAST is not playable. -/
theorem settled_stands (p : Ptr) (fast : Bool) (i : Option Nat) :
    let m := if fast then Motion.fast else .stopped
    p.settled m i = { p with motion := m, interval := i, playable := false } := by
  intro m
  have hforward : decide (m = .forward) = false := by cases fast <;> rfl
  rw [Ptr.settled, hforward, Bool.false_and]

/-- It loses its interval by a JUMP and by FAST alone. -/
theorem settled_standing (p : Ptr) (before : Motion) (fast leaps : Bool) (i : Option Nat) :
    let m := if fast then Motion.fast else .stopped
    p.settled m (if leaps = true ∨ spoils before m = true then none else i) =
      { p with motion := m, interval := if leaps = true ∨ m = .fast ∧ before ≠ .fast then none else i, playable := false } := by
  intro m
  have hspoils : spoils before m = decide (m = .fast ∧ before ≠ .fast) := by cases fast <;> cases before <;> rfl
  rw [settled_stands, hspoils]
  simp only [decide_eq_true_eq]
  rfl

/-- What a move and its boundary leave. -/
theorem takeBoundary_moved (r : BRec) (s : State) (q : Ptr) (jump wrap : Bool) :
    let u := takeBoundary r (s.moved q jump wrap)
    u.ptr = q ∧ (s.ptr.reportsTo q jump wrap ≠ [] → u.cou.tally = []) ∧
      u.settings = s.settings ∧ u.mkl = s.mkl ∧ u.svc = s.svc ∧ u.ovl = s.ovl := by
  simp +contextual [moved_tally]

/-- What a move and its hold update leave. -/
theorem takeHold_moved (s : State) (q : Ptr) (jump wrap : Bool) :
    let u := takeHold (s.moved q jump wrap)
    u.ptr = q ∧ (s.ptr.reportsTo q jump wrap ≠ [] → u.cou.tally = []) ∧
      u.settings = s.settings ∧ u.mkl = s.mkl ∧ u.svc = s.svc ∧ u.ovl = s.ovl := by
  simp +contextual [moved_tally]

/-! ## The entry that a beacon updates (R42) -/

/-- The update of a REMOTE sender's entry changes what is that entry. -/
theorem setRemote_map {p : Ptr} (hn : (p.list.map fun e => e.sender).Nodup) {n : Nat} {e : Source} (he : p.remote n = some e)
    (v : Option Source) : p.setRemote n v = { p with sources := p.sources.map fun o => if o = some e then v else o } := by
  obtain ⟨hmem, hsender, hlocal⟩ := remote_some he
  have hplaces : (p.setRemote n v).sources = p.sources.map fun o => if o = some e then v else o := by
    refine List.map_congr_left fun o ho => ?_
    cases o with
    | none => rfl
    | some x =>
      have hx : x ∈ p.list := List.mem_filterMap.2 ⟨some x, ho, rfl⟩
      have hiff : (some x).any (fun x => decide (x.sender = n) && !x.isLocal) = true ↔ some x = some e := by
        rw [Option.some_inj]
        constructor
        · intro h
          exact source_eq_of_sender hn hx hmem (by rw [hsender]; simpa using (Bool.and_eq_true_iff.1 h).1)
        · rintro rfl
          simp [hsender, hlocal]
      simp only [hiff]
  rw [← hplaces]
  rfl

section
variable {p : Ptr} {n : Nat} {e e' : Source} (hn : (p.list.map fun e => e.sender).Nodup) (he : p.remote n = some e)
include hn he

/-- The entries after the update: the new one, and the others. -/
theorem mem_setRemote {x : Source} (hx : x ∈ (p.setRemote n (some e')).list) :
    x = e' ∨ x ∈ p.list ∧ x.sender ≠ n := by
  obtain ⟨hmem, hs, hl⟩ := remote_some he
  rw [setRemote_list] at hx
  obtain ⟨y, hy, rfl⟩ := List.mem_map.1 hx
  split
  · exact .inl rfl
  · next hr =>
    refine .inr ⟨hy, fun hyn => hr ?_⟩
    rw [source_eq_of_sender hn hy hmem (hyn.trans hs.symm)]
    simp [Source.remoteOf, hs, hl]

omit he in
theorem setRemote_nodup (hsender : e'.sender = n) : ((p.setRemote n (some e')).list.map fun e => e.sender).Nodup := by
  have hsame : (p.setRemote n (some e')).list.map (fun e => e.sender) = p.list.map fun e => e.sender := by
    rw [setRemote_list, List.map_map]
    refine List.map_congr_left fun x _ => ?_
    simp only [Function.comp]
    split
    · next hr =>
      rw [hsender]
      exact (of_decide_eq_true (Bool.and_eq_true_iff.1 hr).1).symm
    · rfl
  rwa [hsame]

omit hn in
theorem new_mem_setRemote : e' ∈ (p.setRemote n (some e')).list := by
  obtain ⟨hmem, hs, hl⟩ := remote_some he
  rw [setRemote_list]
  exact List.mem_map.2 ⟨e, hmem, if_pos (by simp [Source.remoteOf, hs, hl])⟩

end

/-! ## What the beacon passes on (R42, R53, R55) -/

/-- What the beacon passes on to a reference that follows its sender. -/
theorem passBeacon_chosen (ev : TrackerEvent) (n : Nat) (p : Beacon) (stamp : Time) (hs : ev.ptr.state = .tracking)
    (hc : ev.ptr.chosen = some n) : ev.passBeacon n p stamp =
      if p.kind = 0 ∧ p.motion ≠ 0 then ev.takeRecord (boundaryRecord p stamp)
      else if p.kind = 1 then ev.takeHold ev.ptr.motion (p.frame.toInt * 256 + p.phase.toNat) else ev := by
  unfold TrackerEvent.passBeacon
  rw [if_pos ⟨hs, hc⟩, beaconRecord_eq, beaconHold_eq]
  by_cases hr : p.kind = 0 ∧ p.motion ≠ 0
  · rw [if_pos hr, if_pos hr]
  · rw [if_neg hr, if_neg hr]
    by_cases hk : p.kind = 1
    · rw [if_pos hk, if_pos hk]
    · rw [if_neg hk, if_neg hk]

theorem passBeacon_other (ev : TrackerEvent) (n : Nat) (p : Beacon) (stamp : Time) (hc : ev.ptr.chosen ≠ some n) :
    ev.passBeacon n p stamp = ev := if_neg fun h => hc h.2

theorem motionOf_fast (x : BitVec 2) : motionOf x = .fast ↔ x = 3 := by
  rcases motion_cases x with h | h | h | h <;> rw [h] <;> decide

/-! ## The beacon, by the choice after the update (R45; log entry 12) -/

section
variable {s : State} {n : Nat} {e x : Source} (hs : s.sourcesOk = true) (he : s.ptr.remote n = some e) (p : Beacon) (stamp : Time)
  (hx : leastBy Source.before (s.ptr.setRemote n (some (e.beacon p stamp))).list = some x)
include hs he hx

/-- A beacon that changes the choice is passed on to nothing: the reference enters the preferred entry. -/
theorem beaconKnown_enters (hc : s.ptr.chosen ≠ some x.sender) : beaconKnown n e p stamp s =
    guarded x.hold.isSome takeHold (s.moved ((s.ptr.setRemote n (some (e.beacon p stamp))).entered x) true false) := by
  obtain ⟨-, hlist, hchoice⟩ := (sourcesOk_iff s).1 hs
  obtain ⟨hmem, hsender, -⟩ := remote_some he
  have hevent : knownEvent n e p stamp s = (TrackerEvent.of (s.ptr.setRemote n (some (e.beacon p stamp)))).enter x := by
    unfold knownEvent
    dsimp only
    split
    · next hrank =>
      have hnew : (s.ptr.setRemote n (some (e.beacon p stamp))).ChoiceOk := by
        refine hchoice.map _ rfl rfl (setRemote_list _ _ _) fun y hy => ?_
        split
        · next hr =>
          have hye : y = e := source_eq_of_sender hlist.1 hy hmem (by rw [hsender]; simpa using (Bool.and_eq_true_iff.1 hr).1)
          exact ⟨by rw [hye, hrank]; rfl, by rw [hye]; rfl⟩
        · exact ⟨rfl, rfl⟩
      have hchosen := hnew.1
      rw [hx] at hchosen
      exact absurd hchosen hc
    · rw [choose_preferred hx]
      exact if_neg fun h => hc h.2
  rw [beaconKnown_eq, hevent]
  exact trackerEvent_enter _ x s (leastBy_mem hx) (setRemote_nodup (e' := e.beacon p stamp) hlist.1 hsender)

section
variable (hc : s.ptr.chosen = some x.sender)
include hc

/-- A beacon that leaves the choice is passed on. -/
theorem beaconKnown_stays : beaconKnown n e p stamp s =
    trackerEvent ((TrackerEvent.of (s.ptr.setRemote n (some (e.beacon p stamp)))).passBeacon n p stamp) s := by
  obtain ⟨-, -, hchoice⟩ := (sourcesOk_iff s).1 hs
  have hevent : knownEvent n e p stamp s = TrackerEvent.of (s.ptr.setRemote n (some (e.beacon p stamp))) := by
    unfold knownEvent
    dsimp only
    split
    · rfl
    · rw [choose_preferred hx]
      exact if_pos ⟨(choice_of_mem hchoice (remote_some he).1).1, hc⟩
  rw [beaconKnown_eq, hevent]
  rfl

/-- A beacon of another sender, or one without motion, changes entries alone. -/
theorem beaconKnown_quiet (hm : s.ptr.motion = s.ptr.derivedMotion) (hp : s.ptr.playable = s.ptr.isPlayable)
    (hno : x.sender ≠ n ∨ p.kind = 0 ∧ p.motion = 0) :
    beaconKnown n e p stamp s = { s with ptr := s.ptr.setRemote n (some (e.beacon p stamp)) } := by
  obtain ⟨-, hlist, hchoice⟩ := (sourcesOk_iff s).1 hs
  obtain ⟨hmem, hsender, -⟩ := remote_some he
  have htracking := (choice_of_mem hchoice hmem).1
  have hpass : (TrackerEvent.of (s.ptr.setRemote n (some (e.beacon p stamp)))).passBeacon n p stamp =
      TrackerEvent.of (s.ptr.setRemote n (some (e.beacon p stamp))) := by
    by_cases hxn : x.sender = n
    · obtain ⟨hk, hmo⟩ := hno.resolve_left (not_not_intro hxn)
      rw [passBeacon_chosen _ _ _ _ htracking (hc.trans (congrArg some hxn)), if_neg fun hb => hb.2 hmo, if_neg (by rw [hk]; decide)]
    · exact passBeacon_other _ _ _ _ fun hc' => hxn (Option.some.inj (hc.symm.trans hc'))
  have hmotion : ∃ y ∈ s.ptr.list, y.sender = x.sender ∧ y.motion = x.motion := by
    rcases mem_setRemote hlist.1 he (leastBy_mem hx) with hxe | ⟨hold, -⟩
    · have hxn : x.sender = n := by rw [hxe]; exact hsender
      obtain ⟨hk, hmo⟩ := hno.resolve_left (not_not_intro hxn)
      refine ⟨e, hmem, hsender.trans hxn.symm, ?_⟩
      rw [hxe, source_beacon_eq]
      dsimp only
      rw [if_neg fun hb => hb.2 hmo, if_neg (by rw [hk]; decide)]
    · exact ⟨x, hold, rfl, rfl⟩
  obtain ⟨y, hy, hyx, hym⟩ := hmotion
  have hder : (s.ptr.setRemote n (some (e.beacon p stamp))).derivedMotion = s.ptr.motion := by
    have hold := chosenSource_of_mem hlist.1 hy (hc.trans (congrArg some hyx.symm))
    have hnew : (s.ptr.setRemote n (some (e.beacon p stamp))).chosenSource = some x :=
      chosenSource_of_mem (setRemote_nodup (e' := e.beacon p stamp) hlist.1 hsender) (leastBy_mem hx) hc
    rw [hm, derivedMotion_tracking htracking hold, derivedMotion_tracking (p := s.ptr.setRemote _ _) htracking hnew, hym]
    rfl
  rw [beaconKnown_stays hs he p stamp hx hc, hpass]
  exact trackerEvent_quiet rfl rfl rfl rfl rfl rfl rfl rfl rfl hder hp

/-- The reference after the update follows the sender's new entry, where the choice stays on that sender. -/
theorem chosenSource_beacon (hxn : x.sender = n) :
    (s.ptr.setRemote n (some (e.beacon p stamp))).state = .tracking ∧ s.ptr.chosen = some n ∧
      (s.ptr.setRemote n (some (e.beacon p stamp))).chosenSource = some (e.beacon p stamp) := by
  obtain ⟨-, hlist, hchoice⟩ := (sourcesOk_iff s).1 hs
  obtain ⟨hmem, hsender, -⟩ := remote_some he
  obtain rfl : x = e.beacon p stamp := (mem_setRemote hlist.1 he (leastBy_mem hx)).resolve_right fun hother => hother.2 hxn
  exact ⟨(choice_of_mem hchoice hmem).1, hc.trans (congrArg some hxn),
    chosenSource_of_mem (setRemote_nodup (e' := e.beacon p stamp) hlist.1 hsender) (leastBy_mem hx) hc⟩

/-- A BOUNDARY beacon of the chosen source that is not STOPPED gives the reference a record. -/
theorem beaconKnown_records (hxn : x.sender = n) (hrec : p.kind = 0 ∧ p.motion ≠ 0) :
    let r := boundaryRecord p stamp
    let steps := consecutive r s.ptr.recNew
    let d := recordGap r s.ptr.recNew
    let fast := steps && decide (d < 8000)
    let m := if p.motion = 3 ∨ fast = true then Motion.fast else motionOf p.motion
    let i := if spoils s.ptr.motion m = false ∧ steps = true ∧ 8000 ≤ d ∧ d ≤ 1000000 then some d else none
    beaconKnown n e p stamp s = takeBoundary r (s.moved
      (Ptr.settled { s.ptr.setRemote n (some (e.beacon p stamp)) with recNew := some r, recOld := s.ptr.recNew, fastDiff := fast } m i)
      (sameRun r s.ptr.recNew && !steps) r.wrap) := by
  intro r steps d fast m i
  obtain ⟨htracking, hchosen, hsource⟩ := chosenSource_beacon hs he p stamp hx hc hxn
  have hmotion : (e.beacon p stamp).motion = motionOf p.motion := by
    rw [source_beacon_eq]
    exact if_pos hrec
  have hm : (if (e.beacon p stamp).motion = .fast ∨ fast = true then Motion.fast else (e.beacon p stamp).motion) = m := by
    rw [hmotion]
    simp only [motionOf_fast]
    rfl
  rw [beaconKnown_stays hs he p stamp hx hc, passBeacon_chosen _ _ _ _ htracking hchosen, if_pos hrec]
  exact trackerEvent_takeRecord htracking hsource s r hm

/-- A HOLD beacon of the chosen source gives the reference its hold position. -/
theorem beaconKnown_holds (hxn : x.sender = n) (hk : p.kind = 1) :
    let h := p.frame.toInt * 256 + p.phase.toNat
    let leaps := holdJump s.ptr.motion s.ptr.hold h
    let m := if s.ptr.fastDiff then Motion.fast else .stopped
    let i := if leaps = true ∨ spoils s.ptr.motion m = true then none else s.ptr.interval
    beaconKnown n e p stamp s = takeHold (s.moved
      (Ptr.settled { s.ptr.setRemote n (some (e.beacon p stamp)) with hold := some h } m i) leaps false) := by
  intro h leaps m i
  obtain ⟨htracking, hchosen, hsource⟩ := chosenSource_beacon hs he p stamp hx hc hxn
  have hno : ¬(p.kind = 0 ∧ p.motion ≠ 0) := fun hb => by rw [hk] at hb; exact absurd hb.1 (by decide)
  have hmotion : (e.beacon p stamp).motion = .stopped := by
    rw [source_beacon_eq]
    exact (if_neg hno).trans (if_pos hk)
  have hm : (if (e.beacon p stamp).motion = .fast ∨ s.ptr.fastDiff = true then Motion.fast else (e.beacon p stamp).motion) = m := by
    rw [hmotion]
    simp [m]
  rw [beaconKnown_stays hs he p stamp hx hc, passBeacon_chosen _ _ _ _ htracking hchosen, if_neg hno, if_pos hk]
  exact trackerEvent_takeHold htracking hsource s s.ptr.motion h hm

end

end

/-- Settles O51: `beaconKnown_enters` where the choice changes; where it stays, `beaconKnown_quiet`, `beaconKnown_records` and
`beaconKnown_holds` by what the beacon passes on. -/
theorem chosenBeaconsMoveTheReference : Obligations.ChosenBeaconsMoveTheReference := by
  unfold Obligations.ChosenBeaconsMoveTheReference
  intro t stamp sender p s htakes hs hm hp e he dir r h records sources preferred k x hx hpref
  have hv : (s.heard t).sourcesOk = true := hs
  obtain ⟨-, hlist, hchoice⟩ := (sourcesOk_iff s).1 hs
  obtain ⟨hmem, hsender, -⟩ := remote_some he
  have htracking := (choice_of_mem hchoice hmem).1
  have hq : s.ptr.setRemote sender.toNat (some (e.beacon p stamp)) = { s.ptr with sources := sources } := by
    rw [setRemote_map hlist.1 he, source_beacon_eq]
    rfl
  have hleast : leastBy Source.before (s.ptr.setRemote sender.toNat (some (e.beacon p stamp))).list = some x := by
    refine (preferred_iff (setRemote_nodup (e' := e.beacon p stamp) hlist.1 hsender) x).2 ?_
    rw [hq]
    refine ⟨mem_list_of_place hx, fun y hy => (before_iff x y).2 ?_⟩
    exact of_decide_eq_true (List.all_eq_true.1 hpref y hy)
  have hrun : exec (.beaconFrame t stamp sender p) s = .next (beaconKnown sender.toNat e p stamp (s.heard t)) := by
    have he' : (s.heard t).ptr.remote sender.toNat = some e := he
    rw [exec_beacon t stamp sender p s htakes, applyBeacon, he']
  refine ⟨fun hc hno => ?_, fun hc => ?_, fun hc hxn hrec => ?_, fun hc hxn hk => ?_⟩
  · rw [hrun, beaconKnown_quiet hv he p stamp hleast hc hm hp hno]
    exact congrArg (fun q : Ptr => Host.Outcome.next { s.heard t with ptr := q }) hq
  · intro q
    have henter := beaconKnown_enters hv he p stamp hleast hc
    obtain ⟨hptr, htally, hu⟩ := enter_leaves (s.heard t) _ _ _ henter
    have hentered : ((s.heard t).ptr.setRemote sender.toNat (some (e.beacon p stamp))).entered x = q := by
      rw [show (s.heard t).ptr.setRemote sender.toNat (some (e.beacon p stamp)) = _ from hq]
      exact entered_tracking (p := { s.ptr with sources := sources }) htracking x
    rw [hentered] at hptr hu
    exact ⟨_, hrun, hptr, htally, hu⟩
  · have hmoved := beaconKnown_records hv he p stamp hleast hc hxn hrec
    rw [show (s.heard t).ptr.setRemote sender.toNat (some (e.beacon p stamp)) = _ from hq] at hmoved
    rw [hrun, hmoved]
    obtain ⟨hptr, htally, hkept⟩ := takeBoundary_moved (boundaryRecord p stamp) (s.heard t) _ _ _
    refine ⟨_, rfl, hptr, rfl, fun hreports => htally (reportsTo_ne_nil _ _ _ _ ?_), hkept⟩
    rcases hreports with hturns | hwrap | hplay | hjump
    · exact .inr (.inr (.inl hturns))
    · exact .inr (.inl hwrap)
    · exact .inr (.inr (.inr (.inl hplay)))
    · exact .inl hjump
  · have hmoved := beaconKnown_holds hv he p stamp hleast hc hxn hk
    rw [show (s.heard t).ptr.setRemote sender.toNat (some (e.beacon p stamp)) = _ from hq] at hmoved
    dsimp only at hmoved
    rw [settled_standing] at hmoved
    rw [hrun, hmoved]
    obtain ⟨hptr, htally, hkept⟩ := takeHold_moved (s.heard t) _ _ _
    refine ⟨_, rfl, hptr, rfl, fun hreports => htally (reportsTo_ne_nil _ _ _ _ ?_), hkept⟩
    rcases hreports with hjump | hstop
    · exact .inl hjump
    · exact .inr (.inr (.inr (.inr ⟨htracking, hstop⟩)))

end Sys2Proof.Machine
end

section
/-! SUPPORT. What a SOURCE_LOST leaves in Fault and Alert through the reports that follow it. -/

namespace Sys2Proof.Machine
open Sys2Proof

/-! ## The first-fault record (R192, R193) -/

/-- A status change records TX_OVERFLOW alone, on a record that stands. -/
theorem statusEffect_bump_first (i : FaultInfo) (s : State) {r : FaultRec} (h : s.flt.first = some r) :
    (statusEffect (bumpFault i) s).flt.first = some r := by
  unfold statusEffect placeStatus
  (repeat' split) <;> simp [bumpFault, setCause, h]

/-- A fault fills an empty record, and leaves one that stands. -/
theorem recordFault_first (i : FaultInfo) (s : State) : (recordFault i s).flt.first = some (s.flt.first.getD (faultRecord i s)) := by
  unfold recordFault
  split
  · exact statusEffect_bump_first _ _ rfl
  · rfl

/-- A SOURCE_LOST is counted (R192). -/
theorem sourceLost_count (i : FaultInfo) (hi : i.kind = .sourceLost) (s : State) (h : s.flt.ok = true) :
    (recordFault i s).flt.counts[9]? = some (min 255 (s.flt.counts.getD 9 0 + 1)) := by
  obtain ⟨hlen, -⟩ := Flt.ok_count h 9
  have hcode : i.kind.code - 1 = 9 := by rw [hi]; rfl
  rw [recordFault_count_own s i hcode (by decide) (by rw [hlen]; decide), satInc_count h]

/-! ## Faults of other kinds -/

/-- No SOURCE_LOST is recorded on the way from `s` to `v`, and a first-fault record stays. -/
def LossKept (s v : State) : Prop := v.flt.counts[9]? = s.flt.counts[9]? ∧ ∀ r, s.flt.first = some r → v.flt.first = some r

section
variable {s v w : State}

theorem LossKept.of_flt (h : v.flt = s.flt) : LossKept s v := ⟨by rw [h], fun r hr => by rw [h, hr]⟩

theorem LossKept.trans (h : LossKept s v) (k : LossKept v w) : LossKept s w := ⟨k.1.trans h.1, fun r hr => k.2 r (h.2 r hr)⟩

/-- What leaves the counts and the record keeps them. -/
theorem LossKept.congr (h : LossKept s v) (hc : w.flt.counts = v.flt.counts) (hf : w.flt.first = v.flt.first) : LossKept s w :=
  h.trans ⟨by rw [hc], fun r hr => by rw [hf, hr]⟩

theorem LossKept.fault (h : LossKept s v) (i : FaultInfo) (hi : i.kind ≠ .sourceLost) : LossKept s (recordFault i v) := by
  have hcode : i.kind.code - 1 ≠ 9 := by
    revert hi
    cases i.kind <;> decide
  exact h.trans ⟨recordFault_count v i hcode (by decide), fun r hr => by rw [recordFault_first, hr]; rfl⟩

theorem LossKept.status (h : LossKept s v) : LossKept s (statusChange v) := by
  unfold statusChange statusEffect placeStatus
  split
  · exact h
  · split
    · exact h
    · split
      · exact h.congr rfl rfl
      · split
        · exact h.congr rfl rfl
        · exact h.fault _ (by decide)

theorem LossKept.placeFrame (h : LossKept s v) (f : LineFrame) (c : Option (BitVec 6 × BitVec 12)) :
    LossKept s (Machine.placeFrame f c v) := by
  unfold Machine.placeFrame
  split
  · exact h
  · split
    · exact h.congr rfl rfl
    · exact h.fault _ (by simp)

theorem LossKept.closePunch (h : LossKept s v) (c : Chan) (d : CueDef) (r : BitVec 2) (q : Option Int) :
    LossKept s (Machine.closePunch c d r q v) := by
  unfold Machine.closePunch
  split
  · exact h
  · have hplaced : LossKept s (placePunch edgeOut d r q (v.modCou fun x => x.setPunch c (x.punch c - 1))) :=
      (h.congr rfl rfl : LossKept s (v.modCou fun x => x.setPunch c (x.punch c - 1))).placeFrame _ _
    exact hplaced.congr rfl rfl

theorem LossKept.dropPunch (h : LossKept s v) (c : Chan) (i : Nat) : LossKept s (Machine.dropPunch c i v) := by
  unfold Machine.dropPunch
  split
  · split
    · next e _ _ =>
      have hclosed := (h.closePunch c e.cue reasonDropout v.here).fault
        { kind := .punchDropout, pos := v.here, chan := some c, cue := some e.cue.name } (by simp)
      exact hclosed.congr (by simp) (by simp)
    · exact h
  · exact h

theorem LossKept.setLock (h : LossKept s v) (c : Chan) (l : LockState) : LossKept s (Machine.setLock c l v) := by
  have hstatus : LossKept s (statusChange (setCause causeLock (v.modLock c fun x => { x with state := l, good := 0, bad := 0 }))) :=
    LossKept.status (h.congr (by simp) (by simp [setCause]))
  unfold Machine.setLock Machine.guarded
  split
  · exact forIndexes_invariant (LossKept s) _ _ (fun i v hv => hv.dropPunch c i) _ hstatus
  · exact hstatus

theorem LossKept.endRun (h : LossKept s v) (t : RunState) (i : Nat) : LossKept s (Machine.endRun t i v) := by
  unfold Machine.endRun
  split
  · next e _ =>
    split
    · have hclosed : LossKept s (if e.run.punchOpen then closeCuePunch e.cue reasonAbort v.here v else v) := by
        unfold closeCuePunch
        (repeat' split)
        · exact h.closePunch _ _ _ _
        · exact h
        · exact h
      have hlight : ∀ (b : Bool) (w : State), (if b then releaseLight e.cue.mask w else w).flt = w.flt := fun b w => by
        cases b <;> simp
      exact hclosed.congr (by simp [setCause, hlight]) (by simp [setCause, hlight])
    · exact h
  · exact h

theorem LossKept.schedulerReport (h : LossKept s v) (r : Report) : LossKept s (Machine.schedulerReport r v) := by
  have hruns : LossKept s (interruptAll v) := forIndexes_invariant (LossKept s) _ _ (fun i v hv => hv.endRun .passed i) _ h
  unfold Machine.schedulerReport
  split
  · exact h
  · exact hruns.congr (by simp) (by simp)

theorem LossKept.lockReport (h : LossKept s v) (r : Report) (c : Chan) : LossKept s (Machine.lockReport r c v) := by
  have hunlock : LossKept s (unlock c v) := by
    unfold unlock
    split
    · exact h
    · exact h.setLock c _
  have hchasing : LossKept s (match (v.lock c).state with
      | .unlocked => v
      | .chasing => v.modLock c fun l => { l with good := 0, bad := 0 }
      | .sync => Machine.setLock c .chasing v) := by
    split
    · exact h
    · exact h.congr (by simp) (by simp)
    · exact h.setLock c _
  unfold Machine.lockReport
  split
  · cases r with
    | jump | wrap => exact hchasing
    | stop | fast | loss => exact hunlock
    | reversal | playable => exact h
  · exact h

theorem LossKept.deliverReports (h : LossKept s v) (l : List Report) : LossKept s (l.foldl (fun v r => deliverReport r v) v) := by
  induction l generalizing v with
  | nil => exact h
  | cons r l ih =>
    have hcleared : LossKept s (clearTally (Machine.schedulerReport r v)) := (h.schedulerReport r).congr (by simp) (by simp)
    exact ih ((hcleared.lockReport r .a).lockReport r .b)

end

/-! ## Status changes before it (R18, R62) -/

/-- A second status change at once asks for nothing more. -/
theorem statusChange_twice (s : State) (h : s.clp.room) : statusChange (statusChange s) = statusChange s := by
  rw [statusChange, statusEffect_room _ s h]
  unfold statusEffect Clp.statusChanged
  by_cases hl : s.clp.line = .active
  · by_cases hs : s.clp.statusInFlight = true <;> by_cases hc : .status ∈ s.clp.queue <;>
      by_cases ht : s.clp.spacingTimer.isSome = true <;> simp_all [State.modClp, Clp.statusInFlight]
  · simp [hl]

/-- Status changes one after another change the transmitter alone. -/
theorem statusChanges_clp (a b : Bool) (s : State) (h : s.clp.room) :
    ∃ c, guarded b statusChange (guarded a statusChange s) = { s with clp := c } := by
  have hone : statusChange s = { s with clp := s.clp.statusChanged } := statusEffect_room _ s h
  cases a <;> cases b
  · exact ⟨_, rfl⟩
  · exact ⟨_, hone⟩
  · exact ⟨_, hone⟩
  · exact ⟨_, (statusChange_twice s h).trans hone⟩

end Sys2Proof.Machine
end

section
/-! SUPPORT. The LOCAL entry, and the beacons of a picture station. -/

namespace Sys2Proof.Machine
open Sys2Proof

/-! ## A reference that follows the LOCAL entry -/

/-- The chosen entry after a change of the LOCAL one. -/
theorem chosenSource_modLocal (p : Ptr) (f : Source → Source) (hf : ∀ e, (f e).sender = e.sender) :
    (p.modLocal f).chosenSource = p.chosenSource.map fun e => if e.isLocal then f e else e := by
  have hlist := modLocal_list p f
  have hchosen : (p.modLocal f).chosen = p.chosen := rfl
  unfold Ptr.chosenSource
  rw [← Ptr.list, ← Ptr.list, hlist, hchosen]
  cases p.chosen with
  | none => rfl
  | some n =>
    rw [Option.bind_some, Option.bind_some, List.find?_map]
    refine congrArg (Option.map _) (congrArg (List.find? · p.list) (funext fun e => ?_))
    simp only [Function.comp]
    split
    · rw [hf]
    · rfl

theorem followsLocal_iff (p : Ptr) :
    p.followsLocal = true ↔ p.state = .tracking ∧ ∃ y, p.chosenSource = some y ∧ y.isLocal = true := by
  cases hc : p.chosenSource <;> simp [Ptr.followsLocal, hc]

section
variable (p : Ptr) (f : Source → Source) (hs : ∀ e, (f e).sender = e.sender) (hl : ∀ e, (f e).isLocal = e.isLocal)
include hs

/-- The reference that follows the LOCAL entry follows the changed one. -/
theorem chosenSource_local (h : p.followsLocal = true) : ∃ y, p.chosenSource = some y ∧ (p.modLocal f).chosenSource = some (f y) := by
  obtain ⟨-, y, hy, hlocal⟩ := (followsLocal_iff p).1 h
  exact ⟨y, hy, by rw [chosenSource_modLocal p f hs, hy, Option.map_some, if_pos hlocal]⟩

include hl in
@[simp] theorem followsLocal_modLocal : (p.modLocal f).followsLocal = p.followsLocal := by
  have hstate : (p.modLocal f).state = p.state := rfl
  unfold Ptr.followsLocal
  rw [chosenSource_modLocal p f hs, hstate]
  cases p.chosenSource with
  | none => rfl
  | some y =>
    rw [Option.map_some, Option.any_some, Option.any_some]
    cases hy : y.isLocal <;> simp [hl, hy]

/-- A reference that does not follow the LOCAL entry derives the motion it had. -/
theorem derivedMotion_modLocal (h : p.followsLocal = false) : (p.modLocal f).derivedMotion = p.derivedMotion := by
  have hstate : (p.modLocal f).state = p.state := rfl
  have hmotion : (p.modLocal f).motion = p.motion := rfl
  have hfast : (p.modLocal f).fastDiff = p.fastDiff := rfl
  unfold Ptr.derivedMotion
  rw [chosenSource_modLocal p f hs, hstate, hmotion, hfast]
  cases hp : p.state with
  | none | hold => rfl
  | tracking =>
    cases hc : p.chosenSource with
    | none => rfl
    | some y =>
      have hy : y.isLocal = false := by simpa [Ptr.followsLocal, hp, hc] using h
      simp [hy]

end

/-- The hold position goes into the LOCAL entry, and into a reference that follows it (R49, R55). -/
theorem holdLocal_eq (p : Ptr) (before : Motion) (h : Int) : (TrackerEvent.of p).holdLocal before h =
    if p.followsLocal then (TrackerEvent.of (p.modLocal fun e => { e with hold := some h })).takeHold before h
    else TrackerEvent.of (p.modLocal fun e => { e with hold := some h }) := by
  have hfollows : (p.modLocal fun e => { e with hold := some h }).followsLocal = p.followsLocal :=
    followsLocal_modLocal p _ (fun _ => rfl) fun _ => rfl
  unfold TrackerEvent.holdLocal
  rw [← hfollows]
  rfl

/-! ## Beacons into the slot (R12, R49) -/

theorem placeBeacon_eq (b : Beacon) (t : Time) (s : State) : placeBeacon b t s = s.beaconed b t := by
  unfold placeBeacon State.beaconed
  split
  · refine congrArg (fun i => { s with clp := { s.clp with slot := some { beacon := b, stamp := t }, inFlight := i } })
      (congrArg (Option.map · s.clp.inFlight) (funext fun f => ?_))
    obtain ⟨frame, source⟩ := f
    cases source <;> rfl
  · rfl

theorem beaconed_slot (b : Beacon) (t : Time) (s : State) :
    (s.beaconed b t).clp.slot = if s.clp.line = .active then some { beacon := b, stamp := t } else s.clp.slot := by
  unfold State.beaconed
  split <;> rfl

/-- A HOLD beacon: placed, and its times written. -/
theorem sendHold_eq (h : Int) (s : State) : sendHold h s = { s.beaconed (s.holdBeaconOf h) s.timebase with
    ptr := { s.ptr with lastBeacon := some s.timebase, holdTimer := some (later s.timebase 200000) } } := by
  have hptr : (s.beaconed (s.holdBeaconOf h) s.timebase).ptr = s.ptr := by rw [← placeBeacon_eq]; simp
  unfold sendHold
  rw [placeBeacon_eq, ← hptr]
  rfl

end Sys2Proof.Machine
end

section
/-! The end of a source, and the beacons of a standing picture channel. -/

namespace Sys2Proof.Machine
open Sys2Proof

/-! ## The loss of the source (R51) -/

section
variable (q : Ptr) (s : State)

/-- The reference that a loss of source settles on. -/
theorem lose_settle (t : Time) (before : Ptr) : ((TrackerEvent.of q).lose t).settle before =
    { q with
      state := .hold, motion := .stopped, chosen := none, interval := none, fastDiff := false, hold := q.position t
      frozen := q.position t, playable := false } := by
  have hmotion : ((TrackerEvent.of q).lose t).ptr.derivedMotion = .stopped := derivedMotion_stopped _ nofun
  rw [settle_eq, hmotion]
  cases spoils before.motion .stopped <;> rfl

/-- A loss of source is reported, and empties the tally set. -/
theorem lose_tally (t : Time) (hc : q.chosen.isSome = true) : (trackerEvent ((TrackerEvent.of q).lose t) s).cou.tally = [] := by
  rw [trackerEvent_tally, if_neg]
  have hlost : ((TrackerEvent.of q).lose t).lost.isSome = true := hc
  simp [TrackerEvent.reports, hlost]

/-- A loss of source records SOURCE_LOST at the position it froze; no later fault of the event is one (R51, R62). -/
theorem lose_fault {n : Nat} (hc : q.chosen = some n) (h : s.clp.room) :
    ∃ v : State, v.flt = s.flt ∧ v.timebase = s.timebase ∧ v.here = q.position s.timebase ∧
      LossKept (recordFault { kind := .sourceLost, pos := q.position s.timebase, sender := some (BitVec.ofNat 5 n) } v)
        (trackerEvent ((TrackerEvent.of q).lose s.timebase) s) := by
  let after := ((TrackerEvent.of q).lose s.timebase).settle s.ptr
  have hafter : after = _ := lose_settle q s.timebase s.ptr
  obtain ⟨c, hnoted⟩ := statusChanges_clp (decide (after.state ≠ s.ptr.state)) (decide (after.motion ≠ s.ptr.motion))
    { s with ptr := after } h
  refine ⟨{ s with ptr := after, clp := c }, rfl, rfl, ?_, ?_⟩
  · change after.position s.timebase = _
    rw [hafter]
    rfl
  · have hfault : s.noted ((TrackerEvent.of q).lose s.timebase) =
        recordFault { kind := .sourceLost, pos := q.position s.timebase, sender := some (BitVec.ofNat 5 n) }
          { s with ptr := after, clp := c } := by
      have hlost : ((TrackerEvent.of q).lose s.timebase).lost = some n := hc
      have hfrozen : after.frozen = q.position s.timebase := by rw [hafter]
      rw [← hnoted, ← hfrozen]
      unfold State.noted
      rw [hlost]
    rw [← hfault, trackerEvent_eq]
    exact (LossKept.of_flt rfl).deliverReports _

end

/-- The aged entry leaves the list (R44). -/
theorem exec_aged (t : Time) (n : BitVec 5) (s : State) (hreset : s.resetActive = false) {e : Source}
    (he : s.ptr.remote n.toNat = some e) (hx : expired t e.aging = true) :
    exec (.sourceAgingExpiry t n) s =
      .next (trackerEvent ((TrackerEvent.of (s.ptr.setRemote n.toNat none)).choose t) (s.advance t)) := by
  have hrun : exec (.sourceAgingExpiry t n) s = s.event t (fun s =>
    guarded ((s.ptr.remote n.toNat).any fun e => expired s.timebase e.aging) (ageSource n.toNat) s) := rfl
  have he' : (s.advance t).ptr.remote n.toNat = some e := he
  have hx' : expired (s.advance t).timebase e.aging = true := hx
  rw [hrun, State.event_next s t _ hreset, he', Option.any_some, hx']
  rfl

section
variable {s : State} {n : Nat} {e : Source} (hs : s.sourcesOk = true) (he : s.ptr.remote n = some e)
include hs he

/-- The entries without the aged one. -/
theorem mem_setRemote_none (x : Source) : x ∈ (s.ptr.setRemote n none).list ↔ x ∈ s.ptr.list ∧ x ≠ e := by
  obtain ⟨-, hlist, -⟩ := (sourcesOk_iff s).1 hs
  obtain ⟨hmem, hsender, hlocal⟩ := remote_some he
  rw [setRemote_none_list, List.mem_filter]
  refine and_congr_right fun hx => ?_
  rw [Bool.not_eq_true', ← Bool.not_eq_true, not_iff_not]
  refine ⟨fun hr => source_eq_of_sender hlist.1 hx hmem ?_, ?_⟩
  · rw [hsender]
    exact of_decide_eq_true (Bool.and_eq_true_iff.1 hr).1
  · rintro rfl
    simp [Source.remoteOf, hsender, hlocal]

omit he in
theorem setRemote_none_nodup : ((s.ptr.setRemote n none).list.map fun e => e.sender).Nodup := by
  obtain ⟨-, hlist, -⟩ := (sourcesOk_iff s).1 hs
  rw [setRemote_none_list]
  exact hlist.1.sublist (List.filter_sublist.map _)

/-- Where another source was chosen, the aged entry leaves alone. -/
theorem aged_kept (hm : s.ptr.motion = s.ptr.derivedMotion) (hp : s.ptr.playable = s.ptr.isPlayable) (hc : s.ptr.chosen ≠ some n)
    (t : Time) : trackerEvent ((TrackerEvent.of (s.ptr.setRemote n none)).choose t) s = { s with ptr := s.ptr.setRemote n none } := by
  obtain ⟨-, hlist, hchoice⟩ := (sourcesOk_iff s).1 hs
  obtain ⟨hmem, hsender, -⟩ := remote_some he
  obtain ⟨-, x, hx, hchosen⟩ := choice_of_mem hchoice hmem
  obtain ⟨hxmem, hleast⟩ := (preferred_iff hlist.1 x).1 hx
  have hxe : x ≠ e := fun h => hc (by rw [hchosen, h, hsender])
  refine choose_kept hs hm hp hx ?_ (setRemote_none_nodup hs) t
  refine (preferred_iff (setRemote_none_nodup hs) x).2 ⟨(mem_setRemote_none hs he x).2 ⟨hxmem, hxe⟩, fun y hy => ?_⟩
  exact hleast y ((mem_setRemote_none hs he y).1 hy).1

/-- Where the aged source was chosen, the reference enters the preferred one of the others. -/
theorem aged_enters {x : Source} (hx : x ∈ s.ptr.list) (hxe : x ≠ e) (hc : s.ptr.chosen = some n)
    (hleast : ∀ y ∈ s.ptr.list, y ≠ e → x.before y = true) (t : Time) :
    trackerEvent ((TrackerEvent.of (s.ptr.setRemote n none)).choose t) s =
      guarded x.hold.isSome takeHold (s.moved ((s.ptr.setRemote n none).entered x) true false) := by
  obtain ⟨-, hlist, -⟩ := (sourcesOk_iff s).1 hs
  obtain ⟨hmem, hsender, -⟩ := remote_some he
  have hpreferred : leastBy Source.before (s.ptr.setRemote n none).list = some x := by
    refine (preferred_iff (setRemote_none_nodup hs) x).2 ⟨(mem_setRemote_none hs he x).2 ⟨hx, hxe⟩, fun y hy => ?_⟩
    obtain ⟨hyl, hye⟩ := (mem_setRemote_none hs he y).1 hy
    exact hleast y hyl hye
  have hother : ¬((s.ptr.setRemote n none).state = .tracking ∧ (s.ptr.setRemote n none).chosen = some x.sender) := fun h =>
    hxe (source_eq_of_sender hlist.1 hx hmem ((Option.some.inj (hc.symm.trans h.2)).symm.trans hsender.symm))
  rw [choose_preferred hpreferred, if_neg hother]
  exact trackerEvent_enter _ x s (leastBy_mem hpreferred) (setRemote_none_nodup hs)

/-- The only entry leaves: the reference loses its source. -/
theorem aged_loses (hone : s.ptr.list = [e]) (t : Time) : s.ptr.chosen = some n ∧
    (TrackerEvent.of (s.ptr.setRemote n none)).choose t = (TrackerEvent.of (s.ptr.setRemote n none)).lose t := by
  obtain ⟨-, -, hchoice⟩ := (sourcesOk_iff s).1 hs
  obtain ⟨hmem, hsender, -⟩ := remote_some he
  obtain ⟨htracking, x, hx, hchosen⟩ := choice_of_mem hchoice hmem
  obtain rfl : x = e := by
    have hxmem := leastBy_mem hx
    rw [hone] at hxmem
    exact List.mem_singleton.1 hxmem
  have hnil : (s.ptr.setRemote n none).list = [] := by
    refine List.eq_nil_iff_forall_not_mem.2 fun y hy => ?_
    obtain ⟨hyl, hye⟩ := (mem_setRemote_none hs he y).1 hy
    rw [hone] at hyl
    exact hye (List.mem_singleton.1 hyl)
  refine ⟨hchosen.trans (congrArg some hsender), ?_⟩
  have hnone : leastBy Source.before ((TrackerEvent.of (s.ptr.setRemote n none)).ptr.sources.filterMap id) = none :=
    (leastBy_eq_none _ _).2 hnil
  unfold TrackerEvent.choose
  rw [hnone]
  exact if_pos htracking

end

/-! ## The repeated HOLD beacon (R49) -/

theorem exec_held (t : Time) (c : Chan) (s : State) (hreset : s.resetActive = false) (hc : s.settings.picture = some c)
    (hm : (s.chan c).motion = .stopped) (hx : expired t s.ptr.holdTimer = true) :
    exec (.holdBeaconTimerExpiry t) s = .next (holdTimerExpiry c (s.advance t)) := by
  have hrun : exec (.holdBeaconTimerExpiry t) s = s.event t (fun s => match s.settings.picture with
    | some c => guarded (expired s.timebase s.ptr.holdTimer && decide ((s.chan c).motion = .stopped)) (holdTimerExpiry c) s
    | none => s) := rfl
  have hc' : (s.advance t).settings.picture = some c := hc
  have hm' : ((s.advance t).chan c).motion = .stopped := by rw [State.advance_chan]; exact hm
  have hx' : expired (s.advance t).timebase (s.advance t).ptr.holdTimer = true := hx
  rw [hrun, State.event_next s t _ hreset, hc']
  dsimp only
  rw [hx', decide_eq_true hm']
  rfl

section
variable (c : Chan) (s : State)

/-- What the expiry of the hold beacon timer leaves. -/
theorem holdTimerExpiry_leaves :
    let h := holdPosition (s.settings.chan c) (s.chan c)
    let u := holdTimerExpiry c s
    u.clp.slot = (if s.clp.line = .active then some { beacon := s.holdBeaconOf h, stamp := s.timebase } else s.clp.slot) ∧
    u.ptr.sources = (s.ptr.modLocal fun e => { e with hold := some h }).sources ∧ u.ptr.lastBeacon = some s.timebase ∧
    u.ptr.holdTimer = some (later s.timebase 200000) ∧ u.ptr.hold = if s.ptr.followsLocal then some h else s.ptr.hold := by
  intro h u
  have hslot : u.clp.slot = (sendHold h s).clp.slot := (trackerEvent_line _ _).2.2.2.2.2.2.2.1
  have hptr : u.ptr = ((TrackerEvent.of (sendHold h s).ptr).holdLocal (sendHold h s).ptr.motion h).settle (sendHold h s).ptr :=
    trackerEvent_ptr _ _
  rw [hslot, sendHold_eq]
  rw [sendHold_eq, holdLocal_eq] at hptr
  refine ⟨beaconed_slot _ _ _, ?_⟩
  rw [hptr]
  have hfollows : Ptr.followsLocal { s.ptr with lastBeacon := some s.timebase, holdTimer := some (later s.timebase 200000) } =
    s.ptr.followsLocal := rfl
  rw [hfollows]
  cases s.ptr.followsLocal <;> simp [TrackerEvent.of, TrackerEvent.takeHold, Ptr.modLocal]

/-- Where the reference follows another source and nothing is sent, entry and times change alone. -/
theorem holdTimerExpiry_quiet (hm : s.ptr.motion = s.ptr.derivedMotion) (hp : s.ptr.playable = s.ptr.isPlayable)
    (hf : s.ptr.followsLocal = false) (hl : s.clp.line ≠ .active) : holdTimerExpiry c s = { s with
      ptr := { s.ptr.modLocal fun e => { e with hold := some (holdPosition (s.settings.chan c) (s.chan c)) } with
        lastBeacon := some s.timebase, holdTimer := some (later s.timebase 200000) } } := by
  have hsend : sendHold (holdPosition (s.settings.chan c) (s.chan c)) s = { s with
      ptr := { s.ptr with lastBeacon := some s.timebase, holdTimer := some (later s.timebase 200000) } } := by
    rw [sendHold_eq, State.beaconed, if_neg hl]
  have hevent : holdTimerExpiry c s = trackerEvent
    ((TrackerEvent.of (sendHold (holdPosition (s.settings.chan c) (s.chan c)) s).ptr).holdLocal
      (sendHold (holdPosition (s.settings.chan c) (s.chan c)) s).ptr.motion (holdPosition (s.settings.chan c) (s.chan c)))
    (sendHold (holdPosition (s.settings.chan c) (s.chan c)) s) := rfl
  have hf' : Ptr.followsLocal { s.ptr with lastBeacon := some s.timebase, holdTimer := some (later s.timebase 200000) } = false := hf
  rw [hevent, hsend, holdLocal_eq, hf', if_neg Bool.false_ne_true]
  refine trackerEvent_quiet rfl rfl rfl rfl rfl rfl rfl rfl rfl ?_ hp
  exact (derivedMotion_modLocal { s.ptr with lastBeacon := some s.timebase, holdTimer := some (later s.timebase 200000) }
    (fun e => { e with hold := some (holdPosition (s.settings.chan c) (s.chan c)) }) (fun _ => rfl) hf').trans hm.symm

end

/-- Settles O52: `aged_kept`, `aged_enters` and `aged_loses` for an aged source, `holdTimerExpiry_leaves` for the repeated beacon. -/
theorem sourcesAgeAndHoldBeaconsRepeat : Obligations.SourcesAgeAndHoldBeaconsRepeat := by
  unfold Obligations.SourcesAgeAndHoldBeaconsRepeat
  intro t s hreset hs hm hp list s₀
  have hs₀ : s₀.sourcesOk = true := sourcesOk_of_ptr hs rfl (by simp [s₀]) rfl
  obtain ⟨-, hlist, hchoice⟩ := (sourcesOk_iff s).1 hs
  refine ⟨?_, ?_⟩
  · intro n e he hx sources
    have hrun := exec_aged t n s hreset he hx
    have he₀ : s₀.ptr.remote n.toNat = some e := he
    obtain ⟨hmem, hsender, hlocal⟩ := remote_some he
    have htracking := (choice_of_mem hchoice hmem).1
    have hq : s.ptr.setRemote n.toNat none = { s.ptr with sources := sources } := setRemote_map hlist.1 he none
    refine ⟨?_, ?_, ?_⟩
    · intro hc
      rw [hrun]
      refine congrArg _ ((aged_kept hs₀ he₀ hm hp hc t).trans ?_)
      exact congrArg (fun q : Ptr => { s₀ with ptr := q }) hq
    · intro k x hx hxe hc hleast q
      have hbefore : ∀ y ∈ s.ptr.list, y ≠ e → x.before y = true := fun y hy hye => by
        have hy' := List.all_eq_true.1 hleast y hy
        rw [decide_eq_false hye, Bool.false_or, decide_eq_true_eq] at hy'
        exact (before_iff x y).2 hy'
      obtain ⟨hptr, htally, hu⟩ := enter_leaves s₀ _ _ _ (aged_enters hs₀ he₀ (mem_list_of_place hx) hxe hc hbefore t)
      have hentered : (s₀.ptr.setRemote n.toNat none).entered x = q := by
        rw [show s₀.ptr.setRemote n.toNat none = _ from hq]
        exact entered_tracking (p := { s.ptr with sources := sources }) htracking x
      rw [hentered] at hptr hu
      exact ⟨_, hrun, hptr, htally, hu⟩
    · intro hone hroom hok
      obtain ⟨hchosen, hlose⟩ := aged_loses hs he hone t
      rw [hlose] at hrun
      have hroom₀ : s₀.clp.room := by simpa [Clp.room, s₀] using hroom
      obtain ⟨v, hflt, htime, hhere, hcounts, hfirst⟩ := lose_fault (s.ptr.setRemote n.toNat none) s₀ hchosen hroom₀
      have hsome : (s.ptr.setRemote n.toNat none).chosen.isSome = true := congrArg Option.isSome hchosen
      refine ⟨_, hrun, ?_, ?_, fun hnone => ?_, lose_tally _ s₀ t hsome⟩
      · rw [trackerEvent_ptr, lose_settle, hq]
        rfl
      · have hflt' : v.flt = s.flt := hflt
        rw [sourceLost_count _ rfl v (hflt' ▸ hok), hflt'] at hcounts
        exact (List.getD_eq_getElem?_getD ..).trans (congrArg (Option.getD · 0) hcounts)
      · refine hfirst _ ?_
        rw [recordFault_first, show v.flt.first = none from hflt ▸ hnone]
        simp only [Option.getD_none, faultRecord, hhere, htime, Option.or_self, BitVec.ofNat_toNat, BitVec.setWidth_eq]
        rfl
  · intro c hc hstands hx h sources
    have hrun := exec_held t c s hreset hc hstands hx
    obtain ⟨hslot, hsources, hlast, htimer, hhold⟩ := holdTimerExpiry_leaves c s₀
    have hh : holdPosition (s₀.settings.chan c) (s₀.chan c) = h := by rw [State.advance_chan]; rfl
    have hline : s₀.clp.line = s.clp.line := by simp [s₀]
    rw [hh] at hslot hsources hhold
    refine ⟨_, hrun, hslot.trans ?_, hsources, hlast, htimer, hhold, fun hf hl => ?_⟩
    · rw [hline, State.advance_clp_slot]
      rfl
    · have hquiet := holdTimerExpiry_quiet c s₀ hm hp hf (by rwa [hline])
      rw [hh] at hquiet
      exact hquiet

end Sys2Proof.Machine
end

section
/-! The local PICTURE channel at the tracker. -/

namespace Sys2Proof.Machine
open Sys2Proof

/-! ## Changes of the LOCAL entry -/

theorem modLocal_modLocal (p : Ptr) (f g : Source → Source) (hl : ∀ e, (f e).isLocal = e.isLocal) :
    (p.modLocal f).modLocal g = p.modLocal fun e => g (f e) := by
  have hplaces : ((p.modLocal f).modLocal g).sources = (p.modLocal fun e => g (f e)).sources := by
    simp only [Ptr.modLocal, List.map_map]
    refine List.map_congr_left fun o _ => ?_
    cases o with
    | none => rfl
    | some e => cases he : e.isLocal <;> simp [hl, he]
  exact congrArg (fun sources => { p with sources := sources }) hplaces

/-- A TRACKING reference whose entry changes moves with it. -/
theorem trackerEvent_follow {q : Ptr} {x : Source} (hs : q.state = .tracking) (hc : q.chosenSource = some x) {m : Motion} (s : State)
    (hm : (if x.motion = .fast ∨ q.fastDiff = true then .fast else x.motion) = m) :
    trackerEvent (TrackerEvent.of q) s =
      s.moved (q.settled m (if spoils s.ptr.motion m = true then none else q.interval)) false false := by
  have hder : (TrackerEvent.of q).ptr.derivedMotion = m := (derivedMotion_tracking (p := (TrackerEvent.of q).ptr) hs hc).trans hm
  rw [trackerEvent_moved _ s rfl rfl, settle_tracking hs hder]
  rfl

/-- A record and a hold update of a TRACKING reference, in one event (R53, R55; log entry 11). -/
theorem trackerEvent_takeRecord_takeHold {q : Ptr} {x : Source} (hs : q.state = .tracking) (hc : q.chosenSource = some x) {m : Motion}
    (s : State) (r : BRec) (before : Motion) (h : Int)
    (hm : (if x.motion = .fast ∨ (consecutive r q.recNew && decide (recordGap r q.recNew < 8000)) = true then .fast else x.motion) = m) :
    let steps := consecutive r q.recNew
    let d := recordGap r q.recNew
    let leaps := holdJump before q.hold h
    let i := if leaps = false ∧ spoils s.ptr.motion m = false ∧ steps = true ∧ 8000 ≤ d ∧ d ≤ 1000000 then some d else none
    trackerEvent (((TrackerEvent.of q).takeRecord r).takeHold before h) s = takeHold (takeBoundary r (s.moved
      (Ptr.settled { q with recNew := some r, recOld := q.recNew, fastDiff := steps && decide (d < 8000), hold := some h } m i)
      (sameRun r q.recNew && !steps || leaps) r.wrap)) := by
  intro steps d leaps i
  have hder : (((TrackerEvent.of q).takeRecord r).takeHold before h).ptr.derivedMotion = m :=
    (derivedMotion_tracking (p := (((TrackerEvent.of q).takeRecord r).takeHold before h).ptr) hs hc).trans hm
  have hi : (if spoils s.ptr.motion m then none else if leaps then none
      else if steps = true ∧ 8000 ≤ d ∧ d ≤ 1000000 then some d else none) = i := by
    cases hl : leaps <;> cases hsp : spoils s.ptr.motion m <;> simp [i, hl, hsp]
  rw [trackerEvent_moved_boundary _ s r rfl rfl, settle_tracking hs hder]
  exact congrArg (fun i => takeHold (takeBoundary r (s.moved
    (Ptr.settled { q with recNew := some r, recOld := q.recNew, fastDiff := steps && decide (d < 8000), hold := some h } m i)
    (sameRun r q.recNew && !steps || leaps) r.wrap))) hi

/-! ## The records of a picture channel (R46 to R49, R53) -/

/-- The record and the interval of the channel in the LOCAL entry, and the motion that they give it. -/
def localRecord (m : Motion) (i : Option Nat) (r : BRec) (e : Source) : Source :=
  { e with record := some r, interval := i, motion := localMotion m i }

/-- The reference with the channel interval of a record, and with the record in the LOCAL entry. -/
def Ptr.recorded (p : Ptr) (m : Motion) (i : Option Nat) (r : BRec) : Ptr := ({ p with chanInterval := i }).modLocal (localRecord m i r)

theorem followsLocal_recorded (p : Ptr) (m : Motion) (i : Option Nat) (r : BRec) : (p.recorded m i r).followsLocal = p.followsLocal :=
  followsLocal_modLocal { p with chanInterval := i } (localRecord m i r) (fun _ => rfl) fun _ => rfl

section
variable (c : Chan) (r : BRec) (s : State)

/-- The event of a record of a moving channel. -/
theorem recordEvent_moving {i : Option Nat} (hi : channelInterval (s.chan c).recNew (s.chan c).recOld = i)
    (hm : (s.chan c).motion ≠ .stopped) : recordEvent c r s =
      if s.ptr.followsLocal then (TrackerEvent.of (s.ptr.recorded (s.chan c).motion i r)).takeRecord r
      else TrackerEvent.of (s.ptr.recorded (s.chan c).motion i r) := by
  rw [← followsLocal_recorded s.ptr (s.chan c).motion i r, ← hi]
  exact if_neg hm

/-- The event of a record of a standing channel. -/
theorem recordEvent_standing {i : Option Nat} (hi : channelInterval (s.chan c).recNew (s.chan c).recOld = i)
    (hm : (s.chan c).motion = .stopped) :
    let h := holdPosition (s.settings.chan c) (s.chan c)
    let q := ({ s.ptr with chanInterval := i }).modLocal fun e => { localRecord .stopped i r e with hold := some h }
    recordEvent c r s = if s.ptr.followsLocal then ((TrackerEvent.of q).takeRecord r).takeHold s.ptr.motion h else TrackerEvent.of q := by
  intro h q
  have hq : (s.ptr.recorded .stopped i r).modLocal (fun e => { e with hold := some h }) = q := modLocal_modLocal _ _ _ fun _ => rfl
  have hevent : recordEvent c r s = (if (s.ptr.recorded .stopped i r).followsLocal
      then (TrackerEvent.of (s.ptr.recorded .stopped i r)).takeRecord r
      else TrackerEvent.of (s.ptr.recorded .stopped i r)).holdLocal s.ptr.motion h := by
    have hstands : recordEvent c r s = _ := if_pos hm
    rw [hstands, hi, hm]
    rfl
  rw [hevent, followsLocal_recorded]
  cases hf : s.ptr.followsLocal with
  | true =>
    have hfollows : (((TrackerEvent.of (s.ptr.recorded .stopped i r)).takeRecord r).ptr.modLocal
        fun e => { e with hold := some h }).followsLocal = true :=
      (followsLocal_modLocal ((TrackerEvent.of (s.ptr.recorded .stopped i r)).takeRecord r).ptr (fun e => { e with hold := some h })
        (fun _ => rfl) fun _ => rfl).trans ((followsLocal_recorded s.ptr .stopped i r).trans hf)
    rw [if_pos rfl, if_pos rfl, ← hq]
    exact if_pos hfollows
  | false =>
    rw [if_neg Bool.false_ne_true, if_neg Bool.false_ne_true, holdLocal_eq, followsLocal_recorded, hf, if_neg Bool.false_ne_true, hq]

end

/-! ## The BOUNDARY beacon of a record (R47, R48) -/

/-- A record of a standing channel places no beacon (log entry 18). -/
theorem recordBeaconed_standing (c : Chan) (r : BRec) (s : State) (hm : (s.chan c).motion = .stopped) : recordBeaconed c r s = s :=
  if_pos hm

/-- A record of a moving channel places a beacon, one in 40 ms while records come under 8 ms apart. -/
theorem recordBeaconed_moving (c : Chan) (r : BRec) (s : State) (hr : (s.chan c).recNew = some r) (hm : (s.chan c).motion ≠ .stopped) :
    let gap := recordGap r (s.chan c).recOld
    let interval := if consecutive r (s.chan c).recOld = true ∧ gap ≤ 1000000 then some gap else none
    let fast := consecutive r (s.chan c).recOld && decide (gap < 8000)
    let due := !fast || s.ptr.lastBeacon.all fun last => decide (40000 ≤ since r.stamp last)
    let b : Beacon :=
      { rank := s.straps.rank, motion := if fast then 3 else if r.dir = .reverse then 2 else 1, kind := 0, wrap := if r.wrap then 1 else 0,
        frame := BitVec.ofInt 24 r.b, phase := 0, interval := BitVec.ofNat 20 (interval.getD 0), age := 0 }
    channelInterval (s.chan c).recNew (s.chan c).recOld = interval ∧ (interval.any fun d => decide (d < 8000)) = fast ∧
    recordBeaconed c r s = { (if due then s.beaconed b r.stamp else s) with
      ptr := { s.ptr with lastBeacon := if due then some r.stamp else s.ptr.lastBeacon } } := by
  intro gap interval fast due b
  have hi : channelInterval (s.chan c).recNew (s.chan c).recOld = interval := by
    rw [hr]
    rfl
  have hfast : (interval.any fun d => decide (d < 8000)) = fast := by
    by_cases hc : consecutive r (s.chan c).recOld = true <;> by_cases hg : gap ≤ 1000000 <;> simp [interval, fast, hc, hg]
    omega
  have hplace : ∀ m : Motion, BitVec.ofNat 2 m.code = b.motion →
      (placeBeacon (boundaryBeacon s.straps.rank m interval r) r.stamp s).modPtr (fun p => { p with lastBeacon := some r.stamp }) =
        { s.beaconed b r.stamp with ptr := { s.ptr with lastBeacon := some r.stamp } } := by
    intro m hmotion
    have hwrap : BitVec.ofBool r.wrap = if r.wrap then 1 else 0 := by cases r.wrap <;> rfl
    have hb : boundaryBeacon s.straps.rank m interval r = b := by
      rw [boundaryBeacon, hmotion, hwrap]
    have hptr : (placeBeacon b r.stamp s).ptr = s.ptr := by simp
    rw [hb, State.modPtr, hptr, placeBeacon_eq]
  refine ⟨hi, hfast, ?_⟩
  unfold recordBeaconed
  rw [hi]
  refine (if_neg hm).trans ?_
  rw [hfast]
  cases hf : fast with
  | true =>
    have hmotion : BitVec.ofNat 2 Motion.fast.code = b.motion := (if_pos hf).symm
    have hdue : due = s.ptr.lastBeacon.all fun last => decide (40000 ≤ since r.stamp last) := by simp [due, hf]
    rw [if_pos rfl, hdue]
    by_cases hlast : (s.ptr.lastBeacon.all fun last => decide (40000 ≤ since r.stamp last)) = true
    · simp only [if_pos hlast]
      exact hplace .fast hmotion
    · simp only [if_neg hlast]
  | false =>
    have hmotion : BitVec.ofNat 2 (if r.dir = .reverse then Motion.reverse else .forward).code = b.motion := by
      have hb : b.motion = if r.dir = .reverse then 2 else 1 := if_neg (by rw [hf]; exact Bool.false_ne_true)
      rw [hb]
      split <;> rfl
    have hdue : due = true := by simp [due, hf]
    rw [if_neg Bool.false_ne_true, hdue, if_pos rfl, if_pos rfl]
    exact hplace _ hmotion

/-! ## The motion of a picture channel (R46, R49) -/

/-- The motion of the channel in the LOCAL entry, without an interval. -/
def localTurn (m : Motion) (e : Source) : Source := { e with motion := m, interval := none }

theorem localMotion_none (m : Motion) : localMotion m none = m := by cases m <;> rfl

/-- The reference without a channel interval, and with the channel's motion in the LOCAL entry. -/
def Ptr.turnedTo (p : Ptr) (m : Motion) : Ptr := ({ p with chanInterval := none }).modLocal (localTurn m)

theorem followsLocal_turnedTo (p : Ptr) (m : Motion) : (p.turnedTo m).followsLocal = p.followsLocal :=
  followsLocal_modLocal { p with chanInterval := none } (localTurn m) (fun _ => rfl) fun _ => rfl

section
variable (c : Chan) (s : State)

theorem motionEvent_turnedTo : motionEvent c s =
    if (s.chan c).motion = .stopped
    then (TrackerEvent.of (s.ptr.turnedTo (s.chan c).motion)).holdLocal s.ptr.motion (holdPosition (s.settings.chan c) (s.chan c))
    else TrackerEvent.of (s.ptr.turnedTo (s.chan c).motion) := by
  have hturn : localTurn (s.chan c).motion = fun e => { e with motion := localMotion (s.chan c).motion none, interval := none } := by
    rw [localMotion_none]
    rfl
  unfold Ptr.turnedTo
  rw [hturn]
  rfl

/-- The event of a channel that comes to stand. -/
theorem motionEvent_standing (hm : (s.chan c).motion = .stopped) :
    let h := holdPosition (s.settings.chan c) (s.chan c)
    let q := ({ s.ptr with chanInterval := none }).modLocal fun e => { localTurn .stopped e with hold := some h }
    motionEvent c s = if s.ptr.followsLocal then (TrackerEvent.of q).takeHold s.ptr.motion h else TrackerEvent.of q := by
  intro h q
  have hq : (s.ptr.turnedTo .stopped).modLocal (fun e => { e with hold := some h }) = q := modLocal_modLocal _ _ _ fun _ => rfl
  rw [motionEvent_turnedTo, if_pos hm, hm, holdLocal_eq, followsLocal_turnedTo, hq]

/-- The beacon of a change of motion, and its times. -/
theorem motionBeacon_eq :
    let h := holdPosition (s.settings.chan c) (s.chan c)
    let stands := decide ((s.chan c).motion = .stopped)
    motionBeacon c s = { (if stands then s.beaconed (s.holdBeaconOf h) s.timebase else s) with
      ptr := { s.ptr with
        lastBeacon := if stands then some s.timebase else s.ptr.lastBeacon
        holdTimer := if stands then some (later s.timebase 200000) else none } } := by
  intro h stands
  unfold motionBeacon
  by_cases hm : (s.chan c).motion = .stopped
  · have hstands : stands = true := decide_eq_true hm
    rw [if_pos hm, sendHold_eq, hstands]
    rfl
  · have hstands : stands = false := decide_eq_false hm
    rw [if_neg hm, hstands]
    rfl

end

/-! ## Events of a changed LOCAL entry -/

section
variable {w : State} {p : Ptr} {f : Source → Source} {i : Option Nat} (hq : ({ w.ptr with chanInterval := i }).modLocal f = p)
  (hs : ∀ e, (f e).sender = e.sender)
include hq hs

/-- Where the reference follows another source, only the LOCAL entry and the channel interval change. -/
theorem trackerEvent_local (hm : w.ptr.motion = w.ptr.derivedMotion) (hp : w.ptr.playable = w.ptr.isPlayable)
    (hf : w.ptr.followsLocal = false) : trackerEvent (TrackerEvent.of p) w = { w with ptr := p } := by
  subst hq
  exact trackerEvent_quiet rfl rfl rfl rfl rfl rfl rfl rfl rfl
    ((derivedMotion_modLocal { w.ptr with chanInterval := i } f hs hf).trans hm.symm) hp

variable {m₀ m : Motion} (hmotion : ∀ e, (f e).motion = m₀) (hf : w.ptr.followsLocal = true)
include hmotion hf

/-- The entry that a reference follows after a change of the LOCAL entry. -/
theorem chosenSource_changed : p.state = .tracking ∧ ∃ x, p.chosenSource = some x ∧ x.motion = m₀ := by
  subst hq
  obtain ⟨y, -, hy⟩ := chosenSource_local { w.ptr with chanInterval := i } f hs hf
  exact ⟨((followsLocal_iff w.ptr).1 hf).1, f y, hy, hmotion y⟩

/-- A reference that follows the LOCAL entry moves with its motion. -/
theorem trackerEvent_local_follow (hm : (if m₀ = .fast ∨ w.ptr.fastDiff = true then .fast else m₀) = m) :
    trackerEvent (TrackerEvent.of p) w =
      ({ w with ptr := p }).moved (p.settled m (if spoils w.ptr.motion m = true then none else w.ptr.interval)) false false := by
  obtain ⟨htracking, x, hx, hxm⟩ := chosenSource_changed hq hs hmotion hf
  subst hq
  rw [moved_congr]
  · exact trackerEvent_follow htracking hx w (by rw [hxm]; exact hm)
  all_goals rfl

/-- A reference that follows the LOCAL entry takes its record. -/
theorem trackerEvent_local_record (r : BRec) (hm : (if m₀ = .fast ∨
      (consecutive r w.ptr.recNew && decide (recordGap r w.ptr.recNew < 8000)) = true then .fast else m₀) = m) :
    let steps := consecutive r w.ptr.recNew
    let d := recordGap r w.ptr.recNew
    let i := if spoils w.ptr.motion m = false ∧ steps = true ∧ 8000 ≤ d ∧ d ≤ 1000000 then some d else none
    trackerEvent ((TrackerEvent.of p).takeRecord r) w = takeBoundary r (({ w with ptr := p }).moved
      (Ptr.settled { p with recNew := some r, recOld := w.ptr.recNew, fastDiff := steps && decide (d < 8000) } m i)
      (sameRun r w.ptr.recNew && !steps) r.wrap) := by
  obtain ⟨htracking, x, hx, hxm⟩ := chosenSource_changed hq hs hmotion hf
  subst hq
  intro steps d i
  rw [moved_congr]
  · exact trackerEvent_takeRecord htracking hx w r (by rw [hxm]; exact hm)
  all_goals rfl

/-- A reference that follows the LOCAL entry takes its hold position. -/
theorem trackerEvent_local_hold (h : Int) (hm : (if m₀ = .fast ∨ w.ptr.fastDiff = true then .fast else m₀) = m) :
    let leaps := holdJump w.ptr.motion w.ptr.hold h
    let i := if leaps = true ∨ spoils w.ptr.motion m = true then none else w.ptr.interval
    trackerEvent ((TrackerEvent.of p).takeHold w.ptr.motion h) w =
      takeHold (({ w with ptr := p }).moved (Ptr.settled { p with hold := some h } m i) leaps false) := by
  obtain ⟨htracking, x, hx, hxm⟩ := chosenSource_changed hq hs hmotion hf
  subst hq
  intro leaps i
  rw [moved_congr]
  · exact trackerEvent_takeHold htracking hx w w.ptr.motion h (by rw [hxm]; exact hm)
  all_goals rfl

/-- A reference that follows the LOCAL entry takes a record of the standing channel and its hold position (log entry 11). -/
theorem trackerEvent_local_record_hold (r : BRec) (h : Int) (hm : (if m₀ = .fast ∨
      (consecutive r w.ptr.recNew && decide (recordGap r w.ptr.recNew < 8000)) = true then .fast else m₀) = m) :
    let steps := consecutive r w.ptr.recNew
    let d := recordGap r w.ptr.recNew
    let leaps := holdJump w.ptr.motion w.ptr.hold h
    let i := if leaps = false ∧ spoils w.ptr.motion m = false ∧ steps = true ∧ 8000 ≤ d ∧ d ≤ 1000000 then some d else none
    trackerEvent (((TrackerEvent.of p).takeRecord r).takeHold w.ptr.motion h) w = takeHold (takeBoundary r (({ w with ptr := p }).moved
      (Ptr.settled { p with recNew := some r, recOld := w.ptr.recNew, fastDiff := steps && decide (d < 8000), hold := some h } m i)
      (sameRun r w.ptr.recNew && !steps || leaps) r.wrap)) := by
  obtain ⟨htracking, x, hx, hxm⟩ := chosenSource_changed hq hs hmotion hf
  subst hq
  intro steps d leaps i
  rw [moved_congr]
  · exact trackerEvent_takeRecord_takeHold htracking hx w r w.ptr.motion h (by rw [hxm]; exact hm)
  all_goals rfl

end

/-- A FAST entry makes the reference FAST by itself (R52). -/
theorem fast_or (m : Motion) (b : Bool) : (if m = .fast ∨ b = true then Motion.fast else m) = if b = true then .fast else m := by
  by_cases hb : b = true
  · rw [if_pos (.inr hb), if_pos hb]
  · rw [if_neg hb]
    split
    · next h => exact (h.resolve_right hb).symm
    · rfl

/-- The motion that a moving channel gives the LOCAL entry (R46). -/
theorem localMotion_moving {m : Motion} {i : Option Nat} {fast : Bool} (hm : m ≠ .stopped)
    (hfast : (i.any fun d => decide (d < 8000)) = fast) : localMotion m i = if fast then .fast else m := by
  rw [← hfast]
  unfold localMotion
  split
  · contradiction
  · rfl

/-- A record of the moving picture channel is an event after its beacon. -/
theorem pictureRecord_moving {c : Chan} {r : BRec} {s w : State} {p : Ptr} {i : Option Nat} (hw : recordBeaconed c r s = w)
    (hi : channelInterval (s.chan c).recNew (s.chan c).recOld = i) (hm : (s.chan c).motion ≠ .stopped)
    (hq : w.ptr.recorded (s.chan c).motion i r = p) :
    pictureRecord c r s = trackerEvent (if w.ptr.followsLocal then (TrackerEvent.of p).takeRecord r else TrackerEvent.of p) w := by
  have hchan : w.chan c = s.chan c := by
    rw [← hw]
    exact State.chan_congr (by simp [recordBeaconed]) (by simp [recordBeaconed]) c
  rw [pictureRecord_eq, hw, recordEvent_moving c r w (by rw [hchan, hi]) (by rw [hchan]; exact hm), hchan, hq]

/-- What a change of motion makes of the LOCAL entry; a standing channel gives it the hold position. -/
def localStand (m : Motion) (stands : Bool) (h : Int) (e : Source) : Source :=
  { e with motion := m, interval := none, hold := if stands then some h else e.hold }

/-- A change of motion of the picture channel is an event after its beacon. -/
theorem pictureMotion_event {c : Chan} {s w : State} {p : Ptr} (hw : motionBeacon c s = w) :
    let h := holdPosition (s.settings.chan c) (s.chan c)
    let stands := decide ((s.chan c).motion = .stopped)
    ({ w.ptr with chanInterval := none }).modLocal (localStand (s.chan c).motion stands h) = p →
    pictureMotion c s = trackerEvent
      (if (stands && w.ptr.followsLocal) = true then (TrackerEvent.of p).takeHold w.ptr.motion h else TrackerEvent.of p) w := by
  intro h stands hq
  have hchan : w.chan c = s.chan c := by
    rw [← hw]
    exact State.chan_congr (by simp) (by simp) c
  have hset : w.settings = s.settings := by simp [← hw]
  rw [pictureMotion_eq, hw]
  by_cases hm : (s.chan c).motion = .stopped
  · have hstand : localStand (s.chan c).motion stands h = fun e => { localTurn .stopped e with hold := some h } := by
      rw [show stands = true from decide_eq_true hm, hm]
      rfl
    rw [motionEvent_standing c w (by rw [hchan, hm]), hchan, hset, show stands = true from decide_eq_true hm, Bool.true_and, ← hq, hstand]
  · have hstand : localStand (s.chan c).motion stands h = localTurn (s.chan c).motion := by
      rw [show stands = false from decide_eq_false hm]
      rfl
    rw [motionEvent_turnedTo, hchan, if_neg hm, show stands = false from decide_eq_false hm, Bool.false_and, if_neg Bool.false_ne_true,
      ← hq, hstand]
    rfl

/-- Settles O53: `pictureRecord_moving`, `recordEvent_standing` and `pictureMotion_event` give the event, after its beacon; the lemmas on
events of a changed LOCAL entry say what it does. -/
theorem pictureRecordsAndMotion : Obligations.PictureRecordsAndMotion := by
  unfold Obligations.PictureRecordsAndMotion
  intro c s hm hp ch withLocal fits turns
  refine ⟨?_, ?_, ?_⟩
  · intro r hr hmoves gap interval fast due b v p
    obtain ⟨hi, hfast, hbeacon⟩ : channelInterval (s.chan c).recNew (s.chan c).recOld = interval ∧
      (interval.any fun d => decide (d < 8000)) = fast ∧
      recordBeaconed c r s = { v with ptr := { s.ptr with lastBeacon := if due then some r.stamp else s.ptr.lastBeacon } } :=
      recordBeaconed_moving c r s hr hmoves
    have hmotion : localMotion ch.motion interval = if fast then .fast else ch.motion := localMotion_moving hmoves hfast
    obtain ⟨w, hw⟩ : ∃ w : State, w = { v with ptr := { s.ptr with lastBeacon := if due then some r.stamp else s.ptr.lastBeacon } } :=
      ⟨_, rfl⟩
    have hptr : w.ptr = { s.ptr with lastBeacon := if due then some r.stamp else s.ptr.lastBeacon } := by rw [hw]
    have hwp : { w with ptr := p } = { v with ptr := p } := by rw [hw]
    rw [← hw] at hbeacon
    have hrec : localRecord ch.motion interval r =
        fun e => { e with record := some r, interval := interval, motion := if fast then .fast else ch.motion } :=
      funext fun e => by rw [localRecord, hmotion]
    have hq : w.ptr.recorded ch.motion interval r = p := by
      unfold Ptr.recorded
      rw [hptr, hrec]
      rfl
    clear_value v b due fast interval gap p
    have hevent := pictureRecord_moving hbeacon hi hmoves hq
    have hfollows : w.ptr.followsLocal = s.ptr.followsLocal := by
      rw [hptr]
      rfl
    refine ⟨fun hf => ?_, fun hf => ?_⟩
    · rw [hfollows, hf, if_neg Bool.false_ne_true] at hevent
      rw [hevent, ← hwp]
      exact trackerEvent_local hq (fun _ => rfl) (by rw [hptr]; exact hm) (by rw [hptr]; exact hp) (hfollows.trans hf)
    · rw [hfollows, hf, if_pos rfl] at hevent
      intro steps d fast₁ m i q
      have hm' : (if (if fast then Motion.fast else ch.motion) = .fast ∨ fast₁ = true then Motion.fast
          else if fast then Motion.fast else ch.motion) = m := by
        cases fast with
        | true => rfl
        | false => exact (fast_or ch.motion fast₁).trans (by simp [m])
      have hmoved := trackerEvent_local_record hq (fun _ => rfl) (fun _ => hmotion) (hfollows.trans hf) r (m := m) (by rw [hptr]; exact hm')
      rw [hptr, ← hevent, hwp] at hmoved
      refine ⟨?_, hmoved⟩
      rw [hmoved]
      exact (takeBoundary_moved r _ _ _ _).1
  · intro r hr hstands gap interval h p
    have hi : channelInterval (s.chan c).recNew (s.chan c).recOld = interval := by
      rw [show (s.chan c).recNew = some r from hr]
      rfl
    have hq : (({ s.ptr with chanInterval := interval }).modLocal fun e => { localRecord .stopped interval r e with hold := some h }) = p :=
      rfl
    have hevent : pictureRecord c r s = trackerEvent
        (if s.ptr.followsLocal then ((TrackerEvent.of p).takeRecord r).takeHold s.ptr.motion h else TrackerEvent.of p) s := by
      rw [pictureRecord_eq, recordBeaconed_standing c r s hstands, recordEvent_standing c r s hi hstands]
      rfl
    clear_value interval gap p
    refine ⟨fun hf => ?_, fun hf => ?_⟩
    · rw [hf, if_neg Bool.false_ne_true] at hevent
      exact hevent.trans (trackerEvent_local hq (fun _ => rfl) hm hp hf)
    · rw [hf, if_pos rfl] at hevent
      intro steps d fast₁ m leaps i q
      have hm' : (if Motion.stopped = .fast ∨ fast₁ = true then Motion.fast else .stopped) = m := fast_or .stopped fast₁
      have hsettled : Ptr.settled { p with recNew := some r, recOld := s.ptr.recNew, fastDiff := fast₁, hold := some h } m i = q :=
        settled_stands _ fast₁ i
      have hmoved := hevent.trans (trackerEvent_local_record_hold hq (fun _ => rfl) (fun _ => rfl) hf r h hm')
      have hmoved' : pictureRecord c r s =
          takeHold (takeBoundary r ({ s with ptr := p }.moved q (sameRun r s.ptr.recNew && !steps || leaps) r.wrap)) := by
        rw [← hsettled]
        exact hmoved
      refine ⟨?_, hmoved'⟩
      rw [hmoved']
      simp
  · intro h stands v p
    obtain ⟨w, hw⟩ : ∃ w : State, w = { v with ptr := { s.ptr with
        lastBeacon := if stands then some s.timebase else s.ptr.lastBeacon
        holdTimer := if stands then some (later s.timebase 200000) else none } } := ⟨_, rfl⟩
    have hbeacon : motionBeacon c s = w := (motionBeacon_eq c s).trans hw.symm
    have hptr : w.ptr = { s.ptr with
        lastBeacon := if stands then some s.timebase else s.ptr.lastBeacon
        holdTimer := if stands then some (later s.timebase 200000) else none } := by rw [hw]
    have hwp : { w with ptr := p } = { v with ptr := p } := by rw [hw]
    have hq : ({ w.ptr with chanInterval := none }).modLocal (localStand ch.motion stands h) = p := by
      rw [hptr]
      rfl
    have hhold : p.hold = s.ptr.hold := rfl
    have hfollows : w.ptr.followsLocal = s.ptr.followsLocal := by
      rw [hptr]
      rfl
    have hevent : pictureMotion c s = trackerEvent
        (if (stands && s.ptr.followsLocal) = true then (TrackerEvent.of p).takeHold w.ptr.motion h else TrackerEvent.of p) w := by
      rw [← hfollows]
      exact pictureMotion_event hbeacon hq
    clear_value p v stands
    refine ⟨fun hf => ?_, fun hf => ?_⟩
    · rw [hf, Bool.and_false, if_neg Bool.false_ne_true] at hevent
      rw [hevent, ← hwp]
      exact trackerEvent_local hq (fun _ => rfl) (by rw [hptr]; exact hm) (by rw [hptr]; exact hp) (hfollows.trans hf)
    · rw [hf, Bool.and_true] at hevent
      intro jump m i q
      have hm' : (if ch.motion = .fast ∨ s.ptr.fastDiff = true then Motion.fast else ch.motion) = m := fast_or _ _
      have hmoved : pictureMotion c s = (if stands then takeHold else id) ({ v with ptr := p }.moved q jump false) := by
        cases stands with
        | true =>
          have hheld := trackerEvent_local_hold hq (fun _ => rfl) (fun _ => rfl) (hfollows.trans hf) h (m := m) (by rw [hptr]; exact hm')
          rw [if_pos rfl] at hevent
          rw [← hevent, hptr, hwp] at hheld
          exact hheld
        | false =>
          have hfollowed := trackerEvent_local_follow hq (fun _ => rfl) (fun _ => rfl) (hfollows.trans hf) (m := m)
            (by rw [hptr]; exact hm')
          have hi : (if spoils s.ptr.motion m = true then none else s.ptr.interval) = i :=
            if_congr ⟨.inr, fun hor => hor.resolve_left Bool.false_ne_true⟩ rfl rfl
          have hsettled : p.settled m i = q := by
            simp only [q]
            rw [if_neg Bool.false_ne_true, ← hhold]
            rfl
          rw [if_neg Bool.false_ne_true] at hevent
          rw [← hevent, hptr, hwp, hi, hsettled] at hfollowed
          exact hfollowed
      refine ⟨?_, hmoved⟩
      rw [hmoved]
      split <;> simp

end Sys2Proof.Machine
end

section
/-! SUPPORT. The sync-lost notice (R135): what one turn does, what all of them do to the cue table and to the outputs, and that a turn
reads nothing of the table but its own entry. -/

namespace Sys2Proof.Machine
open Sys2Proof

/-! ## Faults and punch lines do not read the cue table -/

section
variable (s : State) (t : Ctb)

theorem statusEffect_bump_table (i : FaultInfo) :
    statusEffect (bumpFault i) { s with ctb := t } = { statusEffect (bumpFault i) s with ctb := t } := by
  unfold statusEffect placeStatus Clp.statusInFlight
  dsimp only
  (repeat' split) <;> rfl

theorem recordFault_table (i : FaultInfo) : recordFault i { s with ctb := t } = { recordFault i s with ctb := t } := by
  unfold recordFault
  dsimp only
  split
  · exact statusEffect_bump_table (bumpFault i s) t _
  · rfl

theorem placeFrame_table (f : LineFrame) (cue : Option (BitVec 6 × BitVec 12)) :
    placeFrame f cue { s with ctb := t } = { placeFrame f cue s with ctb := t } := by
  unfold placeFrame State.listening
  dsimp only
  split
  · rfl
  split
  · rfl
  · exact recordFault_table s t _

theorem closePunch_table (c : Chan) (d : CueDef) (r : BitVec 2) (q : Option Int) :
    closePunch c d r q { s with ctb := t } = { closePunch c d r q s with ctb := t } := by
  unfold closePunch placePunch
  dsimp only
  split
  · rfl
  · exact congrArg (setCause causePunch) (placeFrame_table (s.modCou fun k => k.setPunch c (k.punch c - 1)) t _ _)

end

/-! ## A cause stays pending through faults and punch lines (R197) -/

section
variable {s : State} {k : Nat}

theorem setCause_pending (h : s.flt.causes.getLsbD k = true) (c : BitVec 6) : (setCause c s).flt.causes.getLsbD k = true := by
  simp [setCause, h]

theorem bumpFault_pending (h : s.flt.causes.getLsbD k = true) (i : FaultInfo) : (bumpFault i s).flt.causes.getLsbD k = true :=
  setCause_pending (by exact h) causeFault

theorem statusEffect_bump_pending (h : s.flt.causes.getLsbD k = true) (i : FaultInfo) :
    (statusEffect (bumpFault i) s).flt.causes.getLsbD k = true := by
  unfold statusEffect placeStatus
  (repeat' split)
  any_goals exact h
  exact bumpFault_pending h i

theorem recordFault_pending (h : s.flt.causes.getLsbD k = true) (i : FaultInfo) :
    (recordFault i s).flt.causes.getLsbD k = true := by
  unfold recordFault
  split
  · exact statusEffect_bump_pending (bumpFault_pending h i) _
  · exact bumpFault_pending h i

theorem closePunch_pending (h : s.flt.causes.getLsbD k = true) (c : Chan) (d : CueDef) (r : BitVec 2) (q : Option Int) :
    (closePunch c d r q s).flt.causes.getLsbD k = true := by
  unfold closePunch placePunch placeFrame
  split
  · exact h
  refine setCause_pending ?_ _
  (repeat' split)
  · exact h
  · exact h
  · exact recordFault_pending (by exact h) _

theorem dropPunch_pending (h : s.flt.causes.getLsbD k = true) (c : Chan) (i : Nat) :
    (dropPunch c i s).flt.causes.getLsbD k = true := by
  unfold dropPunch
  (repeat' split)
  · simpa using recordFault_pending (closePunch_pending h c _ _ _) _
  · exact h
  · exact h

theorem syncLost_pending (h : s.flt.causes.getLsbD k = true) (c : Chan) : (syncLost c s).flt.causes.getLsbD k = true := by
  unfold syncLost
  exact forIndexes_invariant (fun v => v.flt.causes.getLsbD k = true) Config.cueCount (dropPunch c)
    (fun i _ hv => dropPunch_pending hv c i) s h

end

/-! ## One turn (R123, R135) -/

/-- The run part is that of a RUNNING cue with its punch open on the channel. -/
def dropsOut (g : Settings) (c : Chan) (d : CueDef) (x : RunPart) : Bool :=
  decide (x.state = .running ∧ x.punchOpen = true ∧ g.recorder d.group = some c)

/-- The run part after the dropout notice, where it gets one. -/
def RunPart.droppedOut (g : Settings) (c : Chan) (d : CueDef) (x : RunPart) : RunPart :=
  if dropsOut g c d x then { x with punchOpen := false, punch := .dropped } else x

/-- A turn without its dropout notice: the punch closes with DROPOUT, then PUNCH_DROPOUT is recorded. The entry, the settings and the
position are those of `s`. -/
def dropoutTurn (c : Chan) (s v : State) (i : Nat) : State :=
  match s.entry i with
  | some e =>
    if dropsOut s.settings c e.cue e.run then
      recordFault { kind := .punchDropout, pos := s.here, chan := some c, cue := some (e.cue.reel, e.cue.id) }
        (closePunch c e.cue 1 s.here v)
    else v
  | none => v

section
variable {s u v : State} {c : Chan} {i : Nat} {e : CueEntry}

theorem dropPunch_open (he : s.entry i = some e) (ho : dropsOut s.settings c e.cue e.run = true) :
    dropPunch c i s = modRun i (fun r => { r with punchOpen := false, punch := .dropped }) (dropoutTurn c s s i) := by
  unfold dropPunch dropoutTurn
  simp only [he, ho, if_true, if_pos (of_decide_eq_true ho)]
  rfl

theorem dropPunch_shut (he : s.entry i = some e) (ho : dropsOut s.settings c e.cue e.run = false) : dropPunch c i s = s := by
  unfold dropPunch
  simp only [he, if_neg (of_decide_eq_false ho)]

theorem dropPunch_empty (he : s.entry i = none) : dropPunch c i s = s := by
  unfold dropPunch
  simp only [he]

theorem dropoutTurn_open (he : s.entry i = some e) (ho : dropsOut s.settings c e.cue e.run = true) :
    dropoutTurn c s v i = recordFault { kind := .punchDropout, pos := s.here, chan := some c, cue := some (e.cue.reel, e.cue.id) }
      (closePunch c e.cue 1 s.here v) := by
  simp [dropoutTurn, he, ho]

theorem dropoutTurn_shut (he : s.entry i = some e) (ho : dropsOut s.settings c e.cue e.run = false) : dropoutTurn c s v i = v := by
  simp [dropoutTurn, he, ho]

/-- A turn reads of the state only the entry, the settings and the position. -/
theorem dropoutTurn_congr (hentry : u.entry i = s.entry i) (hset : u.settings = s.settings) (hhere : u.here = s.here) (v : State) :
    dropoutTurn c u v i = dropoutTurn c s v i := by
  unfold dropoutTurn
  rw [hentry, hset, hhere]

/-- What the turn does to the outputs does not read the cue table. -/
theorem dropoutTurn_table (t : Ctb) : dropoutTurn c s { v with ctb := t } i = { dropoutTurn c s v i with ctb := t } := by
  unfold dropoutTurn
  (repeat' split)
  · rw [closePunch_table, recordFault_table]
  · rfl
  · rfl

/-- Outside the cue table, the notice's turn is `dropoutTurn`. -/
theorem dropPunch_outputs (c : Chan) (i : Nat) (s : State) :
    dropPunch c i s = { dropoutTurn c s s i with ctb := (dropPunch c i s).ctb } := by
  cases he : s.entry i with
  | none => simp only [dropPunch_empty he, dropoutTurn, he]
  | some e =>
    cases ho : dropsOut s.settings c e.cue e.run with
    | false => simp only [dropPunch_shut he ho, dropoutTurn_shut he ho]
    | true => rw [dropPunch_open he ho]; rfl

/-- The turn's entry takes its run part; the rest of the table stays. -/
theorem dropPunch_ctb (hi : i < s.ctb.entries.length) : (dropPunch c i s).ctb =
    (setEntry i ((s.entry i).map fun e => { e with run := e.run.droppedOut s.settings c e.cue }) s).ctb := by
  cases he : s.entry i with
  | none => rw [dropPunch_empty he, Option.map_none, ← he, setEntry_same i s hi]
  | some e =>
    cases ho : dropsOut s.settings c e.cue e.run with
    | false =>
      have hrun : e.run.droppedOut s.settings c e.cue = e.run := by simp [RunPart.droppedOut, ho]
      rw [dropPunch_shut he ho, Option.map_some, hrun, ← he, setEntry_same i s hi]
    | true =>
      have hctb : (dropoutTurn c s s i).ctb = s.ctb := by simp [dropoutTurn_open he ho]
      rw [dropPunch_open he ho]
      simp only [modRun, setEntry, State.modCtb, entry_congr hctb, hctb, he]
      simp [RunPart.droppedOut, ho]

end

/-! ## All turns -/

section
variable (c : Chan) (s : State)

/-- A loop whose turns leave the other entries leaves those beyond its reach. -/
theorem forIndexes_entry_beyond {f : Nat → State → State} (hother : ∀ i v j, j ≠ i → (f i v).entry j = v.entry j) {n j : Nat}
    (h : n ≤ j) : (forIndexes n f s).entry j = s.entry j := by
  induction n with
  | zero => rfl
  | succ n ih => rw [forIndexes_succ, hother n _ j (by omega), ih (by omega)]

/-- Outside the cue table, the turns are those of `dropoutTurn` on the entries of the start, in increasing index order. -/
theorem dropPunches_outputs (n : Nat) : forIndexes n (dropPunch c) s =
    { (List.range n).foldl (dropoutTurn c s) s with ctb := (forIndexes n (dropPunch c) s).ctb } := by
  induction n with
  | zero => rfl
  | succ n ih =>
    rw [forIndexes_succ, List.range_succ, List.foldl_append, List.foldl_cons, List.foldl_nil]
    have hentry : (forIndexes n (dropPunch c) s).entry n = s.entry n :=
      forIndexes_entry_beyond s (fun i v => (dropPunch_entry c i v).2) le_rfl
    have hset : (forIndexes n (dropPunch c) s).settings = s.settings := forIndexes_same State.settings _ (by simp) n s
    have hhere : (forIndexes n (dropPunch c) s).here = s.here := forIndexes_same State.here _ (by simp [State.here]) n s
    have hturn := dropPunch_outputs c n (forIndexes n (dropPunch c) s)
    rw [dropoutTurn_congr hentry hset hhere, congrArg (dropoutTurn c s · n) ih, dropoutTurn_table] at hturn
    exact hturn

theorem syncLost_outputs : syncLost c s =
    { (List.range 32).foldl (dropoutTurn c s) s with ctb := (syncLost c s).ctb } := by
  unfold syncLost
  exact dropPunches_outputs c s 32

/-- Every run part gets its dropout notice (R123). -/
theorem syncLost_ctb (h : s.ctb.entries.length = Config.cueCount) :
    (syncLost c s).ctb = { s.ctb with entries := s.withRuns fun d x => x.droppedOut s.settings c d } := by
  obtain ⟨⟨hstaging, hpointer, -⟩, hentries⟩ := forIndexes_table
    (fun o => o.map fun e => { e with run := e.run.droppedOut s.settings c e.cue }) (dropPunch c)
    (fun v => v.ctb.staging = s.ctb.staging ∧ v.ctb.pointer = s.ctb.pointer ∧ v.settings = s.settings)
    (fun i v ⟨hstaging, hpointer, hset⟩ hi => by
      rw [dropPunch_ctb hi, hset]
      exact ⟨⟨hstaging, hpointer, by simp [hset]⟩, rfl⟩) s ⟨rfl, rfl, rfl⟩ h
  rw [← syncLost] at hstaging hpointer hentries
  generalize syncLost c s = v at hstaging hpointer hentries ⊢
  exact congr (congr (congrArg Ctb.mk hentries) hstaging) hpointer

/-- Nothing happens where no open punch stands on the channel. -/
theorem syncLost_none (h : s.noneRunning (fun e => dropsOut s.settings c e.cue e.run) = true) : syncLost c s = s := by
  unfold syncLost
  refine forIndexes_id Config.cueCount (dropPunch c) s fun i => ?_
  cases he : s.entry i with
  | none => exact dropPunch_empty he
  | some e =>
    have hshut := List.all_eq_true.1 h _ (entry_mem he)
    refine dropPunch_shut he (Bool.eq_false_iff.2 fun ho => ?_)
    obtain ⟨hrun, -⟩ := of_decide_eq_true ho
    simp [ho, hrun] at hshut

/-! ## The punch line (R133, R135) -/

theorem closePunch_punch (d : CueDef) (r : BitVec 2) (q : Option Int) : (closePunch c d r q s).cou.punch c = s.cou.punch c - 1 := by
  unfold closePunch
  split
  · next hz => rw [hz]
  · simp [setPunch_punch]

/-- A turn takes one from the line's count and from the open punches, or nothing from either. -/
theorem dropPunch_surplus (i : Nat) :
    (dropPunch c i s).cou.punch c - (dropPunch c i s).openCount c = s.cou.punch c - s.openCount c := by
  cases he : s.entry i with
  | none => rw [dropPunch_empty he]
  | some e =>
    cases ho : dropsOut s.settings c e.cue e.run with
    | false => rw [dropPunch_shut he ho]
    | true =>
      have hi := lt_of_entry he
      obtain ⟨hrun, hopen, hchan⟩ := of_decide_eq_true ho
      have hset : (dropPunch c i s).settings = s.settings := by simp
      have hline : (dropPunch c i s).cou.punch c = s.cou.punch c - 1 := by
        rw [dropPunch_open he ho, dropoutTurn_open he ho]
        simp [closePunch_punch]
      have hcount := runningCount_set (congrArg Ctb.entries (dropPunch_ctb (c := c) hi)) hi (holdsPunch s.settings c)
      have hbefore : countOf (s.entry i) (holdsPunch s.settings c) = 1 := by simp [he, countOf, holdsPunch, hrun, hopen, hchan]
      have hafter : countOf ((s.entry i).map fun e => { e with run := e.run.droppedOut s.settings c e.cue })
          (holdsPunch s.settings c) = 0 := by
        simp [he, countOf, holdsPunch, RunPart.droppedOut, ho]
      have hself : s.openCount c = s.openCount c - 1 + 1 := by
        simpa [State.openCount, holdsPunch, hopen, hchan] using count_self he hrun (holdsPunch s.settings c)
      rw [State.openCount, hset, hcount, hline, hbefore, hafter, ← State.openCount]
      omega

/-- No punch of the channel is open after the notice. -/
theorem syncLost_closed (h : s.ctb.entries.length = Config.cueCount) : (syncLost c s).openCount c = 0 := by
  refine runningCount_zero fun j e he hr => ?_
  have hmem := entry_mem he
  rw [syncLost_ctb c s h] at hmem
  obtain ⟨o, -, ho⟩ := List.mem_map.1 hmem
  obtain ⟨e₀, -, rfl⟩ := Option.map_eq_some_iff.1 ho
  have hset : (syncLost c s).settings = s.settings := by simp
  rw [hset]
  cases hd : dropsOut s.settings c e₀.cue e₀.run with
  | true => simp [holdsPunch, RunPart.droppedOut, hd]
  | false =>
    have hrun : e₀.run.droppedOut s.settings c e₀.cue = e₀.run := by simp [RunPart.droppedOut, hd]
    dsimp only at hr ⊢
    rw [hrun] at hr ⊢
    simpa [holdsPunch, dropsOut, hr] using hd

theorem syncLost_punch (h : s.ctb.entries.length = Config.cueCount) : (syncLost c s).cou.punch c = s.cou.punch c - s.openCount c := by
  have hsame : (syncLost c s).cou.punch c - (syncLost c s).openCount c = s.cou.punch c - s.openCount c :=
    forIndexes_same (fun v => v.cou.punch c - v.openCount c) (dropPunch c) (fun i v => dropPunch_surplus c v i) Config.cueCount s
  rwa [syncLost_closed c s h, Nat.sub_zero] at hsame

end

end Sys2Proof.Machine
end

section
/-! The Record Lock: locks as blocks of the state, changes of lock state, and boundaries, motion changes and reports at a lock. -/

namespace Sys2Proof.Machine
open Sys2Proof

/-! ## Locks as blocks of the state -/

section
variable (s : State) (c : Chan)

theorem State.modLock_eq_withLock (f : Lock → Lock) : s.modLock c f = s.withLock c (f (s.lock c)) := by cases c <;> rfl

@[simp] theorem State.withLock_lock (x : Lock) : (s.withLock c x).lock c = x := by cases c <;> rfl

/-- `s` after a change of the lock's state to `x` (R75), before a sync-lost notice. -/
def State.relock (x : Lock) : State := { (s.withLock c x).alerted causeLock with clp := s.clp.statusChanged }

@[simp] theorem State.relock_lock (x : Lock) : (s.relock c x).lock c = x := by cases c <;> rfl

@[simp] theorem State.relock_other (x : Lock) : (s.relock c x).lock (otherChan c) = s.lock (otherChan c) := by cases c <;> rfl

@[simp] theorem State.relock_keeps (x : Lock) :
    (s.relock c x).ptr = s.ptr ∧ (s.relock c x).csh = s.csh ∧ (s.relock c x).cou = s.cou ∧ (s.relock c x).ctb = s.ctb ∧
    (s.relock c x).settings = s.settings ∧ (s.relock c x).timebase = s.timebase := by cases c <;> exact ⟨rfl, rfl, rfl, rfl, rfl, rfl⟩

@[simp] theorem State.withLock_relock (x y : Lock) : (s.relock c y).withLock c x = s.relock c x := by cases c <;> rfl

/-- `s` with the sync error of the lock written (R66). -/
def State.withError (e : Int) : State := s.withLock c { s.lock c with err := e }

@[simp] theorem State.withError_lock (e : Int) :
    (s.withError c e).lock c = ⟨(s.lock c).state, e, (s.lock c).good, (s.lock c).bad⟩ := by cases c <;> rfl

@[simp] theorem State.withError_clp (e : Int) : (s.withError c e).clp = s.clp := by cases c <;> rfl

@[simp] theorem State.withError_withLock (e : Int) (x : Lock) : (s.withError c e).withLock c x = s.withLock c x := by cases c <;> rfl

@[simp] theorem State.withError_relock (e : Int) (x : Lock) : (s.withError c e).relock c x = s.relock c x := by cases c <;> rfl

theorem State.relock_pending (x : Lock) : (s.relock c x).flt.causes.getLsbD 3 = true := by
  have hcauses : (s.relock c x).flt.causes = s.flt.causes ||| causeLock := by cases c <;> rfl
  rw [hcauses, BitVec.getLsbD_or, show causeLock.getLsbD 3 = true from rfl, Bool.or_true]

end

/-! ## Changes of lock state (R75) -/

section
variable {s : State} {c : Chan}

theorem relocked_eq (h : s.clp.room) (st : LockState) : relocked c st s = s.relock c ⟨st, (s.lock c).err, 0, 0⟩ := by
  unfold relocked
  rw [statusChange, statusEffect_room _ _ (by cases c <;> exact h)]
  cases c <;> rfl

theorem setLock_calmly (h : s.clp.room) (hl : (s.lock c).state ≠ .sync) (st : LockState) :
    setLock c st s = s.relock c ⟨st, (s.lock c).err, 0, 0⟩ := by
  rw [← relocked_eq h]
  exact if_neg (by simpa using hl)

theorem setLock_leaving (h : s.clp.room) (hl : (s.lock c).state = .sync) (st : LockState) :
    setLock c st s = syncLost c (s.relock c ⟨st, (s.lock c).err, 0, 0⟩) := by
  rw [← relocked_eq h]
  exact if_pos (by simpa using hl)

theorem unlock_cases (h : s.clp.room) :
    ((s.lock c).state = .unlocked → unlock c s = s) ∧
    ((s.lock c).state = .chasing → unlock c s = s.relock c ⟨.unlocked, (s.lock c).err, 0, 0⟩) ∧
    ((s.lock c).state = .sync → unlock c s = syncLost c (s.relock c ⟨.unlocked, (s.lock c).err, 0, 0⟩)) := by
  unfold unlock
  refine ⟨fun hl => if_pos hl, fun hl => ?_, fun hl => ?_⟩
  · rw [if_neg (by simp [hl]), setLock_calmly h (by simp [hl])]
  · rw [if_neg (by simp [hl]), setLock_leaving h hl]

/-! ## A measured boundary (R66 to R70) -/

variable {b p : Int}

/-- The error is written, and the boundary counts as the lock's state has it. -/
theorem measure_eq : measure c b p s =
    let good := decide ((syncError b p).natAbs ≤ s.settings.tolerance)
    match (s.lock c).state with
    | .unlocked => countChasing c good (setLock c .chasing (s.withError c (syncError b p)))
    | .chasing => countChasing c good (s.withError c (syncError b p))
    | .sync => countSync c good (s.withError c (syncError b p)) := by
  simp only [measure, State.modLock_eq_withLock, State.withLock_lock] <;> rfl

/-- The first boundary of a lock in UNLOCKED makes it CHASING and counts there (R68). -/
theorem measure_unlocked (h : s.clp.room) (hl : (s.lock c).state = .unlocked) : measure c b p s = s.relock c
    ⟨.chasing, syncError b p, if (syncError b p).natAbs ≤ s.settings.tolerance then 1 else 0,
      if (syncError b p).natAbs ≤ s.settings.tolerance then 0 else 1⟩ := by
  have herr : setLock c .chasing (s.withError c (syncError b p)) = s.relock c ⟨.chasing, syncError b p, 0, 0⟩ := by
    rw [setLock_calmly (by simpa using h) (by simp [hl])]
    simp
  simp only [measure_eq, hl, herr]
  by_cases hg : (syncError b p).natAbs ≤ s.settings.tolerance <;> simp [countChasing, hg, State.modLock_eq_withLock, satInc]

section
variable (hl : (s.lock c).state = .chasing)
include hl

/-- A bad boundary of a lock in CHASING (R69). -/
theorem measure_chasing_bad (hg : ¬(syncError b p).natAbs ≤ s.settings.tolerance) :
    measure c b p s = s.withLock c ⟨.chasing, syncError b p, 0, satInc 255 (s.lock c).bad⟩ := by
  rw [measure_eq]
  simp [hl, hg, countChasing, State.modLock_eq_withLock]

/-- The first and the second good boundary in a row (R69). -/
theorem measure_chasing_good (hg : (syncError b p).natAbs ≤ s.settings.tolerance) (hn : (s.lock c).good < 2) :
    measure c b p s = s.withLock c ⟨.chasing, syncError b p, (s.lock c).good + 1, 0⟩ := by
  rw [measure_eq]
  simp [hl, hg, countChasing, State.modLock_eq_withLock, Nat.not_le.2 hn]

/-- The third good boundary in a row gives SYNC (R69). -/
theorem measure_chasing_locks (h : s.clp.room) (hg : (syncError b p).natAbs ≤ s.settings.tolerance) (hn : 2 ≤ (s.lock c).good) :
    measure c b p s = s.relock c ⟨.sync, syncError b p, 0, 0⟩ := by
  rw [measure_eq]
  simp [hl, hg, countChasing, hn, setLock_calmly (s := s.withError c (syncError b p)) (c := c) (by simpa using h)]

end

section
variable (hl : (s.lock c).state = .sync)
include hl

/-- A good boundary of a lock in SYNC (R70). -/
theorem measure_sync_good (hg : (syncError b p).natAbs ≤ s.settings.tolerance) :
    measure c b p s = s.withLock c ⟨.sync, syncError b p, satInc 255 (s.lock c).good, 0⟩ := by
  rw [measure_eq]
  simp [hl, hg, countSync, State.modLock_eq_withLock]

/-- The first bad boundary in a row (R70). -/
theorem measure_sync_bad (hg : ¬(syncError b p).natAbs ≤ s.settings.tolerance) (hn : (s.lock c).bad = 0) :
    measure c b p s = s.withLock c ⟨.sync, syncError b p, 0, 1⟩ := by
  rw [measure_eq]
  simp [hl, hg, countSync, State.modLock_eq_withLock, hn]

/-- The second bad boundary in a row takes SYNC away (R70). -/
theorem measure_sync_drops (h : s.clp.room) (hg : ¬(syncError b p).natAbs ≤ s.settings.tolerance) (hn : (s.lock c).bad ≠ 0) :
    measure c b p s = syncLost c (s.relock c ⟨.chasing, syncError b p, 0, 0⟩) := by
  rw [measure_eq]
  simp [hl, hg, countSync, Nat.one_le_iff_ne_zero, hn, setLock_leaving (s := s.withError c (syncError b p)) (c := c) (by simpa using h)]

end

/-! ## What reaches the lock (R67, R71 to R74) -/

theorem moving_iff (q : Ptr) : q.moving = true ↔ q.state = .tracking ∧ (q.motion = .forward ∨ q.motion = .reverse) := by
  simp [Ptr.moving]

/-- The boundary runs with the reference (R67). -/
def Ptr.along (q : Ptr) (r : BRec) : Prop := q.motion = .forward ∧ r.dir = .forward ∨ q.motion = .reverse ∧ r.dir = .reverse

theorem lockBoundary_stands {r : BRec} (hm : (s.chan c).motion = .stopped) : lockBoundary c r s = s := if_pos hm

theorem lockBoundary_against {r : BRec} (hm : (s.chan c).motion ≠ .stopped) (h : ¬(s.ptr.moving = true ∧ s.ptr.along r)) :
    lockBoundary c r s = unlock c s := by
  unfold lockBoundary
  rw [if_neg hm]
  cases hmoves : s.ptr.moving with
  | false => rfl
  | true => exact if_pos fun halong => h ⟨hmoves, halong⟩

section
variable {r : BRec} (hm : (s.chan c).motion ≠ .stopped) (hmoves : s.ptr.moving = true) (halong : s.ptr.along r)
include hm hmoves halong

/-- Without a prediction for its stamp, a boundary is not measured. -/
theorem lockBoundary_unmeasured (h : s.ptr.interval = none ∨ s.ptr.position r.stamp = none) : lockBoundary c r s = s := by
  unfold Ptr.along at halong
  rcases h with hi | hp
  · simp [lockBoundary, hm, hmoves, halong, hi]
  · cases hi : s.ptr.interval <;> simp [lockBoundary, hm, hmoves, halong, hi, hp]

theorem lockBoundary_measured (hi : s.ptr.interval.isSome = true) {p : Int} (hp : s.ptr.position r.stamp = some p) :
    lockBoundary c r s = measure c r.b p s := by
  obtain ⟨i, hi⟩ := Option.isSome_iff_exists.1 hi
  unfold Ptr.along at halong
  simp [lockBoundary, hm, hmoves, halong, hi, hp]

end

theorem lockMotion_kept (h : ¬((s.chan c).motion = .stopped ∨ s.ptr.moving = true ∧ (s.chan c).motion ≠ s.ptr.motion)) :
    lockMotion c s = s := by
  obtain ⟨hm, hother⟩ := not_or.1 h
  exact (if_neg hm).trans (if_neg hother)

theorem lockMotion_unlocks (h : (s.chan c).motion = .stopped ∨ s.ptr.moving = true ∧ (s.chan c).motion ≠ s.ptr.motion) :
    lockMotion c s = unlock c s := by
  by_cases hm : (s.chan c).motion = .stopped
  · exact lockMotion_stopped c s hm
  · exact (if_neg hm).trans (if_pos (h.resolve_left hm))

theorem lockReport_unlocks (ha : s.lockActs c = true) {x : Report} (hx : x = .stop ∨ x = .fast ∨ x = .loss) :
    lockReport x c s = unlock c s := by
  rcases hx with rfl | rfl | rfl <;> exact if_pos ha

/-- A leap of the reference takes a lock back to CHASING at most (R72). -/
theorem lockReport_leaps (ha : s.lockActs c = true) (h : s.clp.room) {x : Report} (hx : x = .jump ∨ x = .wrap) :
    ((s.lock c).state = .unlocked → lockReport x c s = s) ∧
    ((s.lock c).state = .chasing → lockReport x c s = s.withLock c ⟨.chasing, (s.lock c).err, 0, 0⟩) ∧
    ((s.lock c).state = .sync → lockReport x c s = syncLost c (s.relock c ⟨.chasing, (s.lock c).err, 0, 0⟩)) := by
  refine ⟨fun hl => ?_, fun hl => ?_, fun hl => ?_⟩
  · rcases hx with rfl | rfl <;> simp [lockReport, ha, hl]
  · rcases hx with rfl | rfl <;> simp [lockReport, ha, hl, State.modLock_eq_withLock]
  · rcases hx with rfl | rfl <;> simp [lockReport, ha, hl, setLock_leaving h hl]

/-- REVERSAL and PLAYABLE-CHANGE leave the lock (R74). -/
theorem lockReport_kept {x : Report} (hx : x = .reversal ∨ ∃ b, x = .playable b) : lockReport x c s = s := by
  rcases hx with rfl | ⟨b, rfl⟩ <;> exact ite_self s

end

/-! ## The punch line at the notice (R133) -/

theorem closePunch_none {s : State} {c : Chan} (h : s.cou.punch c = 0) (d : CueDef) (r : BitVec 2) (q : Option Int) :
    closePunch c d r q s = s := if_pos h

/-- With room in the queue, the close places its PUNCH OUT frame. -/
theorem closePunch_queued {s : State} {c : Chan} (h : 0 < s.cou.punch c) (hl : s.listening = true) (hq : s.clp.queue.length < 8)
    (d : CueDef) (r : BitVec 2) (q : Option Int) : closePunch c d r q s = { s.alerted causePunch with
      cou := s.cou.setPunch c (s.cou.punch c - 1)
      clp := { s.clp with queue := s.clp.queue ++ [.frame (.punch 1 (punchOf d r q))] } } := by
  have hframe : ∀ (f : LineFrame) (cue : Option (BitVec 6 × BitVec 12)) (v : State), v.listening = true → v.clp.queue.length < 8 →
      placeFrame f cue v = { v with clp := { v.clp with queue := v.clp.queue ++ [.frame f] } } := fun f cue v hl hq => by
    unfold placeFrame
    rw [if_neg (by simp [hl]), if_pos hq]
    rfl
  unfold closePunch placePunch
  rw [if_neg (Nat.pos_iff_ne_zero.1 h), hframe _ _ (s.modCou fun k => k.setPunch c (k.punch c - 1)) hl hq]
  rfl

/-! ## The statement -/

/-- Outside the cue table, a lock that leaves SYNC leaves what the turns of the notice make of its change of state, on the entries of
before (R75, R135). -/
theorem relock_lost (c : Chan) (s : State) (x : Lock) : syncLost c (s.relock c x) =
    { (List.range 32).foldl (dropoutTurn c s) (s.relock c x) with ctb := (syncLost c (s.relock c x)).ctb } := by
  have hturn : dropoutTurn c (s.relock c x) = dropoutTurn c s := funext fun v => funext fun i =>
    dropoutTurn_congr (entry_congr (by simp) i) (by simp) (by simp [State.here]) v
  rw [← hturn]
  exact syncLost_outputs c _

/-- Settles O56: `lockBoundary`, `lockMotion` and `lockReport` come to `unlock`, `measure` or nothing, and each of these to `relock`,
followed by `syncLost` where the lock was in SYNC; `relock_lost` and the lemmas on `syncLost` say what that leaves. -/
theorem locksMeasureBoundaries : Obligations.LocksMeasureBoundaries := by
  unfold Obligations.LocksMeasureBoundaries
  intro c r s hroom hqueue hsize l moved open_ leaves unlocks moving along stands
  have hleaves : ∀ x, leaves x (syncLost c (s.relock c x)) := fun x => by
    have hsize' : (s.relock c x).ctb.entries.length = Config.cueCount := by simp [hsize]
    refine ⟨?_, ?_, syncLost_pending (s.relock_pending c x) c, ?_, ?_, by simp, by simp, by simp, relock_lost c s x, fun hnone => ?_⟩
    · rw [State.lock_congr (s := s.relock c x) (by simp) (by simp), State.relock_lock]
    · rw [State.lock_congr (s := s.relock c x) (by simp) (by simp), State.relock_other]
    · rw [syncLost_ctb c _ hsize']
      cases c <;> rfl
    · rw [syncLost_punch c _ hsize']
      cases c <;> rfl
    · refine syncLost_none c _ ?_
      cases c <;> exact hnone
  have hunlocks : unlocks (unlock c s) := by
    obtain ⟨hstays, hcalm, hleaving⟩ := unlock_cases (c := c) hroom
    exact ⟨hstays, hcalm, fun hl => hleaving hl ▸ hleaves _⟩
  have hmoving : moving ↔ s.ptr.moving = true := (moving_iff s.ptr).symm
  have hmotion : (stands ∨ moving ∧ (s.chan c).motion ≠ s.ptr.motion) ↔
      ((s.chan c).motion = .stopped ∨ s.ptr.moving = true ∧ (s.chan c).motion ≠ s.ptr.motion) :=
    or_congr_right (and_congr_left' hmoving)
  refine ⟨fun d reason q => ⟨fun hz => closePunch_none hz d reason q, fun hpos hl => closePunch_queued hpos hl hqueue d reason q⟩,
    lockBoundary_stands, fun hm h => ?_, fun hm hmoves halong => lockBoundary_unmeasured hm (hmoving.1 hmoves) halong, ?_,
    fun h => ?_, fun h => lockMotion_kept (hmotion.not.1 h), fun ha => ⟨fun x hx => ?_, fun x hx => ?_, ?_, fun b => ?_⟩⟩
  · rw [lockBoundary_against hm fun ⟨hmoves, halong⟩ => h ⟨hmoving.2 hmoves, halong⟩]
    exact hunlocks
  · intro hm hmoves halong hi p hp err good bad₁ v
    have hv : v = measure c r.b p s := lockBoundary_measured hm (hmoving.1 hmoves) halong hi hp
    rw [hv]
    exact ⟨measure_unlocked hroom, measure_chasing_bad, measure_chasing_good, fun hl => measure_chasing_locks hl hroom, measure_sync_good,
      measure_sync_bad, fun hl hg hn => measure_sync_drops hl hroom hg hn ▸ hleaves _⟩
  · rw [lockMotion_unlocks (hmotion.1 h)]
    exact hunlocks
  · rw [lockReport_unlocks ha hx]
    exact hunlocks
  · obtain ⟨hstays, hcalm, hleaving⟩ := lockReport_leaps ha hroom hx
    exact ⟨hstays, hcalm, fun hl => hleaving hl ▸ hleaves _⟩
  · exact lockReport_kept (.inl rfl)
  · exact lockReport_kept (.inr ⟨b, rfl⟩)

end Sys2Proof.Machine
end

section
/-! SUPPORT. Tidy operations: they keep the names of the cue table, the staging set, the overlay and the key, and Fault and Alert in
order. Shown for Fault and Alert, Cue Outputs and the Cue Scheduler. -/

namespace Sys2Proof.Machine
open Sys2Proof

/-! ## Fault and Alert (R192) -/

/-- There is a count of each kind in its range, and the more flag stands only with a record. -/
theorem Flt.ok_iff (f : Flt) :
    f.ok = true ↔ f.counts.length = 21 ∧ (∀ n ∈ f.counts, n ≤ 255) ∧ (f.more = true → f.first.isSome = true) := by
  cases hm : f.more <;> simp [Flt.ok, hm, and_assoc]

theorem satInc_le {limit n : Nat} (h : n ≤ limit) : satInc limit n ≤ limit := by
  unfold satInc
  split <;> omega

theorem bumpFault_flt_ok (i : FaultInfo) (s : State) (h : s.flt.ok = true) : (bumpFault i s).flt.ok = true := by
  obtain ⟨hlen, hall, -⟩ := (Flt.ok_iff _).1 h
  refine (Flt.ok_iff _).2 ⟨by simp [bumpFault, setCause, hlen], fun n hn => ?_, fun _ => rfl⟩
  rcases List.mem_or_eq_of_mem_set hn with hn | rfl
  · exact hall n hn
  · refine satInc_le ?_
    rw [List.getD_eq_getElem?_getD]
    cases hk : s.flt.counts[i.kind.code - 1]? with
    | none => simp
    | some k => exact hall k (List.mem_of_getElem? hk)

/-! ## The names of the cue table (R78) -/

/-- The reel tag and cue id of each place of the cue table. -/
def State.cueNames (s : State) : List (Option (BitVec 6 × BitVec 12)) := s.ctb.entries.map fun o => o.map fun e => e.cue.name

/-- Setting an entry sets its name. -/
theorem cueNames_setEntry (i : Nat) (o : Option CueEntry) (s : State) :
    (setEntry i o s).cueNames = s.cueNames.set i (o.map fun e => e.cue.name) := by
  simp [State.cueNames, List.map_set]

/-- An entry set to one of the same name leaves the names. -/
theorem cueNames_setEntry_same (i : Nat) (o : Option CueEntry) (s : State)
    (h : (o.map fun e => e.cue.name) = (s.entry i).map fun e => e.cue.name) : (setEntry i o s).cueNames = s.cueNames := by
  rw [cueNames_setEntry]
  by_cases hi : i < s.ctb.entries.length
  · rw [h, entry_eq_getElem hi]
    simp [State.cueNames, ← List.map_set]
  · exact List.set_eq_of_length_le (by simpa [State.cueNames] using hi)

theorem cueNames_modRun (i : Nat) (f : RunPart → RunPart) (s : State) : (modRun i f s).cueNames = s.cueNames :=
  cueNames_setEntry_same i _ s (by cases s.entry i <;> rfl)

/-! ## Tidy operations -/

/-- What every operation but those of the cue table, the overlay and the key keeps of the four invariants. -/
structure Tidy (s u : State) : Prop where
  names : u.cueNames = s.cueNames
  staging : u.ctb.staging = s.ctb.staging
  ovl : u.ovl = s.ovl
  mkl : u.mkl = s.mkl
  flt : s.flt.ok = true → u.flt.ok = true

theorem Tidy.refl (s : State) : Tidy s s := ⟨rfl, rfl, rfl, rfl, id⟩

section
variable {s v w : State} (h : Tidy s v)
include h

theorem Tidy.trans (k : Tidy v w) : Tidy s w :=
  ⟨k.names.trans h.names, k.staging.trans h.staging, k.ovl.trans h.ovl, k.mkl.trans h.mkl, fun hf => k.flt (h.flt hf)⟩

/-- What leaves the cue table, the overlay, the key and Fault and Alert is tidy. -/
theorem Tidy.kept (hk : w.ctb = v.ctb ∧ w.ovl = v.ovl ∧ w.mkl = v.mkl ∧ w.flt = v.flt) : Tidy s w := by
  obtain ⟨hctb, hovl, hmkl, hflt⟩ := hk
  exact h.trans ⟨by simp [State.cueNames, hctb], by rw [hctb], hovl, hmkl, fun hf => by rwa [hflt]⟩

theorem Tidy.modClp (f : Clp → Clp) : Tidy s (v.modClp f) := h.kept ⟨rfl, rfl, rfl, rfl⟩
theorem Tidy.modPtr (f : Ptr → Ptr) : Tidy s (v.modPtr f) := h.kept ⟨rfl, rfl, rfl, rfl⟩
theorem Tidy.modCsh (f : Csh → Csh) : Tidy s (v.modCsh f) := h.kept ⟨rfl, rfl, rfl, rfl⟩
theorem Tidy.modCou (f : Cou → Cou) : Tidy s (v.modCou f) := h.kept ⟨rfl, rfl, rfl, rfl⟩
theorem Tidy.modSvc (f : Svc → Svc) : Tidy s (v.modSvc f) := h.kept ⟨rfl, rfl, rfl, rfl⟩
theorem Tidy.modLock (c : Chan) (f : Lock → Lock) : Tidy s (v.modLock c f) := h.kept (by simp)
theorem Tidy.modChan (c : Chan) (f : Channel → Channel) : Tidy s (v.modChan c f) := h.kept (by simp)

theorem Tidy.guarded {p : Bool} {f : State → State} (hf : Tidy s (f v)) : Tidy s (guarded p f v) := by
  cases p
  · exact h
  · exact hf

/-- What each turn keeps, a loop over the table keeps. -/
theorem Tidy.loop (n : Nat) {f : Nat → State → State} (hf : ∀ i u, Tidy s u → Tidy s (f i u)) : Tidy s (forIndexes n f v) :=
  forIndexes_invariant (Tidy s) n f hf v h

/-- What each turn keeps, a loop over a list keeps. -/
theorem Tidy.foldl {α : Type} {f : State → α → State} (hf : ∀ u x, Tidy s u → Tidy s (f u x)) (l : List α) : Tidy s (l.foldl f v) := by
  induction l generalizing v with
  | nil => exact h
  | cons x l ih => exact ih (hf v x h)

/-! ## Faults and the transmit queue -/

theorem Tidy.setCause (c : BitVec 6) : Tidy s (setCause c v) := h.trans ⟨rfl, rfl, rfl, rfl, id⟩

theorem Tidy.bumpFault (i : FaultInfo) : Tidy s (bumpFault i v) := h.trans ⟨rfl, rfl, rfl, rfl, bumpFault_flt_ok i v⟩

/-- A status change is as tidy as what it does where the queue is full (R18). -/
theorem Tidy.statusEffect {overflow : State → State} (ho : Tidy s (overflow v)) : Tidy s (statusEffect overflow v) := by
  unfold Machine.statusEffect placeStatus
  (repeat' split)
  · exact h
  · exact h
  · exact h.modClp _
  · exact h.modClp _
  · exact ho

theorem Tidy.fault (i : FaultInfo) : Tidy s (recordFault i v) := by
  have hb := h.bumpFault i
  unfold recordFault
  split
  · exact hb.statusEffect (hb.bumpFault _)
  · exact hb

theorem Tidy.status : Tidy s (statusChange v) := h.statusEffect (h.fault _)

theorem Tidy.faults (i : FaultInfo) (n : Nat) : Tidy s (recordTimes i n v) := by
  induction n generalizing v with
  | zero => exact h
  | succ n ih => exact ih (h.fault i)

theorem Tidy.placeFrame (f : LineFrame) (c : Option (BitVec 6 × BitVec 12)) : Tidy s (placeFrame f c v) := by
  unfold Machine.placeFrame
  (repeat' split)
  · exact h
  · exact h.modClp _
  · exact h.fault _

/-! ## Cue entries and Cue Outputs -/

theorem Tidy.modRun (i : Nat) (f : RunPart → RunPart) : Tidy s (modRun i f v) :=
  h.trans ⟨cueNames_modRun i f v, rfl, by simp, by simp, by simp⟩

theorem Tidy.openPunch (c : Chan) (d : CueDef) (q : Option Int) : Tidy s (openPunch c d q v) := by
  unfold Machine.openPunch placePunch
  split
  · exact h
  · exact ((h.modCou _).placeFrame _ _).setCause _

theorem Tidy.closePunch (c : Chan) (d : CueDef) (r : BitVec 2) (q : Option Int) : Tidy s (closePunch c d r q v) := by
  unfold Machine.closePunch placePunch
  split
  · exact h
  · exact ((h.modCou _).placeFrame _ _).setCause _

theorem Tidy.closeCuePunch (d : CueDef) (r : BitVec 2) (q : Option Int) : Tidy s (closeCuePunch d r q v) := by
  unfold Machine.closeCuePunch
  split
  · exact h.closePunch _ d r q
  · exact h

theorem Tidy.releaseLight (mask : BitVec 16) : Tidy s (releaseLight mask v) := by
  unfold Machine.releaseLight
  exact h.modCou _

theorem Tidy.applyPunch (n : BitVec 5) (edge : BitVec 1) (p : PunchArgs) : Tidy s (applyPunch n edge p v) := by
  have hin : Tidy s (tallyIn n p v) := by
    unfold tallyIn
    split
    · exact h
    next i _ =>
      have hnotice : ∀ f, Tidy s (if (v.modCou f).inState i .running then Machine.modRun i (fun r => { r with punched := true }) (v.modCou f)
          else v.modCou f) := fun f => by
        split
        · exact (h.modCou _).modRun _ _
        · exact h.modCou _
      split
      · exact hnotice _
      · exact h
  unfold Machine.applyPunch
  split
  · exact hin
  · exact h.modCou _

theorem Tidy.dropPunch (c : Chan) (i : Nat) : Tidy s (dropPunch c i v) := by
  unfold Machine.dropPunch
  (repeat' split)
  · exact ((h.closePunch _ _ _ _).fault _).modRun _ _
  · exact h
  · exact h

theorem Tidy.syncLost (c : Chan) : Tidy s (syncLost c v) := h.loop _ fun i _ hu => hu.dropPunch c i

theorem Tidy.releaseOutputs : Tidy s (releaseOutputs v) := by
  have hc : Tidy s (v.modCou fun _ => { Cou.reset with released := true }) := h.modCou _
  exact hc.guarded (hc.setCause _)

/-! ## Re-derivation, arming and the end of a run (R105 to R108, R125 to R127) -/

theorem Tidy.rederiveAll (q : Option Int) : Tidy s (rederiveAll q v) := by
  refine h.loop _ fun i u hu => ?_
  unfold rederive
  (repeat' split)
  · exact hu.modRun _ _
  · exact (hu.modRun _ _).modCsh _
  · exact hu
  · exact hu

theorem Tidy.armEntry (q : Option Int) (i : Nat) : Tidy s (armEntry q i v) := by
  unfold Machine.armEntry
  split
  · split
    · exact h.modRun _ _
    · exact h
  · exact h

theorem Tidy.armReel (reel : BitVec 6) : Tidy s (armReel reel v) := by
  refine h.loop _ fun i u hu => ?_
  split
  · exact hu.armEntry _ i
  · exact hu

/-- What a run holds open is released tidily (R122, R125). -/
theorem Tidy.released (e : CueEntry) (r : BitVec 2) (q : Option Int) : Tidy s (runReleased e r q v) := by
  have hp : Tidy s (if e.run.punchOpen then Machine.closeCuePunch e.cue r q v else v) := by
    split
    · exact h.closeCuePunch _ _ _
    · exact h
  unfold runReleased
  dsimp only
  generalize (if e.run.punchOpen then Machine.closeCuePunch e.cue r q v else v) = u at hp
  split
  · exact hp.releaseLight _
  · exact hp

theorem Tidy.endRun (t : RunState) (i : Nat) : Tidy s (endRun t i v) := by
  unfold Machine.endRun
  dsimp only
  split
  · next e _ =>
    split
    · rw [← runReleased]
      exact ((((h.released e reasonAbort v.here).modCou _).modCsh _).setCause _).modRun _ _
    · exact h
  · exact h

theorem Tidy.interruptAll : Tidy s (interruptAll v) := h.loop _ fun i _ hu => hu.endRun .passed i

theorem Tidy.disarmEntry (i : Nat) : Tidy s (disarmEntry i v) := by
  unfold Machine.disarmEntry
  (repeat' split)
  · exact h.endRun _ i
  · exact (h.modRun _ _).modCsh _
  · exact h

theorem Tidy.schedulerReport (r : Report) : Tidy s (schedulerReport r v) := by
  have hi : Tidy s (emptyDue (Machine.interruptAll v)) := h.interruptAll.modCsh _
  unfold Machine.schedulerReport
  split
  · exact h
  · exact hi.rederiveAll _

theorem Tidy.haltScheduler : Tidy s (haltScheduler v) := (h.interruptAll.modCsh _).modCsh _

/-! ## Firing and boundaries (R110 to R122) -/

theorem Tidy.elementAction (q : Option Int) (i : Nat) (e : CueEntry) (el : Element) : Tidy s (elementAction q i e el v) := by
  cases el with
  | spanStart =>
    rw [Machine.elementAction, fireSpanStart]
    split
    · exact h.modRun _ _
    · exact (h.modRun _ _).modCsh _
  | lightOn =>
    rw [Machine.elementAction, fireLightOn, openLight]
    split
    · exact h.modRun _ _
    · exact (h.modRun _ _).modCou _
  | lightOff =>
    rw [Machine.elementAction, fireLightOff]
    split
    · exact (h.modRun _ _).releaseLight _
    · exact h
  | punchIn =>
    rw [Machine.elementAction, firePunchIn]
    split
    · exact h.modRun _ _
    · exact h
    · split
      · exact (h.openPunch _ _ _).modRun _ _
      · exact (h.modRun _ _).fault _
  | punchOut =>
    rw [Machine.elementAction, firePunchOut]
    split
    · exact (h.closeCuePunch _ _ _).modRun _ _
    · exact h
  | spanEnd => exact (((h.released e reasonEnd q).modRun _ _).modCsh _).setCause _
  | beep1 | beep2 | beep3 | beep4 =>
    rw [Machine.elementAction, beep]
    split
    · exact h
    · exact h.modCou _

theorem Tidy.fireElement (q : Option Int) (i : Nat) (el : Element) : Tidy s (fireElement q i el v) := by
  unfold Machine.fireElement
  (repeat' split)
  · exact (h.modRun _ _).elementAction _ _ _ _
  · exact h
  · exact h

theorem Tidy.unlist (i : Nat) (el : Element) : Tidy s (unlist i el v) := h.modCsh _

theorem Tidy.lateTurn (q : Option Int) (d : Due) : Tidy s (lateTurn q d v) := by
  have hu := h.unlist d.entry d.element
  unfold Machine.lateTurn
  dsimp only
  (repeat' split)
  · exact ((hu.fireElement _ _ _).modCsh _).fault _
  · exact hu
  · exact hu

theorem Tidy.listing (b : Int) (t : Time) (n : Nat) : Tidy s (listing b t n v) := by
  refine (h.modCsh _).foldl (fun u d hu => ?_) _
  unfold fireReached
  split
  · exact (hu.unlist _ _).fireElement _ _ _
  · exact hu

theorem Tidy.boundaryList (r : BRec) : Tidy s (boundaryList r v) := by
  unfold Machine.boundaryList
  split
  · exact h.listing _ _ _
  · refine h.loop _ fun i u hu => ?_
    unfold crossEntry
    (repeat' split)
    · exact (hu.modRun _ _).modCsh _
    · exact hu
    · exact hu

theorem Tidy.takeBoundary (r : BRec) : Tidy s (takeBoundary r v) := by
  have hlate : Tidy s (lateFiring r.b v) := h.foldl (fun _ d hu => hu.lateTurn _ d) _
  unfold Machine.takeBoundary
  (repeat' split)
  · exact h
  · refine (hlate.boundaryList r).loop _ fun i u hu => ?_
    unfold goBack
    (repeat' split)
    · exact hu.modRun _ _
    · exact hu
    · exact hu
  · exact h.rederiveAll _

theorem Tidy.takeHold : Tidy s (takeHold v) := by
  unfold Machine.takeHold
  split
  · exact h
  · exact h.rederiveAll _

/-! ## The mode (R109) -/

theorem Tidy.setMode (m : Mode) : Tidy s (setMode m v) := by
  have hm : Tidy s (statusChange (v.modCsh fun c => { c with mode := m })) := (h.modCsh _).status
  unfold Machine.setMode
  dsimp only
  (repeat' split)
  · exact h
  · refine hm.loop _ fun i u hu => ?_
    unfold abortPunch
    (repeat' split)
    · exact (hu.closeCuePunch _ _ _).modRun _ _
    · exact hu
    · exact hu
  · exact hm

end

end Sys2Proof.Machine
end

section
/-! SUPPORT. The Record Lock, the Position Tracker, the tach channels, the Cue Line Port and the clamps of START are tidy. -/

namespace Sys2Proof.Machine
open Sys2Proof

section
variable {s v : State} (h : Tidy s v)
include h

/-! ## The Record Lock -/

theorem Tidy.setLock (c : Chan) (l : LockState) : Tidy s (setLock c l v) := by
  have hl : Tidy s (statusChange (Machine.setCause causeLock (v.modLock c fun x => { x with state := l, good := 0, bad := 0 }))) :=
    ((h.modLock _ _).setCause _).status
  exact hl.guarded (hl.syncLost c)

theorem Tidy.unlock (c : Chan) : Tidy s (unlock c v) := by
  unfold Machine.unlock
  split
  · exact h
  · exact h.setLock c _

theorem Tidy.countChasing (c : Chan) (good : Bool) : Tidy s (countChasing c good v) := by
  unfold Machine.countChasing
  (repeat' split)
  · exact h.setLock c _
  · exact h.modLock _ _
  · exact h.modLock _ _

theorem Tidy.countSync (c : Chan) (good : Bool) : Tidy s (countSync c good v) := by
  unfold Machine.countSync
  (repeat' split)
  · exact h.modLock _ _
  · exact h.setLock c _
  · exact h.modLock _ _

theorem Tidy.measure (c : Chan) (b p : Int) : Tidy s (measure c b p v) := by
  have he : Tidy s (v.modLock c fun l => { l with err := syncError b p }) := h.modLock _ _
  unfold Machine.measure
  dsimp only
  split
  · exact (he.setLock c _).countChasing c _
  · exact he.countChasing c _
  · exact he.countSync c _

theorem Tidy.lockBoundary (c : Chan) (r : BRec) : Tidy s (lockBoundary c r v) := by
  unfold Machine.lockBoundary
  (repeat' split)
  · exact h
  · exact h.unlock c
  · exact h.unlock c
  · exact h.measure c _ _
  · exact h

theorem Tidy.lockMotion (c : Chan) : Tidy s (lockMotion c v) := by
  unfold Machine.lockMotion
  (repeat' split)
  · exact h.unlock c
  · exact h.unlock c
  · exact h

theorem Tidy.lockReport (r : Report) (c : Chan) : Tidy s (lockReport r c v) := by
  have hleap : Tidy s (match (v.lock c).state with
      | .unlocked => v
      | .chasing => v.modLock c fun l => { l with good := 0, bad := 0 }
      | .sync => Machine.setLock c .chasing v) := by
    split
    · exact h
    · exact h.modLock _ _
    · exact h.setLock c _
  unfold Machine.lockReport
  split
  · cases r with
    | jump | wrap => exact hleap
    | stop | fast | loss => exact h.unlock c
    | reversal | playable => exact h
  · exact h

/-! ## The Position Tracker -/

theorem Tidy.deliverReport (r : Report) : Tidy s (deliverReport r v) :=
  (((h.schedulerReport r).modCou _).lockReport r .a).lockReport r .b

theorem Tidy.trackerEvent (ev : TrackerEvent) : Tidy s (trackerEvent ev v) :=
  trackerEvent_invariant (Tidy s) ev v (h.modPtr _) (fun _ hu => hu.status) (fun _ i _ hu => hu.fault i)
    (fun _ r hu => hu.deliverReport r) (fun _ r _ hu => hu.takeBoundary r) fun _ hu => hu.takeHold

theorem Tidy.placeBeacon (b : Beacon) (t : Time) : Tidy s (placeBeacon b t v) := by
  unfold Machine.placeBeacon
  split
  · exact h.modClp _
  · exact h

theorem Tidy.sendHold (x : Int) : Tidy s (sendHold x v) := (h.placeBeacon _ _).modPtr _

theorem Tidy.pictureMotion (c : Chan) : Tidy s (pictureMotion c v) := by
  rw [pictureMotion_eq]
  refine Tidy.trackerEvent ?_ _
  unfold motionBeacon
  split
  · exact h.sendHold _
  · exact h.modPtr _

theorem Tidy.pictureRecord (c : Chan) (r : BRec) : Tidy s (pictureRecord c r v) := by
  rw [pictureRecord_eq]
  refine Tidy.trackerEvent ?_ _
  unfold recordBeaconed recordBeacon
  dsimp only
  (repeat' split)
  · exact h
  · exact (h.placeBeacon _ _).modPtr _
  · exact h
  · exact (h.placeBeacon _ _).modPtr _
  · exact (h.placeBeacon _ _).modPtr _

theorem Tidy.holdTimerExpiry (c : Chan) : Tidy s (holdTimerExpiry c v) := (h.sendHold _).trackerEvent _

theorem Tidy.trackerActive : Tidy s (trackerActive v) := by
  unfold Machine.trackerActive
  split
  · split
    · exact h.sendHold _
    · exact h
  · exact h

theorem Tidy.startTracker : Tidy s (startTracker v) := by
  unfold Machine.startTracker
  split
  · exact h
  · exact h.trackerEvent _

theorem Tidy.applyBeacon (n : BitVec 5) (p : Beacon) (t : Time) : Tidy s (applyBeacon n p t v) := by
  unfold Machine.applyBeacon beaconNew
  dsimp only
  (repeat' split)
  · exact h.trackerEvent _
  · exact h.trackerEvent _
  · exact h.trackerEvent _
  · exact h
  · exact h

theorem Tidy.ageSource (n : Nat) : Tidy s (ageSource n v) := h.trackerEvent _

end

/-! ## The tach channels -/

/-- Every delivery of a channel is tidy. -/
theorem tidy_channel (s : State) : ChannelInvariant False (Tidy s) where
  chan c ch h := h.kept (by simp)
  pins f h := h.kept (by simp)
  fault i h := h.fault i
  motion c h := by
    unfold deliverMotion
    split
    · exact h
    · exact h.pictureMotion c
    · exact h.lockMotion c
  record c r h _ _ := by
    unfold deliverRecord
    split
    · exact h
    · exact h.pictureRecord c r
    · exact h.lockBoundary c r

section
variable {s v : State} (h : Tidy s v)
include h

theorem Tidy.sampleChannel (c : Chan) : Tidy s (sampleChannel c v) := by
  rw [sampleChannel_eq]
  exact (tidy_channel s).chan c _ h

/-! ## The Cue Line Port -/

theorem Tidy.huntFault (k : FaultKind) (n : Option (BitVec 5)) (count : Nat) : Tidy s (huntFault k n count v) := by
  have hr : Tidy s (setReceiver .hunt (min 11 count) v) := h.modClp _
  exact hr.guarded (hr.fault _)

theorem Tidy.enterDuplicate : Tidy s (enterDuplicate v) := ((h.modClp _).fault _).haltScheduler.releaseOutputs

theorem Tidy.ownNumberHeard : Tidy s (ownNumberHeard v) := by
  have hr : Tidy s (setReceiver .ready 0 v) := h.modClp _
  unfold Machine.ownNumberHeard
  split
  · exact h
  · exact hr.guarded hr.enterDuplicate

theorem Tidy.checkFailed (f : FailedFrame) : Tidy s (checkFailed f v) := by
  unfold Machine.checkFailed
  (repeat' split)
  · exact h
  · exact h.huntFault _ _ _
  · exact h.huntFault _ _ _
  · exact h.modClp _

theorem Tidy.dominantBit : Tidy s (dominantBit v) := by
  unfold Machine.dominantBit
  (repeat' split)
  · exact h.modClp _
  · exact h.huntFault _ _ _
  · exact h.modClp _
  · exact h

theorem Tidy.startFrame : Tidy s (startFrame v) := by
  refine h.guarded ?_
  split
  · exact (h.modClp _).modClp _
  · exact h.modClp _

theorem Tidy.bitError : Tidy s (bitError v) := by
  unfold Machine.bitError
  split
  · exact (h.modClp _).fault _
  · exact h

theorem Tidy.peerStatus (n : BitVec 5) (p : Status) (t : Time) : Tidy s (peerStatus n p t v) := by
  unfold Machine.peerStatus
  split
  · exact h.modClp _
  · exact h

theorem Tidy.joinExpiry : Tidy s (joinExpiry v) := h.guarded (h.modClp _).status.trackerActive

theorem Tidy.spacingExpiry : Tidy s (spacingExpiry v) := by
  have hp : ∀ u, Tidy s u → Tidy s (placeStatus statusOverflow u) := fun u hu => by
    unfold placeStatus
    split
    · exact hu.modClp _
    · exact hu.fault _
  exact h.guarded ((h.modClp _).guarded (hp _ (h.modClp _)))

/-! ## The clamps of START (R188) -/

theorem Tidy.modSettings (f : Settings → Settings) : Tidy s (v.modSettings f) := h.kept ⟨rfl, rfl, rfl, rfl⟩

theorem Tidy.clampSetting (get : Settings → Nat) (set : Nat → Settings → Settings) (work : Nat → Nat) :
    Tidy s (clampSetting get set work v) := (h.modSettings _).guarded ((h.modSettings _).fault _)

theorem Tidy.clampOverlay : Tidy s (clampOverlay v) := by
  have hw : Tidy s (Machine.guarded (decide (clamp 1 16 v.settings.streamerWidth ≠ v.settings.streamerWidth)) recordClamp
      (v.modSettings fun g => { g with streamerWidth := clamp 1 16 v.settings.streamerWidth })) :=
    (h.modSettings _).guarded ((h.modSettings _).fault _)
  unfold Machine.clampOverlay
  dsimp only
  split
  · exact (hw.modSettings _).faults _ _
  · exact hw

theorem Tidy.clampAll : Tidy s (clampAll v) := by
  have hroles : Tidy s (clampRoles v) := by
    unfold clampRoles
    exact h.guarded ((h.modSettings _).fault _)
  exact (((hroles.clampSetting _ _ _).clampSetting _ _ _).clampSetting _ _ _).clampOverlay

/-- The part that the tracker's START finds. -/
theorem Tidy.atTracker : Tidy s v.atTracker := (((h.clampAll.modSvc _).modClp _).sampleChannel .a).sampleChannel .b

end

end Sys2Proof.Machine
end

section
/-! SUPPORT. The cue table: the names of its entries over a commit and a drop, and the staging set over a header. -/

namespace Sys2Proof.Machine
open Sys2Proof

/-! ## Names of entries, each once (R78) -/

/-- The table has its size, and no two of its places have one name. -/
def NamesOk (l : List (Option (BitVec 6 × BitVec 12))) : Prop :=
  l.length = Config.cueCount ∧ ∀ (i j : Nat) n, l[i]? = some (some n) → l[j]? = some (some n) → i = j

theorem nodup_filterMap_iff {α : Type} (l : List (Option α)) :
    (l.filterMap id).Nodup ↔ ∀ (i j : Nat) n, l[i]? = some (some n) → l[j]? = some (some n) → i = j := by
  rw [List.Nodup, List.pairwise_filterMap, List.pairwise_iff_getElem]
  constructor
  · intro h i j n hi hj
    obtain ⟨hi', hin⟩ := List.getElem?_eq_some_iff.1 hi
    obtain ⟨hj', hjn⟩ := List.getElem?_eq_some_iff.1 hj
    rcases Nat.lt_trichotomy i j with hlt | heq | hgt
    · exact absurd rfl (h i j hi' hj' hlt n hin n hjn)
    · exact heq
    · exact absurd rfl (h j i hj' hi' hgt n hjn n hin)
  · rintro h i j hi hj hlt n hin _ hjn rfl
    exact absurd (h i j n (List.getElem?_eq_some_iff.2 ⟨hi, hin⟩) (List.getElem?_eq_some_iff.2 ⟨hj, hjn⟩)) (Nat.ne_of_lt hlt)

/-- A place is emptied. -/
theorem NamesOk.set_none {l : List (Option (BitVec 6 × BitVec 12))} (h : NamesOk l) (i : Nat) : NamesOk (l.set i none) := by
  have hold : ∀ (k : Nat) n, (l.set i none)[k]? = some (some n) → l[k]? = some (some n) := fun k n hk => by
    rw [List.getElem?_set] at hk
    split at hk
    · split at hk <;> simp at hk
    · exact hk
  exact ⟨by rw [List.length_set, h.1], fun j k n hj hk => h.2 j k n (hold j n hj) (hold k n hk)⟩

/-- A place takes a name that no place has. -/
theorem NamesOk.set_new {l : List (Option (BitVec 6 × BitVec 12))} (h : NamesOk l) (i : Nat) {n : BitVec 6 × BitVec 12}
    (hn : some n ∉ l) : NamesOk (l.set i (some n)) := by
  have hold : ∀ (k : Nat) m, (l.set i (some n))[k]? = some (some m) → k = i ∧ m = n ∨ m ≠ n ∧ l[k]? = some (some m) := fun k m hk => by
    rw [List.getElem?_set] at hk
    split at hk
    · next heq =>
      split at hk
      · exact .inl ⟨heq.symm, by simpa using hk.symm⟩
      · cases hk
    · exact .inr ⟨by rintro rfl; exact hn (List.mem_of_getElem? hk), hk⟩
  refine ⟨by rw [List.length_set, h.1], fun j k m hj hk => ?_⟩
  rcases hold j m hj with ⟨rfl, hm⟩ | ⟨hm, hj'⟩ <;> rcases hold k m hk with ⟨rfl, hm'⟩ | ⟨hm', hk'⟩
  · rfl
  · exact absurd hm hm'
  · exact absurd hm' hm
  · exact h.2 j k m hj' hk'

/-! ## Finding a cue (R78) -/

section
variable {s : State} {r : BitVec 6} {n : BitVec 12}

theorem findCue_name {i : Nat} (h : s.findCue r n = some i) : i < Config.cueCount ∧ ∃ e, s.entry i = some e ∧ e.cue.name = (r, n) := by
  have hp := List.find?_some h
  refine ⟨List.mem_range.1 (List.mem_of_find?_eq_some h), ?_⟩
  obtain ⟨e, he⟩ := findCue_entry h
  refine ⟨e, he, ?_⟩
  simpa [he, CueDef.name] using hp

/-- No place has the name that no cue is found by. -/
theorem findCue_none (hsize : s.ctb.entries.length = Config.cueCount) (h : s.findCue r n = none) : some (r, n) ∉ s.cueNames := by
  intro hm
  obtain ⟨o, ho, hname⟩ := List.mem_map.1 hm
  cases o with
  | none => cases hname
  | some e =>
    obtain ⟨j, hj⟩ := mem_entry ho
    have hnot := List.find?_eq_none.1 h j (List.mem_range.2 (hsize ▸ lt_of_entry hj))
    exact hnot (by simpa [hj, CueDef.name] using hname)

end

/-! ## The staging set (R82) -/

/-- One header a sender, at most four, each with a cue id. -/
def StagingOk (l : List Staged) : Prop :=
  (l.map fun x => x.sender).Nodup ∧ l.length ≤ Config.stageSize ∧ ∀ x ∈ l, x.head.id ≠ 0

theorem StagingOk.sublist {l l' : List Staged} (h : StagingOk l) (hs : l'.Sublist l) : StagingOk l' := by
  obtain ⟨hn, hlen, hid⟩ := h
  exact ⟨hn.sublist (hs.map _), hs.length_le.trans hlen, fun x hx => hid x (hs.subset hx)⟩

theorem stagedOf_none {s : State} {n : Nat} (h : s.stagedOf n = none) : ∀ x ∈ s.ctb.staging, x.sender ≠ n := fun x hx => by
  simpa using List.find?_eq_none.1 h x hx

/-- A header leaves the set, or takes the newest place behind headers of other senders, of which a set that held four has lost one. -/
theorem stageHead_staging (n : BitVec 5) (h : CueHead) (s : State) :
    h.id = 0 ∧ (stageHead n h s).ctb.staging = s.ctb.staging ∨
    h.id ≠ 0 ∧ ∃ l, (stageHead n h s).ctb.staging = l ++ [{ sender := n.toNat, head := h }] ∧ l.Sublist s.ctb.staging ∧
      (∀ x ∈ l, x.sender ≠ n.toNat) ∧ (s.ctb.staging.length ≤ Config.stageSize → l.length < Config.stageSize) := by
  unfold stageHead
  dsimp only
  split
  · next hid => exact .inl ⟨hid, by simp⟩
  next hid =>
  refine .inr ⟨hid, ?_⟩
  split
  · next hsome =>
    obtain ⟨x, hx⟩ := Option.isSome_iff_exists.1 hsome
    refine ⟨_, rfl, List.filter_sublist, fun y hy => by simpa using (List.mem_filter.1 hy).2, fun hlen => Nat.lt_of_lt_of_le ?_ hlen⟩
    exact List.length_filter_lt_length_iff_exists.2 ⟨x, List.mem_of_find?_eq_some hx, by simpa using List.find?_some hx⟩
  next hnone =>
  have hother := stagedOf_none (by simpa using hnone)
  split
  · next hlt => exact ⟨_, rfl, .refl _, hother, fun _ => hlt⟩
  next hfull =>
  split
  · next hnil => exact absurd (by simp [hnil, Config.stageSize]) hfull
  next old rest hold =>
    rw [hold] at hother ⊢
    exact ⟨rest, by simp [setStaging], List.sublist_cons_self _ _, fun x hx => hother x (List.mem_cons_of_mem _ hx), fun hlen => hlen⟩

/-- A header keeps one header a sender and at most four. -/
theorem stageHead_oneEach (n : BitVec 5) (h : CueHead) (s : State) (hn : (s.ctb.staging.map fun x => x.sender).Nodup)
    (hlen : s.ctb.staging.length ≤ Config.stageSize) :
    ((stageHead n h s).ctb.staging.map fun x => x.sender).Nodup ∧ (stageHead n h s).ctb.staging.length ≤ Config.stageSize := by
  rcases stageHead_staging n h s with ⟨-, heq⟩ | ⟨-, l, heq, hsub, hother, hlt⟩
  · rw [heq]
    exact ⟨hn, hlen⟩
  · rw [heq]
    refine ⟨?_, by simpa using hlt hlen⟩
    rw [List.map_append, List.nodup_append]
    refine ⟨hn.sublist (hsub.map _), List.nodup_singleton _, fun a ha b hb => ?_⟩
    obtain ⟨x, hx, rfl⟩ := List.mem_map.1 ha
    rw [List.map_singleton, List.mem_singleton] at hb
    rw [hb]
    exact hother x hx

theorem stageHead_stagingOk (n : BitVec 5) (h : CueHead) (s : State) (hs : StagingOk s.ctb.staging) :
    StagingOk (stageHead n h s).ctb.staging := by
  obtain ⟨hn, hlen, hids⟩ := hs
  obtain ⟨hn', hlen'⟩ := stageHead_oneEach n h s hn hlen
  refine ⟨hn', hlen', ?_⟩
  rcases stageHead_staging n h s with ⟨-, heq⟩ | ⟨hid, l, heq, hsub, -⟩
  · rwa [heq]
  · rw [heq]
    intro x hx
    rcases List.mem_append.1 hx with hx | hx
    · exact hids x (hsub.subset hx)
    · rw [List.mem_singleton.1 hx]
      exact hid

end Sys2Proof.Machine
end

section
/-! SUPPORT. Sound operations: each of the four invariants that holds before holds after. Shown for the cue table, the overlay and the
key. -/

namespace Sys2Proof.Machine
open Sys2Proof

/-! ## The four invariants -/

theorem cuesOk_iff (s : State) : s.cuesOk = true ↔ NamesOk s.cueNames ∧ StagingOk s.ctb.staging := by
  have hnames : ((s.ctb.entries.filterMap id).map fun e => e.cue.name) = s.cueNames.filterMap id := by
    rw [State.cueNames, List.filterMap_map, List.map_filterMap]
    rfl
  have hlen : s.cueNames.length = s.ctb.entries.length := List.length_map _
  simp only [State.cuesOk, hnames, Bool.and_eq_true, decide_eq_true_eq, List.all_eq_true, nodup_filterMap_iff, NamesOk, StagingOk, hlen,
    and_assoc]

/-- An operation keeps each of the four invariants. -/
structure Sound (s u : State) : Prop where
  cues : s.cuesOk = true → u.cuesOk = true
  ovl : s.ovl.ok = true → u.ovl.ok = true
  mkl : s.mkl.ok = true → u.mkl.ok = true
  flt : s.flt.ok = true → u.flt.ok = true

theorem Sound.refl (s : State) : Sound s s := ⟨id, id, id, id⟩

theorem Sound.trans {s v u : State} (h : Sound s v) (k : Sound v u) : Sound s u :=
  ⟨fun hs => k.cues (h.cues hs), fun hs => k.ovl (h.ovl hs), fun hs => k.mkl (h.mkl hs), fun hs => k.flt (h.flt hs)⟩

theorem Tidy.sound {s u : State} (h : Tidy s u) : Sound s u where
  cues hs := by rwa [cuesOk_iff, h.names, h.staging, ← cuesOk_iff]
  ovl hs := by rwa [h.ovl]
  mkl hs := by rwa [h.mkl]
  flt := h.flt

section
variable {s v w : State} (h : Sound s v)
include h

/-- A tidy operation after a sound one. -/
theorem Sound.tidy (k : Tidy v w) : Sound s w := h.trans k.sound

theorem Sound.guarded {p : Bool} {f : State → State} (hf : Sound s (f v)) : Sound s (guarded p f v) := by
  cases p
  · exact h
  · exact hf

/-! ## The cue table (R82 to R97) -/

theorem Sound.setStaging (l : List Staged) (hl : StagingOk v.ctb.staging → StagingOk l) : Sound s (setStaging l v) := by
  refine h.trans ⟨fun hv => ?_, id, id, id⟩
  obtain ⟨hnames, hstaging⟩ := (cuesOk_iff v).1 hv
  exact (cuesOk_iff _).2 ⟨hnames, hl hstaging⟩

/-- An entry is set so that no name comes twice. -/
theorem Sound.setEntry (i : Nat) (o : Option CueEntry)
    (ho : NamesOk v.cueNames → NamesOk (v.cueNames.set i (o.map fun e => e.cue.name))) : Sound s (setEntry i o v) := by
  refine h.trans ⟨fun hv => ?_, by simp, by simp, by simp⟩
  obtain ⟨hnames, hstaging⟩ := (cuesOk_iff v).1 hv
  exact (cuesOk_iff _).2 ⟨cueNames_setEntry i o v ▸ ho hnames, hstaging⟩

theorem Sound.stageHead (n : BitVec 5) (p : CueHead) : Sound s (stageHead n p v) := by
  have hfault : ∀ i u, u.flt = v.flt → v.flt.ok = true → (recordFault i u).flt.ok = true := fun i u hu hv =>
    ((Tidy.refl u).fault i).flt (by rwa [hu])
  have hflt : v.flt.ok = true → (Machine.stageHead n p v).flt.ok = true := by
    unfold Machine.stageHead
    dsimp only
    (repeat' split)
    · exact hfault _ _ rfl
    · exact id
    · exact id
    · exact id
    · exact hfault _ _ rfl
  refine h.trans ⟨fun hv => ?_, by simp, by simp, hflt⟩
  obtain ⟨hnames, hstaging⟩ := (cuesOk_iff v).1 hv
  refine (cuesOk_iff _).2 ⟨?_, stageHead_stagingOk n p v hstaging⟩
  obtain ⟨-, -, -, -, -, -, -, -, hentries, -⟩ := stageHead_sameCore n p v
  rwa [State.cueNames, hentries]

theorem Sound.emptyEntry (i : Nat) : Sound s (emptyEntry i v) :=
  (h.tidy ((Tidy.refl v).modCsh _)).setEntry i none fun hn => hn.set_none i

/-- An update in place keeps the entry's name (R90). -/
theorem Sound.updateEntry {i : Nat} {e : CueEntry} (he : v.entry i = some e) (d : CueDef) (hd : d.name = e.cue.name) :
    Sound s (updateEntry i d v) := by
  have hset : Tidy v (unlistEntry i (Machine.setEntry i ((v.entry i).map fun e => { e with cue := d }) v)) :=
    Tidy.modCsh ⟨cueNames_setEntry_same i _ v (by simp [he, hd]), rfl, by simp, by simp, by simp⟩ _
  refine h.tidy ?_
  unfold Machine.updateEntry
  dsimp only
  (repeat' split)
  · exact hset.modRun _ _
  · exact hset.modRun _ _
  · exact hset

/-- A new cue enters a place under a name that no place has (R91, R92). -/
theorem Sound.placeCue (d : CueDef) (n : BitVec 5) (hd : NamesOk v.cueNames → some d.name ∉ v.cueNames) : Sound s (placeCue d n v) := by
  have henter : ∀ i, Sound s (enterCue i d v) := fun i => h.setEntry i _ fun hn => hn.set_new i (hd hn)
  unfold Machine.placeCue
  (repeat' split)
  · exact henter _
  · exact (henter _).tidy ⟨rfl, rfl, rfl, rfl, id⟩
  · exact h.tidy ((Tidy.refl v).fault _)

theorem Sound.commit (p : CueHead) (b : CueBody) (n : BitVec 5) : Sound s (commit p b n v) := by
  have hbusy := (Tidy.refl v).fault { kind := .cueBusy, cue := some (p.reel, p.id), sender := some n }
  have hfixed := (Tidy.refl v).faults { kind := .cueField, cue := some (p.reel, p.id), sender := some n } (corrections p b)
  unfold Machine.commit
  dsimp only
  split
  · split
    · exact h.tidy hbusy
    · split
      · next i hfound =>
        obtain ⟨-, e, he, hname⟩ := findCue_name hfound
        exact (h.tidy hfixed).updateEntry ((entry_congr (recordTimes_ctb _ _) i).trans he) _ hname.symm
      · next hfound =>
        refine (h.tidy hfixed).placeCue _ n fun hn => ?_
        rw [hfixed.names] at hn ⊢
        exact findCue_none (by simpa [State.cueNames] using hn.1) hfound
  · split
    · exact h.tidy hbusy
    · split
      · exact h.emptyEntry _
      · exact h

theorem Sound.takeBody (n : BitVec 5) (b : CueBody) : Sound s (takeBody n b v) := by
  unfold Machine.takeBody
  (repeat' split)
  · exact (h.setStaging _ fun hl => hl.sublist List.filter_sublist).commit _ b n
  · exact h.tidy ((Tidy.refl v).fault _)
  · exact h.tidy ((Tidy.refl v).fault _)

theorem Sound.dropped (p : CueDef → Bool) (q : CueHead → Bool) : Sound s (unstageWhere q (dropWhere p v)) := by
  have hdrop : Sound s (dropWhere p v) := by
    refine forIndexes_invariant (Sound s) _ _ (fun i u hu => ?_) v h
    split
    · exact (hu.tidy ((Tidy.refl u).endRun .passed i)).emptyEntry i
    · exact hu
  exact hdrop.setStaging _ fun hl => hl.sublist List.filter_sublist

/-- An order of CONTROL: the drops change the table, the others are tidy (12 Table 12-4). -/
theorem Sound.orderOf (n : BitVec 5) (op : BitVec 4) (p : ControlArgs) : Sound s (orderOf n op p v) := by
  have hv := Tidy.refl v
  have hfault := h.tidy (hv.fault { kind := .controlUnknown, sender := some n })
  unfold Machine.orderOf
  split
  · unfold armCue
    split
    · exact h.tidy (hv.armEntry _ _)
    · exact h
  · exact h.tidy (hv.armReel _)
  · unfold disarmCue
    split
    · exact h.tidy (hv.disarmEntry _)
    · exact h
  · exact h.tidy (hv.loop _ fun i _ hu => hu.disarmEntry i)
  · exact h.dropped _ _
  · exact h.dropped _ _
  · exact h.dropped _ _
  · unfold modeOrder
    split
    · exact h.tidy (hv.setMode _)
    · exact hfault
  · exact h.tidy ((tidy_channel v).wrapOrder _ _ hv)
  · exact h.tidy (hv.setCause _)
  · exact hfault

theorem Sound.applyControl (n : BitVec 5) (op : BitVec 4) (p : ControlArgs) : Sound s (applyControl n op p v) :=
  h.guarded (h.orderOf n op p)

/-! ## The key (R165 to R173) -/

theorem Sound.modMkl (f : Mkl → Mkl) (hf : v.mkl.ok = true → (f v.mkl).ok = true) : Sound s (v.modMkl f) :=
  h.trans ⟨id, id, hf, id⟩

theorem Sound.joinLog (r : MarkRec) : Sound s (joinLog r v) := by
  unfold Machine.joinLog
  dsimp only
  refine Sound.modMkl ?_ _ id
  (repeat' split)
  · exact h
  · exact h
  · exact (h.modMkl _ id).tidy ((Tidy.refl _).fault _)

/-- The key takes a state with its timer and its latch (R165). -/
theorem Sound.setKey (k : KeyState) (t : Option Time) (l : Option Latch)
    (hk : v.mkl.ok = true → l.isSome = decide (k = .pressing) ∧ t.isSome = (decide (k = .pressing) || decide (k = .releasing))) :
    Sound s (setKey k t l v) := by
  refine h.modMkl _ fun hv => ?_
  obtain ⟨hl, ht⟩ := hk hv
  simp [Mkl.ok, hl, ht]

end

theorem Mkl.ok_latch {m : Mkl} (h : m.ok = true) (hk : m.key ≠ .pressing) : m.latch = none := by
  obtain ⟨hl, -⟩ : m.latch.isSome = decide (m.key = .pressing) ∧ _ := by simpa [Mkl.ok] using h
  simpa [hk] using hl

section
variable {s v : State} (h : Sound s v)
include h

theorem Sound.marknChange (level : Bool) : Sound s (marknChange level v) := by
  have hpins : Sound s (v.modPins fun p => { p with markn := level }) := h.tidy ((tidy_channel v).pins _ (.refl v))
  unfold Machine.marknChange
  split
  · exact h
  · cases level with
    | true =>
      simp only [if_true]
      unfold keyRise
      split
      · exact hpins.setKey _ _ _ fun _ => ⟨rfl, rfl⟩
      · next hk => exact hpins.setKey _ _ _ fun hv => ⟨by rw [Mkl.ok_latch hv (by rw [hk]; decide)]; rfl, rfl⟩
      all_goals exact hpins
    | false =>
      simp only [Bool.false_eq_true, if_false]
      unfold keyFall
      split
      · exact hpins.setKey _ _ _ fun _ => ⟨rfl, rfl⟩
      · next hk => exact hpins.setKey _ _ _ fun hv => ⟨by rw [Mkl.ok_latch hv (by rw [hk]; decide)]; rfl, rfl⟩
      all_goals exact hpins

theorem Sound.keyExpiry : Sound s (keyExpiry v) := by
  unfold Machine.keyExpiry
  split
  · next l _ _ =>
    have hheld : Sound s (Machine.setKey .held none none v) := h.setKey _ _ _ fun _ => ⟨rfl, rfl⟩
    have hlogged := (hheld.joinLog
      { serial := (Machine.setKey .held none none v).mkl.serial, station := (Machine.setKey .held none none v).own.toNat, latch := l })
    exact (hlogged.modMkl _ id).tidy (((Tidy.refl _).placeFrame _ _).setCause _)
  · next hk => exact h.setKey _ _ _ fun hv => ⟨by rw [Mkl.ok_latch hv (by rw [hk]; decide)]; rfl, rfl⟩
  · exact h

theorem Sound.startKey : Sound s (startKey v) := h.setKey _ _ _ fun _ => by cases v.pins.markn <;> exact ⟨rfl, rfl⟩

theorem Sound.peerMark (n : BitVec 5) (p : Mark) : Sound s (peerMark n p v) := by
  unfold Machine.peerMark
  (repeat' split)
  · exact (h.joinLog _).tidy ((Tidy.refl _).setCause _)
  · exact h
  · exact h

end

end Sys2Proof.Machine
end

section
/-! SUPPORT. The overlay over a field, a swap, a lost signal and START. -/

namespace Sys2Proof.Machine
open Sys2Proof

/-! ## The overlay's blocks (R146 to R154) -/

/-- Lists stand only with a frozen geometry (R154). -/
def Ovl.listsOk (o : Ovl) : Bool := o.frozen.isSome || (decide (o.front = .empty) && decide (o.back = .empty))

theorem Ovl.listsOk_of_ok {o : Ovl} (h : o.ok = true) : o.listsOk = true := by
  rw [Ovl.ok, Bool.and_eq_true] at h
  exact h.2

/-- A geometry may be frozen in any raster state. -/
theorem Ovl.ok_freeze {o : Ovl} (h : o.ok = true) (g : Geometry) : ({ o with frozen := some g } : Ovl).ok = true := by
  cases hr : o.raster <;> simp_all [Ovl.ok]

/-- The test of a settled measurement leaves STABLE or MISMATCH (R148). -/
theorem testSettled_ovl (m : Settled) (g : Geometry) (s : State) (hw : s.ovl.watch.isSome = true) (hs : s.ovl.settled.isSome = true)
    (hf : s.ovl.frozen.isSome = true) : (testSettled m g s).ovl.ok = true ∧ (testSettled m g s).ovl.raster ≠ .noSignal := by
  unfold testSettled
  split <;> simp [Ovl.ok, hw, hs, hf]

theorem testSettled_flt (m : Settled) (g : Geometry) (s : State) (h : s.flt.ok = true) : (testSettled m g s).flt.ok = true := by
  unfold testSettled
  split
  · exact h
  · exact ((Tidy.refl _).fault _).flt h

/-- A settled measurement leaves the raster STABLE, or in MISMATCH with the frozen geometry it disagrees with (R148). -/
theorem settle_ovl (m : Settled) (s : State) (hw : s.ovl.watch.isSome = true) (hl : s.ovl.listsOk = true) :
    (settle m s).ovl.ok = true ∧ (settle m s).ovl.raster ≠ .noSignal := by
  unfold Ovl.listsOk at hl
  unfold settle
  dsimp only
  split
  · next g hg => exact testSettled_ovl m g _ hw rfl (by rw [hg]; rfl)
  · next hnone =>
    replace hnone : s.ovl.frozen = none := hnone
    simp [Ovl.ok, hw, hnone] at hl ⊢
    exact .inr hl

theorem settle_flt (m : Settled) (s : State) (h : s.flt.ok = true) : (settle m s).flt.ok = true := by
  unfold settle
  dsimp only
  split
  · exact testSettled_flt _ _ _ h
  · exact h

/-- A field makes the match run one longer, or begins it again (R147). -/
theorem after_count_le (r : MatchRun) (m : FieldMeas) : (r.after m).count ≤ r.count + 1 := by
  unfold MatchRun.after
  (repeat' split) <;> simp

/-- A field in ACQUIRING, whose match run has not reached four (R147, R148). -/
theorem acquire_ovl (m : FieldMeas) (s : State) (hw : s.ovl.watch.isSome = true) (hl : s.ovl.listsOk = true) (hs : s.ovl.settled = none)
    (hr : s.ovl.run.count < 4) : (acquire m s).ovl.ok = true ∧ (acquire m s).ovl.raster ≠ .noSignal := by
  unfold acquire
  dsimp only
  split
  · exact settle_ovl _ _ hw hl
  · next hn =>
    have hlt : (s.ovl.run.after m).count < 4 := by
      have hle := after_count_le s.ovl.run m
      omega
    unfold Ovl.listsOk at hl
    simpa [Ovl.ok, hw, hs, hlt] using hl

theorem acquire_flt (m : FieldMeas) (s : State) (h : s.flt.ok = true) : (acquire m s).flt.ok = true := by
  unfold acquire
  dsimp only
  split
  · exact settle_flt _ _ h
  · exact h

/-- What the overlay has in each raster state (R146, R148). -/
theorem Ovl.ok_cases {o : Ovl} (h : o.ok = true) : match o.raster with
    | .noSignal => o.settled = none ∧ o.front = .empty ∧ o.back = .empty
    | .acquiring => o.settled = none ∧ o.run.count < 4
    | .stable | .mismatch => o.watch.isSome = true ∧ o.settled.isSome = true := by
  rw [Ovl.ok, Bool.and_eq_true] at h
  obtain ⟨h, -⟩ := h
  split <;> rename_i hr <;> simp only [hr] at h <;> simp_all

theorem endField_ovl (m : FieldMeas) (s : State) (h : s.ovl.ok = true) :
    (endField m s).ovl.ok = true ∧ (endField m s).ovl.raster ≠ .noSignal := by
  have hl := Ovl.listsOk_of_ok h
  have hc := Ovl.ok_cases h
  unfold endField
  dsimp only
  split
  · next hr =>
    replace hr : s.ovl.raster = .noSignal := hr
    rw [hr] at hc
    obtain ⟨hset, hfront, hback⟩ := hc
    simp [Ovl.ok, hset, hfront, hback]
  · next hr =>
    replace hr : s.ovl.raster = .acquiring := hr
    rw [hr] at hc
    obtain ⟨hset, hrun⟩ := hc
    exact acquire_ovl m _ rfl hl hset hrun
  · next hr =>
    replace hr : s.ovl.raster = .stable := hr
    split
    · exact ⟨by simp_all [Ovl.ok], by simp [hr]⟩
    · exact acquire_ovl m _ rfl hl rfl (by simp)
  · next hr =>
    replace hr : s.ovl.raster = .mismatch := hr
    split
    · exact ⟨by simp_all [Ovl.ok], by simp [hr]⟩
    · exact acquire_ovl m _ rfl hl rfl (by simp)

theorem endField_flt (m : FieldMeas) (s : State) (h : s.flt.ok = true) : (endField m s).flt.ok = true := by
  unfold endField
  dsimp only
  split
  · exact h
  · exact acquire_flt _ _ h
  all_goals
    split
    · exact h
    · exact acquire_flt _ _ h

/-! ## Sound operations of the overlay -/

section
variable {s v : State} (h : Sound s v)
include h

/-- An operation of the overlay that leaves the cue table and the key. -/
theorem Sound.overlay {w : State} (hk : w.ctb = v.ctb ∧ w.mkl = v.mkl) (hovl : v.ovl.ok = true → w.ovl.ok = true)
    (hflt : v.flt.ok = true → w.flt.ok = true) : Sound s w := by
  obtain ⟨hctb, hmkl⟩ := hk
  have hcues : v.cuesOk = true → w.cuesOk = true := by simp [cuesOk_iff, State.cueNames, hctb]
  exact h.trans ⟨hcues, hovl, by rw [hmkl]; exact id, hflt⟩

/-- A VSYNC leading edge: the field, and the list built of it where a geometry is frozen (R154). -/
theorem Sound.field (m : FieldMeas) : Sound s (buildList (endField m v)) := by
  refine h.overlay (by simp) (fun hv => ?_) (fun hv => by simpa using endField_flt m v hv)
  obtain ⟨hok, hr⟩ := endField_ovl m v hv
  unfold buildList
  split
  · next g hg =>
    generalize endField m v = u at hok hr hg
    cases hraster : u.ovl.raster <;> simp_all [Ovl.ok]
  · exact hok

theorem Sound.swapLists : Sound s (swapLists v) := by
  refine h.overlay (by simp) (fun hv => ?_) (by simp)
  unfold Machine.swapLists Machine.guarded
  split
  · cases hraster : v.ovl.raster <;> simp_all [Ovl.ok]
  · exact hv

theorem Sound.loseSignal : Sound s (loseSignal v) := h.overlay ⟨rfl, rfl⟩ (fun _ => by simp [Machine.loseSignal, Ovl.ok]) id

/-- A geometry is frozen at START (R151, R152). -/
theorem Sound.startOverlay : Sound s (startOverlay v) := by
  refine h.overlay (by simp) (fun hv => ?_) (fun hv => ?_)
  · unfold Machine.startOverlay
    dsimp only
    split
    · split
      · next hr _ =>
        obtain ⟨hw, hs⟩ : v.ovl.watch.isSome = true ∧ v.ovl.settled.isSome = true := by
          have hc := Ovl.ok_cases hv
          replace hr : v.ovl.raster = .stable := hr
          rwa [hr] at hc
        exact (testSettled_ovl _ _ (v.modOvl fun o => { o with frozen := some v.settings.geometry }) hw hs rfl).1
      · exact Ovl.ok_freeze hv _
    · split
      · exact Ovl.ok_freeze hv _
      · exact hv
  · unfold Machine.startOverlay
    dsimp only
    split
    · split
      · exact testSettled_flt _ _ _ hv
      · exact hv
    · split <;> exact hv

end

end Sys2Proof.Machine
end

section
/-! The cue table, the overlay, the key and Fault and Alert over every step. -/

namespace Sys2Proof.Machine
open Sys2Proof

section
variable {s v : State} (h : Sound s v)
include h

/-! ## START, RESTART and the resets (R187 to R191) -/

theorem Sound.startPart : Sound s (startPart v) := by
  rw [startPart_stages]
  exact (h.tidy (Tidy.refl v).atTracker.startTracker).startOverlay.startKey

theorem Sound.sampleStraps (st : Straps) : Sound s (sampleStraps st v) := by
  have hst : Sound s { v with straps := st } := h.tidy ((Tidy.refl v).kept ⟨rfl, rfl, rfl, rfl⟩)
  unfold Machine.sampleStraps
  dsimp only
  split
  · exact hst.guarded hst.startPart
  · exact hst.tidy ((Tidy.refl _).fault _)

/-- The blocks at their reset values. -/
theorem Sound.cleared {w : State} (hk : w.ctb = .reset ∧ w.ovl = .reset ∧ w.mkl = .reset)
    (hflt : v.flt.ok = true → w.flt.ok = true) : Sound s w := by
  obtain ⟨hctb, hovl, hmkl⟩ := hk
  have hcues : w.cuesOk = true := by
    rw [State.cuesOk, hctb]
    rfl
  exact h.trans ⟨fun _ => hcues, fun _ => hovl ▸ rfl, fun _ => hmkl ▸ rfl, hflt⟩

theorem Sound.restartPart (st : Straps) : Sound s (restartPart st v) := by
  refine Sound.sampleStraps ?_ st
  exact h.cleared ⟨rfl, rfl, rfl⟩ id

theorem Sound.fullReset (st : Straps) (levels : Levels) : Sound s (fullReset st levels v) := by
  have hreset : Sound s { resetBlocks v with
      pins := levels, resetActive := false, straps := st, settings := .default st.station, svc := .reset, flt := .reset } :=
    h.cleared ⟨rfl, rfl, rfl⟩ fun _ => rfl
  unfold Machine.fullReset
  dsimp only
  exact (hreset.sampleStraps st).tidy ((Tidy.refl _).modSvc _)

/-! ## Frames at the port -/

/-- What changes the port alone is sound. -/
theorem Sound.port {w : State} (k : PortOnly v w) : Sound s w := by
  rw [PortOnly] at k
  exact h.tidy (k ▸ (Tidy.refl v).kept ⟨rfl, rfl, rfl, rfl⟩)

theorem Sound.doRead (f : CmdFields) : Sound s (doRead f v).1 := by
  unfold Machine.doRead
  (repeat' split)
  · exact h
  · exact h.guarded (h.modMkl _ id)
  · exact h.port rfl

theorem Sound.commandAct (st : Straps) (code : BitVec 5) (f : CmdFields) : Sound s (commandAct st code f v).1 := by
  unfold Machine.commandAct
  split
  · exact h
  · exact h.doRead f
  · unfold doWrite
    split <;> exact h.port rfl
  · unfold doWatch
    split <;> exact h.port rfl
  · unfold doSend
    split <;> exact h.port rfl
  · unfold doStart
    (repeat' split)
    · exact h
    · exact h.startPart
    · exact h
  · exact h.restartPart st
  · exact h

/-- The record of a fault is cleared, the counts stay (R195). -/
theorem Sound.clearRecord : Sound s (clearRecord v) := by
  have hrecord : Sound s (v.modFlt fun f => { f with first := none, more := false }) := h.trans ⟨id, id, id, fun hv => by
    obtain ⟨hlen, hall, -⟩ := (Flt.ok_iff _).1 hv
    exact (Flt.ok_iff _).2 ⟨hlen, hall, nofun⟩⟩
  exact hrecord.guarded (hrecord.tidy (Tidy.refl _).status)

/-- A WRITE's data changes settings, the fault record or the alert sets (R180, R195, R198, R199). -/
theorem Sound.finishWrite (f : CmdFields) (d : DataWord) : Sound s (finishWrite f d v).1 := by
  have hp : Sound s (setPending .none v) := h.port rfl
  have hact : ∀ act, writeEffect f d (setPending .none v) = some act → Sound s (act (setPending .none v)) := by
    generalize setPending .none v = u at hp
    intro act hw
    unfold writeEffect at hw
    split at hw
    · cases hw
    split at hw
    · split at hw
      · obtain ⟨g, -, rfl⟩ := Option.map_eq_some_iff.1 hw
        exact hp.tidy ((Tidy.refl u).modSettings _)
      · cases hw
    · cases hw
      exact hp.clearRecord
    · split at hw
      · cases hw
        exact hp.trans ⟨id, id, id, id⟩
      · cases hw
        exact hp.trans ⟨id, id, id, id⟩
      · cases hw
    · cases hw
  unfold Machine.finishWrite
  dsimp only
  split
  · exact (hact _ ‹_›).port rfl
  · exact hp

theorem Sound.takeFrame (st : Straps) (fr : ServiceFrame) : Sound s (takeFrame st fr v) := by
  cases fr with
  | idle =>
    simp only [Machine.takeFrame, takeIdle]
    split
    · exact h.port rfl
    · exact h.tidy ((Tidy.refl v).kept ⟨rfl, rfl, rfl, rfl⟩)
  | command code f u =>
    simp only [Machine.takeFrame, takeCommand]
    split
    · refine Sound.port (Sound.commandAct ?_ st code f) rfl
      split
      · exact h
      · exact h.port rfl
    · exact h.tidy ((Tidy.refl v).kept ⟨rfl, rfl, rfl, rfl⟩)
  | data d u =>
    simp only [Machine.takeFrame, takeData]
    split
    · exact h.tidy ((Tidy.refl v).kept ⟨rfl, rfl, rfl, rfl⟩)
    · exact (h.finishWrite _ d).port rfl
    · refine Sound.port ?_ rfl
      unfold takePayload placeSend
      (repeat' split)
      · exact h.port rfl
      · exact h.tidy ((Tidy.refl v).kept ⟨rfl, rfl, rfl, rfl⟩)
      · exact h.port rfl
      · exact h.port rfl

theorem Sound.sampleBits (st : Straps) (fr : ServiceFrame) : Sound s (sampleBits st fr.bits v) := by
  rcases sampleBits_once st fr.bits v (by simp) with hport | ⟨u, fr', hu, htaken, -⟩
  · exact h.port hport
  · exact ((h.port hu).takeFrame st fr').port htaken

/-! ## The cue line -/

theorem Sound.receiveFrame (sender : BitVec 5) {effect : State → State} (he : ∀ u, Sound s u → Sound s (effect u)) :
    Sound s (receiveFrame sender effect v) := by
  have hready : Sound s (setReceiver .ready 0 v) := h.tidy ((Tidy.refl v).modClp _)
  unfold Machine.receiveFrame
  dsimp only
  (repeat' split)
  · exact h
  · exact h.tidy ((Tidy.refl v).huntFault _ _ _)
  · exact hready
  · exact hready.tidy (Tidy.refl _).enterDuplicate
  · exact he _ hready

theorem Sound.applyOwn (f : LineFrame) (t : Time) : Sound s (applyOwn f t v) := by
  cases f with
  | beacon p => exact h
  | mark p => exact h
  | status p =>
    rw [Machine.applyOwn, setPeer]
    exact h.tidy ((Tidy.refl v).modClp _)
  | punch edge p => exact h.tidy ((Tidy.refl v).applyPunch _ edge p)
  | control op p => exact h.applyControl _ op p
  | cueHead p => exact h.stageHead _ p
  | cueBody p => exact h.takeBody _ p

theorem Sound.completeFrame : Sound s (completeFrame v) := by
  unfold Machine.completeFrame
  split
  · exact (h.tidy (((Tidy.refl v).modClp _).modClp _)).applyOwn _ _
  · exact h

end

/-! ## Events and rows -/

section
variable {s u : State} {t : Time}

theorem advance_tidy (s : State) (t : Time) : Tidy s (s.advance t) := (Tidy.refl s).kept (by simp)

theorem event_sound {f : State → State} (h : s.event t f = .next u) (hf : ∀ v, Sound s v → Sound s (f v)) : Sound s u := by
  have ht := (advance_tidy s t).sound
  rw [State.event] at h
  cases h
  split
  · exact ht
  · exact hf _ ht

/-- An event with a tidy effect. -/
theorem event_tidy {f : State → State} (h : s.event t f = .next u) (hf : ∀ v, Tidy s v → Tidy s (f v)) : Sound s u := by
  have ht := advance_tidy s t
  rw [State.event] at h
  cases h
  split
  · exact ht.sound
  · exact (hf _ ht).sound

theorem frameEvent_sound {sender : BitVec 5} {effect : State → State} (h : frameEvent t sender effect s = .next u)
    (hf : ∀ v, Sound s v → Sound s (effect v)) : Sound s u :=
  event_sound h fun _ hv => hv.receiveFrame sender hf

theorem pinEvent_sound {pin : Levels → Levels} {f : State → State} (h : s.pinEvent t pin f = .next u)
    (hf : ∀ v, Sound s v → Sound s (f v)) : Sound s u := by
  have ht := advance_tidy s t
  rw [State.pinEvent] at h
  cases h
  split
  · exact ((tidy_channel s).pins pin ht).sound
  · exact hf _ ht.sound

theorem portEvent_sound {fr : ServiceFrame} (h : s.event t (samplePort fr) = .next u) : Sound s u :=
  event_sound h fun v hv => hv.sampleBits v.straps fr

theorem control_sound {sender : BitVec 5} {op : BitVec 4} {p : ControlArgs}
    (h : frameEvent t sender (applyControl sender op p) s = .next u) : Sound s u :=
  frameEvent_sound h fun _ hv => hv.applyControl sender op p

end

/-- Every row of the dispatch is sound. -/
theorem exec_sound (i : Instr) (s u : State) (h : exec i s = .next u) : Sound s u := by
  cases i with
  | fullReset t st levels =>
    cases h
    exact (advance_tidy s t).sound.fullReset st levels
  | resetnDrivenActive t =>
    cases h
    exact (Sound.refl s).cleared ⟨rfl, rfl, rfl⟩ fun _ => rfl
  | resynchronise t => exact event_sound h fun v hv => hv.port (resync_portOnly v)
  | idleFrame t => exact portEvent_sound h
  | read t f => exact portEvent_sound h
  | markRecordTake t => exact portEvent_sound h
  | write t f => exact portEvent_sound h
  | writeConfig t d => exact portEvent_sound h
  | writeAlertEnable t d => exact portEvent_sound h
  | writeAlertPending t d => exact portEvent_sound h
  | writeFault t d => exact portEvent_sound h
  | writeDataOther t d => exact portEvent_sound h
  | watch t f => exact portEvent_sound h
  | nop t f => exact portEvent_sound h
  | send t cls index word => exact portEvent_sound h
  | sendPayloadWord t d => exact portEvent_sound h
  | start t f => exact portEvent_sound h
  | restart t f st => exact event_sound h fun _ hv => hv.sampleBits st (.command 6 f.fields f.unused)
  | unknownCommand t code f => exact portEvent_sound h
  | strayDataFrame t d => exact portEvent_sound h
  | beaconFrame t stamp sender p => exact frameEvent_sound h fun v hv => hv.tidy ((Tidy.refl v).applyBeacon sender p stamp)
  | cueheadFrame t stamp sender p => exact frameEvent_sound h fun _ hv => hv.stageHead sender p
  | cuebodyFrame t stamp sender p => exact frameEvent_sound h fun _ hv => hv.takeBody sender p
  | arm t stamp sender p => exact control_sound h
  | armreel t stamp sender p => exact control_sound h
  | disarm t stamp sender p => exact control_sound h
  | disarmall t stamp sender p => exact control_sound h
  | drop t stamp sender p => exact control_sound h
  | dropreel t stamp sender p => exact control_sound h
  | dropall t stamp sender p => exact control_sound h
  | mode t stamp sender p => exact control_sound h
  | wrap t stamp sender p => exact control_sound h
  | attention t stamp sender p => exact control_sound h
  | controlUnknown t stamp sender op p => exact control_sound h
  | punchInFrame t stamp sender p => exact frameEvent_sound h fun v hv => hv.tidy ((Tidy.refl v).applyPunch sender edgeIn p)
  | punchOutFrame t stamp sender p => exact frameEvent_sound h fun v hv => hv.tidy ((Tidy.refl v).applyPunch sender edgeOut p)
  | markFrame t stamp sender p => exact frameEvent_sound h fun _ hv => hv.peerMark sender p
  | statusFrame t stamp sender p => exact frameEvent_sound h fun v hv => hv.tidy ((Tidy.refl v).peerStatus sender p stamp)
  | ownNumberFrame t => exact event_tidy h fun _ hv => hv.ownNumberHeard
  | lineCheck t f => exact event_tidy h fun _ hv => hv.checkFailed f
  | framingViolation t => exact event_tidy h fun _ hv => hv.dominantBit
  | badClassOrSender t header => exact event_tidy h fun _ hv => hv.guarded (hv.huntFault _ _ _)
  | transmitStart t => exact event_tidy h fun _ hv => hv.startFrame
  | lostArbitration t => exact event_tidy h fun _ hv => hv.modClp _
  | ownBitError t => exact event_tidy h fun _ hv => hv.bitError
  | transmitComplete t => exact event_sound h fun _ hv => hv.completeFrame
  | joinListenExpiry t => exact event_tidy h fun _ hv => hv.joinExpiry
  | statusSpacingExpiry t => exact event_tidy h fun _ hv => hv.spacingExpiry
  | tachEdge t c line level => exact pinEvent_sound h fun v hv => hv.tidy ((tidy_channel v).tachChange c line level (.refl v))
  | indexPulse t c level => exact pinEvent_sound h fun v hv => hv.tidy ((tidy_channel v).indexChange c level (.refl v) False.elim)
  | tachStallExpiry t c => exact event_tidy h fun _ hv => hv.guarded ((tidy_channel s).stallChannel c hv)
  | sourceAgingExpiry t sender => exact event_tidy h fun _ hv => hv.guarded (hv.ageSource _)
  | holdBeaconTimerExpiry t =>
    rw [exec, execHoldBeaconTimerExpiry] at h
    refine event_tidy h fun v hv => ?_
    split
    · exact hv.guarded (hv.holdTimerExpiry _)
    · exact hv
  | elementTimerExpiry t =>
    rw [exec, execElementTimerExpiry] at h
    refine event_tidy h fun v hv => ?_
    split
    · exact (hv.unlist _ _).fireElement _ _ _
    · exact hv
  | toneGateEnd t => exact event_tidy h fun _ hv => hv.guarded (hv.modCou _)
  | vsyncEdge t lines pixels =>
    rw [exec, execVsyncEdge] at h
    exact event_sound h fun _ hv => hv.field _
  | frontListSwap t => exact event_sound h fun _ hv => hv.swapLists
  | signalWatchExpiry t => exact event_sound h fun _ hv => hv.guarded hv.loseSignal
  | marknFallingEdge t => exact pinEvent_sound h fun _ hv => hv.marknChange false
  | marknRisingEdge t => exact pinEvent_sound h fun _ hv => hv.marknChange true
  | keyDebounceExpiry t => exact event_sound h fun _ hv => hv.guarded hv.keyExpiry
  | receiverReady t => exact event_tidy h fun _ hv => hv.guarded (hv.modClp _)

/-- Settles O22: a step is the passing of time, which is tidy, or a row of the dispatch, which is sound. -/
theorem cuesOverlayKeyAndFaultsAreKept : Obligations.CuesOverlayKeyAndFaultsAreKept := by
  unfold Obligations.CuesOverlayKeyAndFaultsAreKept
  intro s u h
  have hsound : Sound s u := by
    unfold step at h
    split at h
    · cases h
      exact (advance_tidy s _).sound
    · next i rest _ =>
      have htaken : Tidy s { s with pending := rest } := (Tidy.refl s).kept ⟨rfl, rfl, rfl, rfl⟩
      exact htaken.sound.trans (exec_sound i _ u h)
  exact ⟨hsound.cues, hsound.ovl, hsound.mkl, hsound.flt⟩

end Sys2Proof.Machine
end

section
/-! A cue header is staged (R82, R83). -/

namespace Sys2Proof.Machine
open Sys2Proof

/-- The set without a sender's header is the set itself exactly where the sender has none. -/
theorem stagingWithout_eq_iff (s : State) (n : Nat) : s.stagingWithout n = s.ctb.staging ↔ (s.stagedOf n).isSome = false := by
  simp [State.stagingWithout, State.stagedOf, List.filter_eq_self]

section
variable (n : BitVec 5) {h : CueHead} {s : State}

/-- Cue id 0 is discarded (R83). -/
theorem stageHead_noId (hid : h.id = 0) :
    stageHead n h s = recordFault { kind := .cueField, cue := some (h.reel, 0), sender := some n } s := if_pos hid

/-- A second header takes the newest place for the first. -/
theorem stageHead_again (hid : h.id ≠ 0) (hagain : s.stagingWithout n.toNat ≠ s.ctb.staging) :
    stageHead n h s = setStaging (s.stagingWithout n.toNat ++ [{ sender := n.toNat, head := h }]) s := by
  have hsome : (s.stagedOf n.toNat).isSome = true := by rwa [Ne, stagingWithout_eq_iff, Bool.not_eq_false] at hagain
  rw [stageHead, if_neg hid, if_pos hsome]

section
variable (hid : h.id ≠ 0) (hnew : s.stagingWithout n.toNat = s.ctb.staging)
include hid hnew

/-- A new sender's header joins a set with a free place. -/
theorem stageHead_joins (hroom : s.ctb.staging.length < 4) :
    stageHead n h s = setStaging (s.ctb.staging ++ [{ sender := n.toNat, head := h }]) s := by
  have hnone : ¬ (s.stagedOf n.toNat).isSome = true := Bool.not_eq_true _ ▸ (stagingWithout_eq_iff s n.toNat).1 hnew
  rw [stageHead, if_neg hid, if_neg hnone, if_pos hroom]

/-- A new sender's header evicts the oldest of a full set. -/
theorem stageHead_evicts {old : Staged} {rest : List Staged} (hstaging : s.ctb.staging = old :: rest) (hfull : 4 ≤ s.ctb.staging.length) :
    stageHead n h s = recordFault
      { kind := .stageEvict, cue := some (old.head.reel, old.head.id), sender := some (BitVec.ofNat 5 old.sender) }
      (setStaging (rest ++ [{ sender := n.toNat, head := h }]) s) := by
  have hnone : ¬ (s.stagedOf n.toNat).isSome = true := Bool.not_eq_true _ ▸ (stagingWithout_eq_iff s n.toNat).1 hnew
  rw [stageHead, if_neg hid, if_neg hnone, if_neg (Nat.not_lt.2 hfull), hstaging]

end

end

/-- Settles O45: the four ways of `stageHead` at a frame that takes effect. -/
theorem headersAreStaged : Obligations.HeadersAreStaged := by
  unfold Obligations.HeadersAreStaged
  intro t stamp sender h s ht hroom new staged others
  have hrun : exec (.cueheadFrame t stamp sender h) s = .next (stageHead sender h (s.heard t)) := by
    simp only [exec, execCueheadFrame]
    rw [frameEvent, State.event_next _ _ _ ht.1, receiveFrame_takes _ _ _ _ ht]
  rw [hrun]
  refine ⟨fun hid => ?_, fun hid hagain => ?_, fun hid hnew hlt => ?_, fun old rest hstaging hid hnew hfull => ?_, fun hn hlen => ?_⟩
  · rw [stageHead_noId sender (s := s.heard t) hid, recordFault_eq_faulted _ (s.heard t) hroom]
  · rw [stageHead_again sender (s := s.heard t) hid hagain]
    rfl
  · rw [stageHead_joins sender (s := s.heard t) hid hnew hlt]
    rfl
  · rw [stageHead_evicts sender (s := s.heard t) hid hnew hstaging hfull, recordFault_eq_faulted _ (setStaging _ (s.heard t)) hroom]
    rfl
  · exact ⟨_, rfl, stageHead_oneEach sender h (s.heard t) hn hlen⟩

end Sys2Proof.Machine
end

section
/-! DROP, DROPREEL and DROPALL (R93 to R97): the run that a drop ends, the turns of a drop, and all of them. -/

namespace Sys2Proof.Machine
open Sys2Proof

/-! ## Faults and punch lines do not read the scheduler -/

section
variable (s : State) (x : Csh)

theorem statusEffect_bump_csh (i : FaultInfo) :
    statusEffect (bumpFault i) { s with csh := x } = { statusEffect (bumpFault i) s with csh := x } := by
  unfold statusEffect placeStatus Clp.statusInFlight
  dsimp only
  (repeat' split) <;> rfl

theorem recordFault_csh (i : FaultInfo) : recordFault i { s with csh := x } = { recordFault i s with csh := x } := by
  unfold recordFault
  dsimp only
  split
  · exact statusEffect_bump_csh (bumpFault i s) x _
  · rfl

theorem placeFrame_csh (f : LineFrame) (cue : Option (BitVec 6 × BitVec 12)) :
    placeFrame f cue { s with csh := x } = { placeFrame f cue s with csh := x } := by
  unfold placeFrame State.listening
  dsimp only
  (repeat' split)
  · rfl
  · rfl
  · exact recordFault_csh s x _

theorem closePunch_csh (c : Chan) (d : CueDef) (r : BitVec 2) (q : Option Int) :
    closePunch c d r q { s with csh := x } = { closePunch c d r q s with csh := x } := by
  unfold closePunch placePunch
  dsimp only
  split
  · rfl
  · exact congrArg (setCause causePunch) (placeFrame_csh (s.modCou fun k => k.setPunch c (k.punch c - 1)) x _ _)

/-- What a run holds open is released without reading the cue table or the due list. -/
theorem runReleased_aside (t : Ctb) (e : CueEntry) (r : BitVec 2) (q : Option Int) :
    runReleased e r q { s with ctb := t, csh := x } = { runReleased e r q s with ctb := t, csh := x } := by
  have hclose : ∀ c, closePunch c e.cue r q { s with ctb := t, csh := x } = { closePunch c e.cue r q s with ctb := t, csh := x } := fun c => by
    rw [closePunch_csh { s with ctb := t } x, closePunch_table]
  unfold runReleased closeCuePunch
  dsimp only
  cases s.settings.recorder e.cue.group with
  | none => cases e.run.punchOpen <;> cases e.run.lightOpen <;> rfl
  | some c =>
    simp only [hclose]
    cases e.run.punchOpen <;> cases e.run.lightOpen <;> rfl

end

/-! ## The end of a run (R125) -/

section
variable {s u : State} {i : Nat} {e : CueEntry} (t : RunState)

theorem endRun_empty (he : s.entry i = none) : endRun t i s = s := by
  unfold endRun
  simp only [he]

theorem endRun_rest (he : s.entry i = some e) (hr : e.run.state ≠ .running) : endRun t i s = s := by
  unfold endRun
  simp only [he, if_neg hr]

theorem endRun_running (he : s.entry i = some e) (hr : e.run.state = .running) :
    endRun t i s = modRun i (fun r =>
      { r with state := t, outcome := .interrupted, punch := if r.punchOpen then .aborted else r.punch, punchOpen := false, lightOpen := false })
      (setCause causeCueDone (unlistEntry i (dropTally e.cue.name (runReleased e reasonAbort s.here s)))) := by
  unfold endRun
  simp only [he, if_pos hr]
  rfl

/-- Two states agree but for the cue table and the scheduler. -/
def Aside (u s : State) : Prop := u = { s with ctb := u.ctb, csh := u.csh }

/-- The end of a run reads of the cue table and the scheduler its own entry alone. -/
theorem Aside.endRun (h : Aside u s) (he : u.entry i = s.entry i) : Aside (endRun t i u) (endRun t i s) := by
  cases hs : s.entry i with
  | none => rwa [endRun_empty t hs, endRun_empty t (he.trans hs)]
  | some e =>
    by_cases hr : e.run.state = .running
    · have hhere : u.here = s.here := by rw [Aside] at h; rw [h]; rfl
      have hreleased : runReleased e reasonAbort u.here u = { runReleased e reasonAbort s.here s with ctb := u.ctb, csh := u.csh } := by
        rw [hhere, ← runReleased_aside, ← h]
      rw [endRun_running t hs hr, endRun_running t (he.trans hs) hr, hreleased]
      exact rfl
    · rwa [endRun_rest t hs hr, endRun_rest t (he.trans hs) hr]

theorem unlistEntry_unlistEntry (i : Nat) (s : State) : unlistEntry i (unlistEntry i s) = unlistEntry i s := by
  simp [unlistEntry, State.modCsh]

/-- A dropped entry is EMPTY, the rest of the table stays (R96). -/
theorem dropEntry_ctb (i : Nat) (s : State) : (dropEntry i s).ctb = (setEntry i none s).ctb := by
  unfold dropEntry
  cases hs : s.entry i with
  | none => rw [endRun_empty _ hs]; rfl
  | some e =>
    by_cases hr : e.run.state = .running
    · obtain ⟨-, -, -, -, -, -, -, hctb⟩ := runReleased_keeps e reasonAbort s.here s
      rw [endRun_running _ hs hr]
      simp [emptyEntry, modRun, setEntry, State.modCtb, hctb]
    · rw [endRun_rest _ hs hr]; rfl

/-- A dropped entry's elements leave the list (R96). -/
theorem dropEntry_csh (i : Nat) (s : State) : (dropEntry i s).csh = (unlistEntry i s).csh := by
  unfold dropEntry
  cases hs : s.entry i with
  | none => rw [endRun_empty _ hs]; rfl
  | some e =>
    by_cases hr : e.run.state = .running
    · obtain ⟨-, -, -, hcsh, -⟩ := runReleased_keeps e reasonAbort s.here s
      rw [endRun_running _ hs hr]
      simp [emptyEntry, unlistEntry, hcsh]
    · rw [endRun_rest _ hs hr]; rfl

end

/-! ## The turns of a drop -/

/-- One turn of a drop. -/
def dropTurn (p : CueDef → Bool) (i : Nat) (s : State) : State := if (s.entry i).any (fun e => p e.cue) then dropEntry i s else s

/-- One turn of the ends of runs. -/
def endTurn (p : CueDef → Bool) (i : Nat) (s : State) : State := if (s.entry i).any (fun e => p e.cue) then endRun .passed i s else s

theorem dropWhere_turns (p : CueDef → Bool) (s : State) : dropWhere p s = forIndexes Config.cueCount (dropTurn p) s := rfl

theorem runsEnded_turns (p : CueDef → Bool) (s : State) :
    s.runsEnded .passed (fun e => p e.cue) = forIndexes Config.cueCount (endTurn p) s := rfl

section
variable (p : CueDef → Bool) {s : State}

theorem dropTurn_ctb (i : Nat) (hi : i < s.ctb.entries.length) :
    (dropTurn p i s).ctb = (setEntry i (if (s.entry i).any (fun e => p e.cue) then none else s.entry i) s).ctb := by
  unfold dropTurn
  split
  · exact dropEntry_ctb i s
  · rw [setEntry_same i s hi]

theorem dropTurn_csh (i : Nat) : (dropTurn p i s).csh =
    { s.csh with due := s.csh.due.filter fun d => !(decide (d.entry = i) && (s.entry i).any fun e => p e.cue) } := by
  unfold dropTurn
  split
  · next h => simp [dropEntry_csh, unlistEntry, h]
  · next h => simp [Bool.eq_false_iff.2 h]

theorem dropTurn_entry (i : Nat) (v : State) (j : Nat) (hj : j ≠ i) : (dropTurn p i v).entry j = v.entry j := by
  unfold dropTurn
  split
  · rw [entry_congr (dropEntry_ctb i v) j]
    simp [State.entry, List.getD_eq_getElem?_getD, List.getElem?_set_ne hj.symm]
  · rfl

theorem endTurn_entry (i : Nat) (v : State) (j : Nat) (hj : j ≠ i) : (endTurn p i v).entry j = v.entry j := by
  unfold endTurn
  split
  · exact (endRun_entry .passed (by decide) i v).2 j hj
  · rfl

/-- Outside the cue table and the scheduler a drop's turns are the ends of the runs it names. -/
theorem dropTurns_aside (n : Nat) (s : State) : Aside (forIndexes n (dropTurn p) s) (forIndexes n (endTurn p) s) := by
  induction n with
  | zero => exact rfl
  | succ n ih =>
    rw [forIndexes_succ, forIndexes_succ]
    have hdrop := forIndexes_entry_beyond s (dropTurn_entry p) (Nat.le_refl n)
    have hend := forIndexes_entry_beyond s (endTurn_entry p) (Nat.le_refl n)
    generalize forIndexes n (dropTurn p) s = u at ih hdrop ⊢
    generalize forIndexes n (endTurn p) s = v at ih hend ⊢
    rw [dropTurn, endTurn, hdrop, hend]
    split
    · have hrun : Aside (endRun .passed n u) (endRun .passed n v) := ih.endRun _ (hdrop.trans hend.symm)
      rw [Aside] at hrun
      rw [dropEntry, hrun]
      exact rfl
    · exact ih

/-- After the first turns the list holds what no named entry among them lists. -/
theorem dropTurns_csh (n : Nat) (s : State) : (forIndexes n (dropTurn p) s).csh =
    { s.csh with due := s.csh.due.filter fun d => !(decide (d.entry < n) && (s.entry d.entry).any fun e => p e.cue) } := by
  induction n with
  | zero => simp [forIndexes]
  | succ n ih =>
    rw [forIndexes_succ, dropTurn_csh, forIndexes_entry_beyond s (dropTurn_entry p) (Nat.le_refl n), ih]
    dsimp only
    rw [List.filter_filter]
    congr 1
    refine List.filter_congr fun d _ => ?_
    rcases Nat.lt_trichotomy d.entry n with hlt | heq | hgt
    · simp [hlt, Nat.ne_of_lt hlt, Nat.lt_succ_of_lt hlt]
    · simp [heq]
    · simp [Nat.ne_of_gt hgt, Nat.not_lt.2 hgt, Nat.not_lt.2 (Nat.le_of_lt hgt)]

/-! ## All turns -/

variable (h : s.ctb.entries.length = Config.cueCount)
include h

/-- Each entry that the drop names is EMPTY (R96). -/
theorem dropWhere_ctb : (dropWhere p s).ctb =
    { s.ctb with entries := s.ctb.entries.map fun o => if o.any (fun e => p e.cue) then none else o } := by
  obtain ⟨⟨hstaging, hpointer⟩, hentries⟩ := forIndexes_table
    (fun o => if o.any (fun e => p e.cue) then none else o) (dropTurn p)
    (fun v => v.ctb.staging = s.ctb.staging ∧ v.ctb.pointer = s.ctb.pointer)
    (fun i v hv hi => by
      rw [dropTurn_ctb p i hi]
      exact ⟨hv, rfl⟩) s ⟨rfl, rfl⟩ h
  rw [← dropWhere_turns] at hstaging hpointer hentries
  generalize dropWhere p s = v at hstaging hpointer hentries ⊢
  exact congr (congr (congrArg Ctb.mk hentries) hstaging) hpointer

/-- The elements of each entry that the drop names leave the list (R96). -/
theorem dropWhere_csh : (dropWhere p s).csh = { s.csh with due := s.dueWithout fun e => p e.cue } := by
  have hlast : ∀ d ∈ s.csh.due, (!(decide (d.entry < Config.cueCount) && (s.entry d.entry).any fun e => p e.cue)) =
      !(s.entry d.entry).any fun e => p e.cue := by
    intro d _
    cases he : s.entry d.entry with
    | none => simp
    | some e => simp [h ▸ lt_of_entry he]
  rw [dropWhere_turns, dropTurns_csh, State.dueWithout, List.filter_congr hlast]

/-- What a drop does: the runs that it names end as interruptions, then their entries and its staged headers leave the table. -/
theorem dropped_eq (q : CueHead → Bool) : unstageWhere q (dropWhere p s) =
    { s.runsEnded .passed (fun e => p e.cue) with
      ctb := { s.ctb with
        entries := s.ctb.entries.map fun o => if o.any (fun e => p e.cue) then none else o
        staging := s.ctb.staging.filter fun x => !q x.head }
      csh := { s.csh with due := s.dueWithout fun e => p e.cue } } := by
  have hturns := dropTurns_aside p Config.cueCount s
  rw [Aside, ← dropWhere_turns, ← runsEnded_turns, dropWhere_ctb p h, dropWhere_csh p h] at hturns
  rw [hturns]
  simp only [unstageWhere, setStaging, State.modCtb]

end

/-- Settles O41: each of the three orders is a drop, whose predicates the statement writes with a conjunction. -/
theorem dropOrders : Obligations.DropOrders := by
  unfold Obligations.DropOrders
  intro t stamp sender p s ht htarget hlen drops
  have hrun : ∀ o, frameEvent t sender (applyControl sender o p) s = .next (orderOf sender o p (s.heard t)) := by
    intro o
    rw [frameEvent, State.event_next _ _ _ ht.1, receiveFrame_takes _ _ _ _ ht, applyControl_targeted _ _ _ (s.heard t) htarget]
  refine ⟨?_, ?_, ?_⟩
  · have horder : orderOf sender 4 p (s.heard t) = dropCue p.reel p.id (s.heard t) := rfl
    simp only [exec, execDrop]
    rw [hrun, horder, dropCue, dropped_eq _ (s := s.heard t) hlen]
    simp only [← Bool.decide_and]
    rfl
  · have horder : orderOf sender 5 p (s.heard t) = dropReel p.reel (s.heard t) := rfl
    simp only [exec, execDropreel]
    rw [hrun, horder, dropReel, dropped_eq _ (s := s.heard t) hlen]
    simp only [← Bool.decide_and]
    rfl
  · have horder : orderOf sender 6 p (s.heard t) = dropAll (s.heard t) := rfl
    simp only [exec, execDropall]
    rw [hrun, horder, dropAll, dropped_eq _ (s := s.heard t) hlen]
    rfl

end Sys2Proof.Machine
end

section
/-! A cue body commits its cue (R84 to R92): finding the cue and its place, the definition with its corrections, and what each way of
a commit does. -/

namespace Sys2Proof.Machine
open Sys2Proof

/-! ## Finding the cue and a place -/

section
variable {s : State} {r : BitVec 6} {n : BitVec 12} {i : Nat}

theorem findCue_of_isCue (h : s.isCue i r n = true) : s.findCue r n = some i := by
  simp only [State.isCue, Bool.and_eq_true, decide_eq_true_eq, List.all_eq_true, List.mem_range, Bool.or_eq_true] at h
  obtain ⟨⟨hi, hname⟩, honly⟩ := h
  refine List.find?_range_eq_some.2 ⟨by simpa using hname, List.mem_range.2 hi, fun j hj => ?_⟩
  rcases honly j (by omega) with heq | hnot
  · omega
  · simpa using hnot

theorem findCue_of_noCue (h : s.noCue r n = true) : s.findCue r n = none := by
  refine List.find?_eq_none.2 fun j hj => ?_
  simpa using List.all_eq_true.1 h j hj

theorem firstEmpty_eq (hi : i < 32) (he : s.entry i = none) (hbelow : ∀ j < i, (s.entry j).isSome = true) : s.firstEmpty = some i := by
  refine List.find?_range_eq_some.2 ⟨by rw [he]; rfl, List.mem_range.2 hi, fun j hj => ?_⟩
  simpa using hbelow j hj

theorem firstEmpty_none (h : ∀ i < 32, (s.entry i).isSome = true) : s.firstEmpty = none := by
  refine List.find?_eq_none.2 fun j hj => ?_
  simp [Option.isSome_iff_ne_none.1 (h j (List.mem_range.1 hj))]

/-- The first IDLE entry is found at the least distance from the pointer. -/
theorem firstIdle_eq {k : Nat} (hk : k < 32) (hidle : s.inState ((s.ctb.pointer + k) % 32) .idle = true)
    (hbefore : ∀ j < k, s.inState ((s.ctb.pointer + j) % 32) .idle = false) : s.firstIdle = some ((s.ctb.pointer + k) % 32) := by
  have hfound : (List.range 32).find? ((fun i => s.inState i .idle) ∘ fun k => (s.ctb.pointer + k) % 32) = some k :=
    List.find?_range_eq_some.2 ⟨hidle, List.mem_range.2 hk, fun j hj => by simp [hbefore j hj]⟩
  rw [State.firstIdle, List.find?_map, hfound]
  rfl

theorem firstIdle_none (h : ∀ k < 32, s.inState ((s.ctb.pointer + k) % 32) .idle = false) : s.firstIdle = none := by
  rw [State.firstIdle, List.find?_map, Option.map_eq_none_iff, List.find?_eq_none]
  intro k hk
  simp [h k (List.mem_range.1 hk)]

end

/-! ## The definition and its corrections (R81, R89) -/

theorem wants_iff (g : Settings) (mask : BitVec 16) (group : BitVec 5) : g.wants mask group = true ↔
    (g.served.any fun pos => mask.getLsbD pos) = true ∨ group.toNat ≤ 15 ∧ (g.recorder (some group.toNat)).isSome = true := by
  rw [Settings.wants, Settings.serves, Bool.or_eq_true, Bool.and_eq_true, decide_eq_true_eq]

theorem storedSpacing_eq (b : CueBody) :
    storedSpacing b = if b.beeps = 0 then b.spacing.toNat else max 1 (min 96 b.spacing.toNat) := by
  rw [storedSpacing, clamp_eq 1 96 _ (by omega)]

/-- The definition as stored, of a header whose reel tag and cue id are the body's. -/
theorem committed_eq {h : CueHead} {b : CueBody} (hreel : h.reel = b.reel) (hid : h.id = b.id) : committed h b =
    { id := b.id, reel := b.reel, global := decide (h.global = 1), mask := h.mask, frame := h.frame.toInt, phase := h.phase.toNat,
      group := if h.group.toNat ≤ 15 then some h.group.toNat else none, streamer := b.streamer.toNat, colour := b.colour,
      beeps := min 4 b.beeps.toNat, spacing := if b.beeps = 0 then b.spacing.toNat else max 1 (min 96 b.spacing.toNat),
      light := decide (b.light = 1), lightLead := b.lightLead.toNat, punchLead := b.punchLead.toNat, outOffset := b.outOffset.toNat,
      lightHold := if b.lightHold = 0 ∧ b.light = 1 ∧ b.outOffset = 0 then 1 else b.lightHold.toNat } := by
  rw [committed, storedSpacing_eq, storedGroup, storedHold, hreel, hid]

theorem corrections_eq_count (h : CueHead) (b : CueBody) : corrections h b =
    [decide (4 < b.beeps.toNat), decide (storedSpacing b ≠ b.spacing.toNat), decide (16 ≤ h.group.toNat ∧ h.group.toNat ≤ 30),
      decide (storedHold b ≠ b.lightHold.toNat)].count true := by
  have hcons : ∀ (x : Bool) l, (x :: l).count true = l.count true + x.toNat := fun x l => by cases x <;> simp
  simp only [corrections, hcons, List.count_nil]
  omega

/-! ## A fault recorded several times (R192 to R194) -/

section
variable (i : FaultInfo) (s : State)

theorem recordTimes_succ (n : Nat) : recordTimes i (n + 1) s = recordFault i (recordTimes i n s) := by
  induction n generalizing s with
  | zero => rfl
  | succ n ih => exact ih (recordFault i s)

theorem recordTimes_eq_foldl (n : Nat) : recordTimes i n s = (List.range n).foldl (fun v _ => recordFault i v) s := by
  induction n with
  | zero => rfl
  | succ n ih => rw [recordTimes_succ, List.range_succ, List.foldl_append, ← ih]; rfl

/-- A record stays. -/
theorem recordTimes_first_stays {r : FaultRec} (h : s.flt.first = some r) (n : Nat) : (recordTimes i n s).flt.first = some r := by
  induction n with
  | zero => exact h
  | succ n ih => rw [recordTimes_succ, recordFault_first, ih]; rfl

/-- The first of several fills an empty record. -/
theorem recordTimes_first (h : s.flt.first = none) {n : Nat} (hn : n ≠ 0) :
    (recordTimes i n s).flt.first = some (faultRecord i s) := by
  obtain ⟨m, rfl⟩ := Nat.exists_eq_succ_of_ne_zero hn
  exact recordTimes_first_stays i _ (by rw [recordFault_first, h]; rfl) m

/-- Corrections are counted, up to 255. -/
theorem recordTimes_count (hi : i.kind = .cueField) (h : s.flt.ok = true) (n : Nat) :
    (recordTimes i n s).flt.counts.getD 10 0 = min 255 (s.flt.counts.getD 10 0 + n) := by
  induction n with
  | zero =>
    have hle := (Flt.ok_count h 10).2
    simp only [recordTimes]
    omega
  | succ n ih =>
    have hok : (recordTimes i n s).flt.ok = true := ((Tidy.refl s).faults i n).flt h
    have hlen := (Flt.ok_count hok 10).1
    rw [recordTimes_succ, List.getD_eq_getElem?_getD,
      recordFault_count_own _ i (by rw [hi]; rfl) (by decide) (by omega), satInc_count hok, ih, Option.getD_some]
    omega

end

/-! ## A commit (R87 to R92) -/

section
variable {s : State} {h : CueHead} {b : CueBody} {n : BitVec 5} {i : Nat} {e : CueEntry}

/-- A definition not for this station, of a cue that it does not have. -/
theorem commit_ignores (hw : s.settings.wants h.mask h.group = false) (hf : s.findCue h.reel h.id = none) : commit h b n s = s := by
  simp [commit, hw, hf]

/-- A RUNNING entry is busy (R88). -/
theorem commit_busy (hf : s.findCue h.reel h.id = some i) (he : s.entry i = some e) (hr : e.run.state = .running) :
    commit h b n s = recordFault { kind := .cueBusy, cue := some (h.reel, h.id), sender := some n } s := by
  simp [commit, hf, State.inState, he, hr]

/-- A definition not for this station withdraws its entry (R87). -/
theorem commit_withdraws (hw : s.settings.wants h.mask h.group = false) (hf : s.findCue h.reel h.id = some i) (he : s.entry i = some e)
    (hr : e.run.state ≠ .running) : commit h b n s = emptyEntry i s := by
  simp [commit, hw, hf, State.inState, he, hr]

section
variable (hw : s.settings.wants h.mask h.group = true)
include hw

theorem commit_updates (hf : s.findCue h.reel h.id = some i) (he : s.entry i = some e) (hr : e.run.state ≠ .running) :
    commit h b n s = updateEntry i (committed h b)
      (recordTimes { kind := .cueField, cue := some (h.reel, h.id), sender := some n } (corrections h b) s) := by
  simp [commit, hw, hf, State.inState, he, hr]

theorem commit_places (hf : s.findCue h.reel h.id = none) :
    commit h b n s = placeCue (committed h b) n
      (recordTimes { kind := .cueField, cue := some (h.reel, h.id), sender := some n } (corrections h b) s) := by
  simp [commit, hw, hf]

end

/-- A run part after an update in place (R90, R105): IDLE stays, ARMED and PASSED are re-derived. -/
def RunPart.updated (q : Option Int) (d : CueDef) (r : RunPart) : RunPart :=
  if r.state = .idle then r
  else if armedState q d = .armed then { r with state := .armed, fired := 0 }
  else { r with state := .passed }

theorem ahead_iff (q : Option Int) (d : CueDef) : ahead q d = true ↔ armedState q d = .armed := by
  cases q with
  | none => simp [ahead, armedState]
  | some p => simp [ahead, armedState]

/-- An update in place of an entry that is not RUNNING (R90). -/
theorem updateEntry_eq (d : CueDef) (he : s.entry i = some e) (hr : e.run.state ≠ .running) : updateEntry i d s = { s with
    ctb := { s.ctb with entries := s.ctb.entries.set i (some { cue := d, run := e.run.updated s.here d }) }
    csh := { s.csh with due := s.csh.due.filter fun y => decide (y.entry ≠ i) } } := by
  generalize hv : unlistEntry i (setEntry i (some { e with cue := d }) s) = v
  have hset : v.entry i = some { e with cue := d } := by
    rw [← hv, entry_set (s := s) rfl (lt_of_entry he) i, if_pos rfl]
  have hrun : ∀ f, modRun i f v = setEntry i (some { cue := d, run := f e.run }) (unlistEntry i s) := fun f => by
    rw [modRun, hset, ← hv]
    simp [setEntry, unlistEntry, State.modCtb, State.modCsh]
  have hhere : v.here = s.here := hv ▸ rfl
  simp only [updateEntry, he, Option.map_some, hv, State.inState, hset, hhere, Option.any_some, ahead_iff, hrun]
  cases hs : e.run.state with
  | running => exact absurd hs hr
  | idle =>
    rw [← hv]
    simp [RunPart.updated, hs, unlistEntry, setEntry, State.modCsh, State.modCtb]
  | armed | passed =>
    by_cases ha : armedState s.here d = .armed <;> simp [RunPart.updated, hs, ha, unlistEntry, setEntry, State.modCsh, State.modCtb]

/-- The lowest EMPTY entry takes a new cue (R91). -/
theorem placeCue_empty (d : CueDef) (n : BitVec 5) (hf : s.firstEmpty = some i) : placeCue d n s = enterCue i d s := by
  simp only [placeCue, hf]

/-- Without an EMPTY entry the first IDLE one is replaced (R92). -/
theorem placeCue_idle (d : CueDef) (n : BitVec 5) (hf : s.firstEmpty = none) (hi : s.firstIdle = some i) :
    placeCue d n s = (enterCue i d s).modCtb fun c => { c with pointer := (i + 1) % 32 } := by
  simp only [placeCue, hf, hi]

/-- Without an IDLE entry either the table is full (R92). -/
theorem placeCue_full (d : CueDef) (n : BitVec 5) (hf : s.firstEmpty = none) (hi : s.firstIdle = none) :
    placeCue d n s = recordFault { kind := .tableFull, cue := some d.name, sender := some n } s := by
  simp only [placeCue, hf, hi]

/-- The places are found in the cue table alone. -/
theorem places_congr {v w : State} (h : v.ctb = w.ctb) : v.firstEmpty = w.firstEmpty ∧ v.firstIdle = w.firstIdle := by
  have he := entry_congr h
  simp only [State.firstEmpty, State.firstIdle, State.inState, he, h, and_self]

end

/-! ## A cue body (R84, R85) -/

section
variable (n : BitVec 5) {b : CueBody} {s : State}

theorem stagedOf_eq_head? (s : State) (n : Nat) : s.stagedOf n = (s.ctb.staging.filter fun x => decide (x.sender = n)).head? :=
  List.head?_filter.symm

/-- A body without its own header is an orphan (R84). -/
theorem takeBody_orphan (h : ((s.ctb.staging.filter fun x => decide (x.sender = n.toNat)).all fun x =>
      !decide (x.head.reel = b.reel ∧ x.head.id = b.id)) = true) :
    takeBody n b s = recordFault { kind := .orphanBody, cue := some (b.reel, b.id), sender := some n } s := by
  unfold takeBody
  split
  · next x hx =>
    rw [stagedOf_eq_head?] at hx
    have hnot := List.all_eq_true.1 h x (List.mem_of_head? hx)
    rw [if_neg (by simpa only [Bool.not_eq_true', decide_eq_false_iff_not] using hnot)]
  · rfl

/-- A body with its own header is committed (R85). -/
theorem takeBody_commits {x : Staged} (hx : s.ctb.staging.filter (fun x => decide (x.sender = n.toNat)) = [x])
    (hreel : x.head.reel = b.reel) (hid : x.head.id = b.id) :
    takeBody n b s = commit x.head b n (setStaging (s.stagingWithout n.toNat) s) := by
  have hstaged : s.stagedOf n.toNat = some x := by rw [stagedOf_eq_head?, hx]; rfl
  simp only [takeBody, hstaged, if_pos (And.intro hreel hid)]

end

/-- Settles O46: the ways of `commit` at a frame that takes effect. -/
theorem bodiesCommitTheirCues : Obligations.BodiesCommitTheirCues := by
  unfold Obligations.BodiesCommitTheirCues
  intro t stamp sender b s ht hroom hlen mine name u run
  have hrun : run = .next (takeBody sender b (s.heard t)) := by
    simp only [run, exec, execCuebodyFrame]
    rw [frameEvent, State.event_next _ _ _ ht.1, receiveFrame_takes _ _ _ _ ht]
  rw [hrun]
  refine ⟨fun horphan => ?_, ?_⟩
  · rw [takeBody_orphan sender (s := s.heard t) horphan, recordFault_eq_faulted _ (s.heard t) hroom]
  intro x hmine hreel hid h d fixes noted wanted entered named rerun
  have hbody : takeBody sender b (s.heard t) = commit h b sender u := takeBody_commits sender (s := s.heard t) hmine hreel hid
  have hname : some (h.reel, h.id) = name := congrArg some (Prod.ext hreel hid)
  have hd : committed h b = d := committed_eq hreel hid
  have hfixes : corrections h b = fixes := by rw [corrections_eq_count, storedSpacing_eq]; rfl
  have hnoted : recordTimes { kind := .cueField, cue := name, sender := some sender } fixes u = noted := recordTimes_eq_foldl _ u fixes
  have hwants : u.settings.wants h.mask h.group = true ↔ wanted := wants_iff _ _ _
  have hfound : ∀ i, s.isCue i b.reel b.id = true → u.findCue h.reel h.id = some i := fun i hi => by
    rw [show h.reel = b.reel from hreel, show h.id = b.id from hid]
    exact findCue_of_isCue (s := u) hi
  have hnew : named → u.findCue h.reel h.id = none := fun hn => by
    rw [show h.reel = b.reel from hreel, show h.id = b.id from hid]
    exact findCue_of_noCue (s := u) hn
  have hctb : noted.ctb = u.ctb := by rw [← hnoted, recordTimes_ctb]
  have hcsh : noted.csh = s.csh := by rw [← hnoted]; simp [u, State.heard]
  have hhere : noted.here = s.ptr.position t := by rw [← hnoted]; simp [u, State.here, State.heard]
  obtain ⟨hempty, hidle⟩ := places_congr hctb
  have hplaces : named → wanted → commit h b sender u = placeCue d sender noted := fun hn hw => by
    rw [commit_places (hwants.2 hw) (hnew hn), hd, hname, hfixes, hnoted]
  rw [hbody]
  refine ⟨fun hn hw => ?_, fun i hi e he => ⟨fun hr => ?_, fun hr hw => ?_, fun hr hw => ?_⟩, fun i hi he hbelow hn hw => ?_,
    fun hfull hn hw => ⟨fun k hk hk' hbefore => ?_, fun hnone => ?_⟩, fun h0 => ?_, fun hok => ⟨hctb, hcsh, ?_, fun hne hfirst => ?_⟩⟩
  · rw [commit_ignores (Bool.eq_false_iff.2 (mt hwants.1 hw)) (hnew hn)]
  · rw [commit_busy (hfound i hi) (e := e) he hr, hname, recordFault_eq_faulted _ u hroom]
  · rw [commit_withdraws (Bool.eq_false_iff.2 (mt hwants.1 hw)) (hfound i hi) (e := e) he hr]
    rfl
  · rw [commit_updates (hwants.2 hw) (hfound i hi) (e := e) he hr, hd, hname, hfixes, hnoted,
      updateEntry_eq d (e := e) ((entry_congr hctb i).trans he) hr, hhere, hctb, hcsh]
    rfl
  · have hplace : noted.firstEmpty = some i := hempty.trans (firstEmpty_eq (s := u) hi he hbelow)
    rw [hplaces hn hw, placeCue_empty d sender hplace, enterCue, setEntry, State.modCtb, hctb]
  · have hplace := hidle.trans (firstIdle_eq (s := u) hk hk' hbefore)
    rw [hplaces hn hw, placeCue_idle d sender (hempty.trans (firstEmpty_none (s := u) hfull)) hplace, enterCue, setEntry,
      State.modCtb, State.modCtb, hctb]
  · rw [hplaces hn hw, placeCue_full d sender (hempty.trans (firstEmpty_none (s := u) hfull))
      (hidle.trans (firstIdle_none (s := u) hnone))]
    rfl
  · rw [← hnoted, h0]
    rfl
  · rw [← hnoted]
    exact recordTimes_count _ u rfl hok fixes
  · rw [← hnoted]
    exact recordTimes_first _ u hfirst hne

end Sys2Proof.Machine
end
